-- ==== Sys2Proof/Word.lean ====
section
/-!
DEFINITION. The word types of the model: bytes and byte strings (R4, R45), and 64-bit words for
engine registers and fuse rows.
-/
namespace Sys2Proof

/-- One byte. -/
abbrev Byte := BitVec 8

/-- A byte string, first byte first (R45). -/
abbrev Bytes := List Byte

/-- A 64-bit word: an engine register (Table 7-1) or a fuse row (R380). -/
abbrev Word := BitVec 64

end Sys2Proof
end

