-- ==== Sys2Proof/Syntax.lean ====
section
/-!
DEFINITION. The commands of the block: one constructor per row of spec/opcode_table.json, with the row's
operands.  A row the Kaznu service executes has no operand: the request it executes waits in the state.
What a transaction outside the block answers (a DMA read, a link partner's bytes, a sensor, a self-test, an upset
that a scrub finds) is an operand of the command that meets it (log entry 3).
-/
namespace Sys2Proof

/-- A function that can be Frosted: CLASS and INSTANCE of Table 3-8. -/
structure FnId where
  cls : Nat
  inst : Nat
  deriving DecidableEq, Repr

/-- What a read of protected storage met: nothing, a correctable error, or an uncorrectable one. -/
inductive EccOutcome where
  | clean | correctable | uncorrectable
  deriving DecidableEq, Repr

/-- An upset of a triplicated field (Table 2-6): its field ID, and whether two copies still agree. -/
structure Upset where
  field : Nat
  resolved : Bool
  deriving DecidableEq, Repr

/-- An upset of a ternary tile's row (R178): what the row holds from then on. -/
structure TileUpset where
  tile : Fin 64
  row : Fin 2048
  data : BitVec 80
  mask : BitVec 80
  prio : BitVec 16
  odd : Bool
  even : Bool
  deriving DecidableEq, Repr

/-- The cascade self-test of one complex (R176): the tiles whose full links failed, and whether a short link failed. -/
structure SelfTest where
  failedTiles : Nat
  shortFailed : Bool
  deriving DecidableEq, Repr

/-- A node of the scheduler that has a shaper (R323). -/
inductive NodeId where
  | port (p : Nat) | group (g : Nat) | tenantNode (n : Nat) | queue (q : Nat)
  deriving DecidableEq, Repr

/-- A transaction that an SMBus master makes at the device's address (R451): the command code, and whether its protocol is a
write. -/
structure SmbusCall where
  code : Fin 256
  write : Bool
  deriving DecidableEq, Repr

/-- The FEC codewords of a frame that decode (R109): those clean and those corrected. -/
structure FecDecoded where
  clean : Nat
  corrected : Nat
  deriving DecidableEq, Repr

/-- A take of an ingress merge: the port group, what the reads of a recirculated copy's cells meet, and what the read of a
node's record meets. -/
structure MergeTake where
  pg : Fin 4
  cell : EccOutcome
  node : Fin 256
  found : EccOutcome
  deriving DecidableEq, Repr

/-- What a ternary search meets: the read of the associated data, and the upsets of tile rows since the last search. -/
structure TcamReads where
  ad : EccOutcome
  upsets : List TileUpset
  deriving DecidableEq, Repr

/-- An issue slot of a cluster: the engine, and what its fetch of the microword meets. -/
structure IssueSlot where
  engine : Fin 64
  fetch : EccOutcome
  deriving DecidableEq, Repr

/-- A job descriptor as its DMA read gives it, and its source as the engine's reads find it up to where the job may be
suspended (R277). -/
structure JobRead where
  desc : Bytes
  source : Bytes
  deriving DecidableEq, Repr

/-- A host's write of a register: the value, and the size of the access in bytes (R400). -/
structure HostWrite where
  value : Nat
  size : Nat
  deriving DecidableEq, Repr

/-- A configuration write of a function's control bits: Bus Master Enable, and Enable Relaxed Ordering where it is written
too. -/
structure BusControl where
  master : Bool
  relaxed : Option Bool
  deriving DecidableEq, Repr

/-- The commands, in the order of spec/opcode_table.json. -/
inductive Instr where
  /-- KAZNU_READ (R57): The Kaznu service takes a READ request and returns one subindex value, shadow or active, with its AGE. -/
  | kaznuRead
  /-- KAZNU_WRITE (R48): The Kaznu service takes a WRITE to a subindex that has no row of its own and applies it according to its access code. -/
  | kaznuWrite
  /-- KAZNU_READ_BLOCK (R71): The Kaznu service takes a READ_BLOCK and returns count bytes of a DOMAIN from a granule-aligned offset. -/
  | kaznuReadBlock
  /-- KAZNU_WRITE_BLOCK (R72): The Kaznu service takes a WRITE_BLOCK, checks it in full, writes it granule by granule and, with FINAL, asks the domain's owner to process the data. -/
  | kaznuWriteBlock
  /-- KAZNU_COMMIT (R58): The Kaznu service takes a COMMIT naming a strobe-group mask and starts a generation front in PREPARE. -/
  | kaznuCommit
  /-- STATUS_SERVICE (R67): A STATUS request with AUX bit 0 clear returns device state, draining flag, master and generation. -/
  | statusService
  /-- STATUS_DESCRIPTOR (R67): A STATUS request with AUX bit 0 set returns the type, access, group and flags descriptor of a subindex. -/
  | statusDescriptor
  /-- MAILBOX_GO (R73): A host write of GO to MB_CTRL submits the request buffer, or is ignored and counted in MISUSE while BUSY. -/
  | mailboxGo (fn : Fin 32) (offset : Nat) (data : Bytes)
  /-- MGMT_DATAGRAM (R75): A management port receives a Kaznu UDP datagram, verifies its trailer and handles it by its session sequence number. -/
  | mgmtDatagram (mport : Fin 2) (source : Nat) (datagram : Bytes)
  /-- SESSION_OPEN (R75): A write of OPEN to a session STATE opens the session with its key and sets L to 0. -/
  | sessionOpen
  /-- SESSION_CLOSE (R75): A write of CLOSED to a session STATE closes it and erases its key and kept response. -/
  | sessionClose
  /-- INBAND_REQUEST (R76): A tenant's in-band Kaznu request handed to port 131 is checked against the token bucket and tenant scope, executed, and answered in a frame. -/
  | inbandRequest
  /-- TMR_SCRUB (R66): A scrub pass votes every triplicated field at least once per millisecond. -/
  | tmrScrub (upsets : List Upset)
  /-- FROST_SOFT (R98): FROST_REQUEST SOFT stops admission to a function and starts its drain deadline. -/
  | frostSoft
  /-- FROST_HARD (R101): FROST_REQUEST HARD stops admission and starts a flush of all in-flight work of the function. -/
  | frostHard
  /-- FROST_THAW (R98): FROST_REQUEST THAW returns a FROZEN function to ACTIVE and resumes admission. -/
  | frostThaw
  /-- FROST_DISABLE (R98): FROST_REQUEST DISABLE moves a FROZEN function to DISABLED and applies the class action of Table 3-10. -/
  | frostDisable
  /-- FROST_ENABLE (R98): FROST_REQUEST ENABLE moves a DISABLED function to FROZEN. -/
  | frostEnable
  /-- FROST_DEADLINE (R101): A soft Frost's deadline expires, and a forced flush of the remaining work starts. -/
  | frostDeadline (fn : FnId)
  /-- FROST_COMPLETE (R101): The in-flight work of a FROSTING function reaches zero, so it becomes FROZEN and releases its buffers. -/
  | frostComplete (fn : FnId)
  /-- QUAD_MODE_WRITE (R107): A write of QUAD_MODE is accepted only when the quad is OFF or its ports are DISABLED, and it resets the shadow FEC of the new mode's ports. -/
  | quadModeWrite
  /-- PORT_ENABLE (R115): A write of a port's ENABLE starts training, or takes the link to OFF and flushes its queues. -/
  | portEnable
  /-- PORT_RESET_RETRAIN (R129): PORT_RESET value 1 takes the port out of UP with a Lull hold and restarts training. -/
  | portResetRetrain
  /-- PORT_RESET_RESET (R129): PORT_RESET value 2 resets MAC, PCS and FEC, flushes the port without a hold and restarts training. -/
  | portResetReset
  /-- TRAINING_COMPLETE (R112): All lanes of a port finish training, and the port enters ALIGNING with a 50 ms alignment timer. -/
  | trainingComplete (p : Fin 128)
  /-- TRAINING_TIMEOUT (R111): The training timer expires, and the port restarts training with event cause TRAIN_FAIL. -/
  | trainingTimeout (p : Fin 128)
  /-- ALIGNMENT_LOCK (R112): Block, marker and codeword lock hold for 10 µs, so the port reaches UP and any running hold resumes. -/
  | alignmentLock (p : Fin 128)
  /-- ALIGNMENT_TIMEOUT (R112): The alignment timer expires, and the port returns to TRAINING. -/
  | alignmentTimeout (p : Fin 128)
  /-- LINK_DOWN (R113): A down condition lasts for DOWN_DEBOUNCE_US, and the port leaves UP for TRAINING. -/
  | linkDown (p : Fin 128) (lostLanes : Nat)
  /-- LULL_WINDOW_EXPIRY (R124): The hold timer reaches the window, and the port's held frames are flushed. -/
  | lullWindowExpiry (p : Fin 128)
  /-- MAC_RECEIVE (R122): A complete frame at a MAC passes FCS and size checks and is stamped, identified, tested for in band and throttled. -/
  | macReceive (p : Fin 128) (bytes : Bytes) (fec : FecDecoded) (uncorrectable : Nat)
  /-- MAC_TRANSMIT_END (R460): A MAC sends the last bit of a frame, which leaves the census and is counted. -/
  | macTransmitEnd (p : Fin 128)
  /-- INGRESS_MERGE (R131): A pipeline takes a frame from the ingress merge, the inject queue or the recirculation queue and walks the parse graph. -/
  | ingressMerge (take : MergeTake)
  /-- PARSE_COMPLETE (R134): A frame leaves the parser for the key builder 64 PG cycles after it entered. -/
  | parseComplete (pg : Fin 4)
  /-- GRAPH_SCRUB (R143): The parse-graph store of each parity copy is scrubbed, correcting single-bit errors. -/
  | graphScrub (pg : Fin 4) (copy : Bool) (node : Fin 256) (found : EccOutcome)
  /-- TCAM_LOOKUP (R166): A complex sends a ternary search to a group of its table, which returns the highest-priority matching row. -/
  | tcamLookup (c : Fin 4) (met : TcamReads)
  /-- EM_LOOKUP (R183): An exact-match lookup hashes the key and examines both buckets for the entry of its parity. -/
  | emLookup (c : Fin 4) (hbm : EccOutcome)
  /-- LPM_LOOKUP (R185): A longest-prefix lookup returns the longest matching route of the VRF and family. -/
  | lpmLookup (c : Fin 4) (hbm : EccOutcome)
  /-- GROUP_ENABLE (R175): A write of group ENABLE = 1 starts filling the group's tiles from the golden copy. -/
  | groupEnable
  /-- GROUP_FILL_DONE (R175): The sequencer finishes filling a newly enabled group. -/
  | groupFillDone (c : Fin 4) (g : Fin 16)
  /-- EM_TABLE_ENABLE (R181): A write of ENABLE = 1 to an exact-match table enabled in neither copy starts clearing its buckets. -/
  | emTableEnable
  /-- EM_CLEAR_DONE (R181): Clearing of a newly enabled exact-match table completes, and BATCH_STATE returns to IDLE. -/
  | emClearDone (t : Fin 64)
  /-- TABLE_BATCH_DONE (R189): A pending command batch finishes, its results are written, and event 201 fires. -/
  | tableBatchDone (lpm : Bool)
  /-- FIXED_SELECT (R176): A write of FIXED_SELECT switches a complex into or out of fixed geometry and disables its groups. -/
  | fixedSelect
  /-- CASCADE_SELFTEST_DONE (R176): Cascade self-test completes after entry to INIT and sets each complex's GEOMETRY. -/
  | cascadeSelftestDone (links : List SelfTest)
  /-- TCAM_SCRUB (R178): The sequencer compares tile rows with the golden copy and repairs those that differ. -/
  | tcamScrub (c : Fin 4) (upsets : List TileUpset)
  /-- HBM_SCRUB_LINE (R192): The HBM scrubber reads the next 64-byte line of a table, LPM or golden region and corrects or reports it. -/
  | hbmScrubLine (found : EccOutcome)
  /-- HBM_STACK_FAILED (R439): An HBM stack fails training or reports 64 uncorrectable errors within 1 s, and its lookups return ERROR. -/
  | hbmStackFailed (stack : Fin 4)
  /-- DISPATCH (R199): The dispatcher sends a frame to a free thread of the considered cluster with the most credits. -/
  | dispatch (pg : Fin 4)
  /-- CREDIT_RETURN (R198): A thread credit returns to the dispatcher when the thread becomes FREE. -/
  | creditReturn (pg : Fin 4) (c : Fin 16)
  /-- MICROWORD_ISSUE (R196): An engine issues one microword from a READY thread, driving every unit of its nanoword. -/
  | microwordIssue (c : Fin 16) (slot : IssueSlot)
  /-- LOOKUP_RESULT_ARRIVAL (R156): A lookup result and status reach the thread's slot, and waiting microwords may become ready. -/
  | lookupResultArrival (c : Fin 16) (e : Fin 64) (t : Fin 16)
  /-- VERDICT_ARRIVAL (R260): The ingress tag verdict reaches the frame's thread and clears AUTH_PENDING. -/
  | verdictArrival (c : Fin 16) (e : Fin 64) (t : Fin 16)
  /-- POOL_RESULT_ARRIVAL (R215): The switch core's answer to a pool operation writes g15 and the pool condition bits. -/
  | poolResultArrival (c : Fin 16) (e : Fin 64) (t : Fin 16)
  /-- RESULT_ACCEPTED (R203): The channel to SWC accepts a thread's result, and the thread becomes FREE and releases HELD chains. -/
  | resultAccepted (c : Fin 16) (e : Fin 64) (t : Fin 16)
  /-- SMALL_STORE_MICROWORD (R226): A small-store sequencer executes one microword and goes to PC + 1 or NEXT. -/
  | smallStoreMicroword (store : Fin 3) (cond : Bool)
  /-- RELOAD (R231): A write of RELOAD starts a rolling reload, with a drain when the cluster is LOADED and ACTIVE. -/
  | reload
  /-- CLUSTER_RESET (R232): A write of CLUSTER_RESET hard-Frosts the cluster, resets it and leaves it UNLOADED. -/
  | clusterReset
  /-- RELOAD_STORES_WRITTEN (R231): The image is verified and both stores are written, so the cluster enters TESTING, or UNLOADED on a hash mismatch. -/
  | reloadStoresWritten (c : Fin 16) (hashOk : Bool)
  /-- RELOAD_SELFTEST_DONE (R231): Cluster self-test ends, leaving it LOADED and thawed, or UNLOADED. -/
  | reloadSelftestDone (c : Fin 16) (pass : Bool)
  /-- STORE_SCRUB (R230): The microstore and nanostore are scrubbed, correcting single-bit errors. -/
  | storeScrub (c : Fin 16) (nano : Bool) (addr : Fin 16384) (found : EccOutcome)
  /-- FRONT_FLIP (R237): Sequencer preparation completes, the generation pointer flips, the COMMIT returns OK and the front goes to the islands. -/
  | frontFlip
  /-- FRONT_ARRIVAL (R239): A front reaches an island, which applies its taken-on-arrival objects and acknowledges. -/
  | frontArrival (isl : Fin 25)
  /-- FRONT_DISTRIBUTED (R240): Every non-PG island has acknowledged, and the front is sent to PG0 to PG3. -/
  | frontDistributed
  /-- FRONT_STAMPED (R241): PG0 to PG3 have acknowledged, the old-parity entry total is final and the front enters DRAIN. -/
  | frontStamped
  /-- FRONT_STALL (R246): An island stays silent 1 ms after the flip, so event 17 fires once for the front. -/
  | frontStall
  /-- FRONT_EXPIRED (R244): The expiry point is reached, and every old-parity frame is removed or trapped. -/
  | frontExpired
  /-- CENSUS_ZERO (R243): MGT sees the old-parity census at zero, and release starts. -/
  | censusZero
  /-- FRONT_DRAINED (R245): Release completes the copies and frees old-parity storage, and the front returns to IDLE. -/
  | frontDrained
  /-- INGRESS_DECRYPT (R257): A frame ending at ESP or SecTAG is matched to an SA, checked, replay-tested and decrypted. -/
  | ingressDecrypt (pg : Fin 4)
  /-- EGRESS_ENCRYPT (R263): A frame with ENCRYPT leaving an external port is encrypted with its SA. -/
  | egressEncrypt (p : Fin 128)
  /-- JOB_DESCRIPTOR_TAKE (R405): The job sequencer takes a descriptor from a host job ring while room remains. -/
  | jobDescriptorTake (r : Fin 16) (found : Option JobRead)
  /-- SECTOR_FRAME_HANDOFF (R273): A tenant sector frame at port 130 is handed to the job sequencer and checked. -/
  | sectorFrameHandoff
  /-- JOB_START (R276): The job sequencer starts or resumes a chosen job on an idle job engine. -/
  | jobStart
  /-- JOB_COMPLETE (R405): A job ends and its completion or sector output is written. -/
  | jobComplete (e : Fin 16) (read : Bytes) (failedAt : Option Nat)
  /-- KEY_DELIVER (R280): The sequencer decapsulates and unwraps a tenant key delivery into the SA's shadow key. -/
  | keyDeliver
  /-- REORDER_RESULT (R295): An engine result reaches the reorder stage and passes, is held or is dropped as late. -/
  | reorderResult (pg : Fin 4)
  /-- REORDER_TIMEOUT (R296): A domain holds a result for REORDER_HOLD_US, and NEXT_D skips to the lowest held number. -/
  | reorderTimeout (dom : Fin 65536)
  /-- ADMISSION (R297): An admission pipeline runs the checks of Table 10-6 on a frame and assigns sequence numbers to its copies. -/
  | admission (pg : Fin 4)
  /-- POOL_ALLOC_CHAIN (R291): ALLOC_CHAIN allocates a chain of n cells from a pool, or fails. -/
  | poolAllocChain (c : Option (Fin 16))
  /-- POOL_INCREF (R291): INCREF adds a reference to a chain. -/
  | poolIncref (c : Option (Fin 16))
  /-- POOL_DECREF (R291): DECREF drops a reference and releases the chain at zero. -/
  | poolDecref (c : Option (Fin 16))
  /-- POOL_FREE (R291): FREE releases a chain owned by the master. -/
  | poolFree (c : Option (Fin 16))
  /-- POOL_QUERY (R293): POOL_OP QUERY captures a chain head record for the requesting master. -/
  | poolQuery
  /-- COUNTER_SIDE_EFFECT (R371): A counter side effect reaching SWC adds a frame and bytes to a counter-page counter. -/
  | counterSideEffect (c : Fin 16)
  /-- COPY_READY (R302): A copy whose cells are all written reaches its resequencer and is released, held or dropped. -/
  | copyReady (copy : Nat)
  /-- SKIP_MARKER (R303): A skip marker for a dropped copy reaches the resequencer and fills its hole. -/
  | skipMarker (p : Fin 132)
  /-- RESEQ_TIMEOUT (R302): A stream's hole timer reaches RESEQ_TIMEOUT_US, and NEXT skips to the lowest held number. -/
  | reseqTimeout (p : Fin 132) (pg : Fin 4) (cls : Fin 8)
  /-- SCHEDULER_CHOICE (R323): A port's scheduler chooses the next copy by DRR, charging deficits and shapers. -/
  | schedulerChoice (p : Fin 132) (cell : EccOutcome)
  /-- SHAPER_ELIGIBLE (R323): A shaper's refill reaches zero, and its node rejoins its parent's list. -/
  | shaperEligible (node : NodeId)
  /-- QMAX_CLEAR (R327): A write of QMAX_CLEAR zeroes the maxima of a range of queues. -/
  | qmaxClear
  /-- SAMPLE_ROUND_START (R328): A sampling round starts at a multiple of SAMPLE_INTERVAL_NS, or is skipped. -/
  | sampleRoundStart
  /-- SLOWPATH_RING_WRITE (R403): The ring writer takes a slow-path frame, polices it and writes it to a receive ring. -/
  | slowpathRingWrite (desc : Option Bytes)
  /-- INJECT_DESCRIPTOR_TAKE (R404): The device takes an inject descriptor and hands its frame to a parser or an egress queue. -/
  | injectDescriptorTake (r : Fin 64) (desc : Option Bytes) (frame : Option Bytes)
  /-- RX_DOORBELL (R402): A write to a receive-ring doorbell posts buffers by setting TAIL. -/
  | rxDoorbell (fn : Fin 32) (r : Fin 64) (write : HostWrite)
  /-- INJECT_DOORBELL (R402): A write to an inject-ring doorbell posts descriptors by setting TAIL. -/
  | injectDoorbell (fn : Fin 32) (r : Fin 64) (write : HostWrite)
  /-- JOB_DOORBELL (R402): A write to a job-ring doorbell posts job descriptors. -/
  | jobDoorbell (fn : Fin 32) (r : Fin 16) (write : HostWrite)
  /-- COMPLETION_DOORBELL (R402): A write to a job completion doorbell consumes completions by setting CHEAD. -/
  | completionDoorbell (fn : Fin 32) (r : Fin 16) (write : HostWrite)
  /-- HOST_RING_ENABLE (R401): A write of a host ring's ENABLE starts it with cleared indices, or stops it. -/
  | hostRingEnable
  /-- RING_DMA_ERROR (R408): A DMA read of a ring fails and stops the ring. -/
  | ringDmaError (g : Fin 144)
  /-- ISLAND_TICK_REPORT (R338): An island closes a 10 µs tick and sends its per-tenant activity to MGT. -/
  | islandTickReport (isl : Fin 25)
  /-- TICK_CLOSE (R339): MGT closes a tick, charges energy to every account and runs planning. -/
  | tickClose
  /-- CLOCK_CHANGE_DEFERRED (R446): A clock change held back 50 µs after an earlier change of the same island is applied. -/
  | clockChangeDeferred (isl : Fin 25)
  /-- RAIL_REPORT (R340): A write of RAIL_REPORT corrects STATIC_MW from measured power. -/
  | railReport
  /-- LEDGER_EXPORT (R343): At each export period the ledger is written to a host buffer, header last. -/
  | ledgerExport (written : Bool)
  /-- EVENT_OCCURRENCE (R355): An occurrence reaches the event unit and enters the order queue or folds into its pending slot. -/
  | eventOccurrence (isl : Fin 25)
  /-- EVENT_RECORD_WRITE (R358): The record writer writes one event record from the queue or a ready pending slot. -/
  | eventRecordWrite
  /-- MSIX_MODERATION_EXPIRY (R364): A moderation interval ends and a single MSI-X message is sent for records written during it. -/
  | msixModerationExpiry (fn : Fin 32) (vector : Nat)
  /-- INT_ACK (R365): A write of 1 to INT_ACK clears INT_STATUS. -/
  | intAck
  /-- RING_ENABLE (R362): A write of an event ring's RING_ENABLE starts it with cleared TAIL, HEAD and SEQUENCE, or stops it. -/
  | ringEnable
  /-- EVENT_HEAD_WRITE (R400): A BAR0 write of EVENT_HEAD advances the event ring's RING_HEAD. -/
  | eventHeadWrite (fn : Fin 32) (write : HostWrite)
  /-- TELEM_ENABLE (R331): A write of TELEM_ENABLE starts sampling with cleared ring indices, or stops it. -/
  | telemEnable
  /-- SRING_ENABLE (R376): A write of SRING_ENABLE starts or stops the sample ring. -/
  | sringEnable
  /-- EXPORT_ENABLE (R344): A write of EXPORT_ENABLE starts or stops ledger export. -/
  | exportEnable
  /-- LAST_GASP_ENABLE (R410): A write of LAST_GASP_ENABLE arms or disarms the last-gasp record. -/
  | lastGaspEnable
  /-- COUNTER_WRAP (R369): A bank counter wraps and MGT sets its sticky OVERFLOW bit. -/
  | counterWrap (bank : Fin 25) (counter : Fin 512)
  /-- OVERFLOW_READ (R369): A READ of OVERFLOW returns the sticky bits and clears those it returns. -/
  | overflowRead
  /-- SNAPSHOT (R370): A write of SNAPSHOT copies a bank's CYCLES and counters at one island cycle. -/
  | snapshot
  /-- SAMPLE_DRAIN (R376): A cluster drains completed sample records to the sample ring. -/
  | sampleDrain (c : Fin 16)
  /-- COUNTER_MARK (R430): A write of COUNTER_MARK clears the counter-change log and LOG_OVERFLOW. -/
  | counterMark
  /-- BUNDLE_VERIFIED (R387): Bundle verification ends, with rejection or with measurement, key derivation and LOADING. -/
  | bundleVerified
  /-- HBM_TRAINING_DONE (R424): HBM training of the four stacks completes during LOADING. -/
  | hbmTrainingDone (failed : Nat)
  /-- SERDES_CALIBRATION_DONE (R424): Calibration of all 128 lanes completes during LOADING. -/
  | serdesCalibrationDone
  /-- BOOT_LOADING_DONE (R424): The last cluster load ends, BOOT_PHASE reaches DONE and the device enters INIT. -/
  | bootLoadingDone (failed : Nat)
  /-- OWNER_KEY_HASH (R384): A write of OWNER_KEY_HASH starts a burn of five owner-slot rows. -/
  | ownerKeyHash
  /-- OWNER_REVOKE (R384): A write of OWNER_REVOKE starts a burn of the slot's revoke marker. -/
  | ownerRevoke
  /-- ROLLBACK_ADVANCE (R385): A write of ROLLBACK_ADVANCE burns anti-rollback rows up to the value. -/
  | rollbackAdvance
  /-- LIFECYCLE_ADVANCE (R383): A write of LIFECYCLE_ADVANCE burns the marker row of the target lifecycle. -/
  | lifecycleAdvance
  /-- FUSE_ROW_BURN_DONE (R381): A fuse row's burn completes and is read back before the next row starts. -/
  | fuseRowBurnDone (readback : BitVec 64)
  /-- MR_EXTEND (R390): A write of MR_EXTEND extends one of MR10 to MR15 by a digest. -/
  | mrExtend
  /-- QUOTE_REQUEST (R392): A write of QUOTE_REQUEST starts a device or tenant quote. -/
  | quoteRequest
  /-- QUOTE_DONE (R394): A quote completes into the master's quote buffer. -/
  | quoteDone (master : Nat)
  /-- FLR (R409): A function level reset resets a function's mailbox, rings and jobs. -/
  | flr (fn : Fin 32)
  /-- PCIE_LINK_CHANGE (R398): The PCIe link changes rate or width after its first entry to L0. -/
  | pcieLinkChange (rate width : Nat)
  /-- POR_N_LOW (R418): POR_N falls, and the device enters RESET with a cold reset. -/
  | porNLow
  /-- POR_N_RISE (R414): POR_N rises, the fuses are scanned and the device enters BOOT. -/
  | porNRise (testMode : Bool) (smbAddr : Fin 4)
  /-- WARM_RST_N (R421): WARM_RST_N held low for 1 µs makes a warm reset. -/
  | warmRstN
  /-- WARM_RESET (R421): A write of WARM_RESET returns OK and schedules a warm reset. -/
  | warmReset
  /-- WARM_RESET_ENTRY (R421): The warm reset begins after its response, stops the islands and re-enters BOOT. -/
  | warmResetEntry
  /-- PERST_N (R422): PERST_N resets the PCIe controller, link and every function. -/
  | perstN
  /-- PFAIL_ASSERTED (R428): PFAIL_N is accepted, the device enters HALT and the MACs and rings stop. -/
  | pfailAsserted
  /-- PFAIL_GLITCH (R428): A low pulse on PFAIL_N shorter than 100 ns is ignored and counted. -/
  | pfailGlitch
  /-- THERMTRIP (R435): A junction reaches 115 °C, and THERMTRIP_N asserts and the device halts. -/
  | thermtrip (isl : Fin 25)
  /-- STATE_REQUEST_INIT (R419): STATE_REQUEST INIT moves the device to INIT. -/
  | stateRequestInit
  /-- STATE_REQUEST_SERVICE (R419): STATE_REQUEST SERVICE moves INIT to SERVICE, or to RECOVERY while a cause is set. -/
  | stateRequestService
  /-- STATE_REQUEST_TEST (R419): STATE_REQUEST TEST moves INIT to TEST. -/
  | stateRequestTest
  /-- STATE_REQUEST_HALT (R419): STATE_REQUEST HALT stops the data plane and enters HALT. -/
  | stateRequestHalt
  /-- SENSOR_READ (R432): Each island's junction sensor is read every 100 µs. -/
  | sensorRead (milliC : List Int)
  /-- THERMAL_THROTTLE (R433): Every 1 ms, THERMAL_K falls, rises or holds by TEMP_MAX_MC. -/
  | thermalThrottle
  /-- VCORE_LOW (R436): VDD_CORE falls below the threshold and the islands are limited to k = 12. -/
  | vcoreLow
  /-- MGT_CORE_RESTART (R437): A lockstep mismatch restarts both management cores from firmware. -/
  | mgtCoreRestart
  /-- MGT_RESTART_DONE (R437): The management cores finish restarting and rerun the request in execution. -/
  | mgtRestartDone
  /-- PPS_IN_EDGE (R450): A rising edge on PPS_IN captures the timestamp counter. -/
  | ppsInEdge
  /-- PPS_OUT_PULSE (R450): Time of day crosses a whole second and PPS_OUT pulses for 100 µs. -/
  | ppsOutPulse
  /-- SMBUS_DEVICE_STATE (R451): SMBus command 0x00 returns DEVICE_STATE. -/
  | smbusDeviceState
  /-- SMBUS_RECOVERY_CAUSE (R451): SMBus command 0x01 returns RECOVERY_CAUSE. -/
  | smbusRecoveryCause
  /-- SMBUS_THERMAL_K (R451): SMBus command 0x02 returns THERMAL_K. -/
  | smbusThermalK
  /-- SMBUS_TEMP_MAX (R451): SMBus command 0x03 returns the maximum temperature in 1/16 °C. -/
  | smbusTempMax
  /-- SMBUS_FLAGS (R451): SMBus command 0x04 returns power-fail, trip, VCORE_LOW and supply flags. -/
  | smbusFlags
  /-- SMBUS_VCORE_REQUIRED (R451): SMBus command 0x05 returns VCORE_REQUIRED_MV. -/
  | smbusVcoreRequired
  /-- SMBUS_DEVICE_POWER (R451): SMBus command 0x06 returns device power in watts. -/
  | smbusDevicePower
  /-- SMBUS_ISLAND_TEMP (R451): SMBus commands 0x10 to 0x28 return an island's temperature; the codes that Table 17-6 reserves, and
  the write protocols, come by this row too, and are refused. -/
  | smbusIslandTemp (call : SmbusCall)
  /-- JTAG_BYPASS (R452): The TAP instruction BYPASS selects the bypass register. -/
  | jtagBypass (tdi : Bool)
  /-- JTAG_IDCODE (R452): The TAP instruction IDCODE returns 0x1128_0B9B. -/
  | jtagIdcode
  /-- JTAG_SAMPLE_PRELOAD (R452): The TAP instruction SAMPLE/PRELOAD samples or preloads the boundary scan. -/
  | jtagSamplePreload (scanIn : Nat)
  /-- JTAG_EXTEST (R452): The TAP instruction EXTEST drives the low-speed pins from the boundary scan. -/
  | jtagExtest (scanIn : Nat)
  /-- JTAG_EXTEST_PULSE (R452): The IEEE 1149.6 instruction EXTEST_PULSE tests the AC-coupled lanes. -/
  | jtagExtestPulse (scanIn : Nat)
  /-- JTAG_EXTEST_TRAIN (R452): The IEEE 1149.6 instruction EXTEST_TRAIN tests the AC-coupled lanes with pulse trains. -/
  | jtagExtestTrain (scanIn : Nat)
  /-- ARP_NEIGHBOUR_SOLICITATION (R75): A management port receives an ARP request or IPv6 neighbour solicitation for its address and answers it. -/
  | arpNeighbourSolicitation (mport : Fin 2) (ipv6 : Bool) (target : Nat) (source : Nat)
  /-- SIDE_EFFECT_ACCEPTED (R197): A channel accepts a side effect that a thread issued, so a YIELD or END waiting on it may issue. -/
  | sideEffectAccepted (c : Fin 16) (e : Fin 64) (t : Fin 16)
  /-- FIRST_ENTRY_TO_L0 (R417): The PCIe link first reaches L0 after PERST_N rises, and the device starts answering configuration requests. -/
  | firstEntryToL0 (rate width : Nat)
  /-- VF_ENABLE (R399): A configuration write of SR-IOV NumVFs and VF Enable makes VFs exist or cease to exist. -/
  | vfEnable (numVfs : Fin 32) (enable : Bool)
  /-- BUS_MASTER_ENABLE (R399): A configuration write of a function's Bus Master Enable allows or stops its DMA and the rings it owns. -/
  | busMasterEnable (fn : Fin 32) (control : BusControl)
  /-- MSIX_VECTOR_UNMASK (R364): A host write clears an MSI-X vector or function mask, and a pending message is sent. -/
  | msixVectorUnmask (fn : Fin 32) (vector : Option (Fin 2048))
  /-- UPDATE_LOADING_DONE (R388): An accepted update bundle finishes installing its images into their slots, and UPDATE_PHASE reaches DONE. -/
  | updateLoadingDone
  /-- SUPPLY_STABLE_RISE (R381): The supplies and junction have been in range for 10 ms, so SUPPLY_STABLE becomes 1 and burns are allowed. -/
  | supplyStableRise
  /-- SUPPLY_STABLE_FALL (R382): A monitored supply or junction leaves its range, so SUPPLY_STABLE falls and a running burn stops after its row. -/
  | supplyStableFall
  /-- VCORE_LOW_CLEARED (R436): VDD_CORE returns above the VCORE_LOW threshold, so VCORE_LOW clears and the k = 12 limit ends. -/
  | vcoreLowCleared
  /-- WARM_RST_N_RISE (R418): WARM_RST_N rises after a pin warm reset, and the device leaves RESET for BOOT. -/
  | warmRstNRise
  /-- JTAG_DEBUG (R452): A TAP debug instruction is decoded, or acts as BYPASS in OPERATIONAL. -/
  | jtagDebug (tdi : Bool)
  /-- TRST_N_LOW (R447): TRST_N goes low, and the TAP is held in Test-Logic-Reset. -/
  | trstNLow
  deriving DecidableEq, Repr

end Sys2Proof
end

