-- ==== Sys2Proof/Config.lean ====
section
/-!
DEFINITION. What the spec leaves free: opaque
constants, so that nothing in Lean can evaluate them or prove a value of them.
-/
namespace Sys2Proof.Config

/-- The n-th free value.  A step that needs a value the spec leaves open takes the value numbered by
the state's counter `free` and advances the counter (log entry 1). -/
opaque freeNat : Nat → Nat

/-- The SHA-256 of the boot ROM, which extends MR0 (Table 14-12): the spec refers to the release notes for it
(log entry 18). -/
opaque bootRomDigest : Nat

/-- The offset in ns, less 20 and modulo 41, of an island's copy of the timestamp counter (R25 bounds it by 20 ns and gives
no value, log entry 49). -/
opaque timeOffset : Nat → Nat

/-- How many complete frames a port's receive buffer at the MAC holds for the merge, beside one (R135 gives the
buffer and no size, log entry 12). -/
opaque rxBuffer : Nat → Nat

/-- A pin, or the drive of a GPIO pin, that a cell of the boundary-scan register sets (R452). -/
inductive ScanPin where
  | intN | thermtripN | ppsOut | gpio (n : Nat) | gpioDrive (n : Nat)
  deriving DecidableEq, Repr

/-- The cell of the boundary-scan register that sets a pin (R452 gives the register no order, log entry 57). -/
opaque scanCell : ScanPin → Nat

end Sys2Proof.Config
end

