-- ==== Sys2Proof/Machine/ObjTable.lean ====
section
/-!
DEFINITION. The object dictionary as the spec's object tables list it (Tables 2-17 to 17-x): one row per
object list row, and a name for every subindex.  Index, type, access, default, group and range are the
columns of those tables; a domain's size and granule are those of its Default column.
-/
namespace Sys2Proof.Machine

/-- The access codes of Table 2-3. -/
inductive Access where
  | ro | rw | rws | wo | wos | w1r | w1f | rm
  deriving DecidableEq, Repr

/-- The types of Table 2-2, with the length of those that have one. -/
inductive ObjTy where
  | bool | u8 | u16 | u32 | u64 | i32 | i64 | time
  | bits (width : Nat) | octets (n : Nat) | text (n : Nat)
  | domain (size granule : Nat)
  deriving DecidableEq, Repr

/-- One row of an object list: indices `first .. first + count - 1`, subindices `subLo .. subHi`,
with the type, access code, default (R8), strobe group (R51) and the range of values it accepts. -/
structure ObjRow where
  name : String
  first : Nat
  count : Nat
  subLo : Nat
  subHi : Nat
  ty : ObjTy
  access : Access
  group : Option Nat
  dflt : Nat
  lo : Nat
  hi : Nat
  deriving DecidableEq, Repr

/-- The index of host ring `g`: receive rings 0-63, inject rings 64-127, job rings 128-143 (Table 15-10). -/
def ringIndex (g : Nat) : Nat :=
  if g < 64 then 0xD100 + g else if g < 128 then 0xD140 + (g - 64) else 0xD180 + (g - 128)

/-! ### Names of the subindices: `index * 256 + subindex`; a domain is named by its index. -/

/-- 0x0000.01 VENDOR_NAME. -/
abbrev Obj.idVendorName : Nat := 0x000001
/-- 0x0000.02 DEVICE_CODE. -/
abbrev Obj.idDeviceCode : Nat := 0x000002
/-- 0x0000.03 STEPPING. -/
abbrev Obj.idStepping : Nat := 0x000003
/-- 0x0000.04 PART_NUMBER. -/
abbrev Obj.idPartNumber : Nat := 0x000004
/-- 0x0000.05 DEVICE_SERIAL. -/
abbrev Obj.idDeviceSerial : Nat := 0x000005
/-- 0x0000.06 VCORE_REQUIRED_MV. -/
abbrev Obj.idVcoreRequiredMv : Nat := 0x000006
/-- 0x0000.07 DICTIONARY_VERSION. -/
abbrev Obj.idDictionaryVersion : Nat := 0x000007
/-- 0x0000.08 INDEX_COUNT. -/
abbrev Obj.idIndexCount : Nat := 0x000008
/-- 0x0001.01 KAZNU_VERSION. -/
abbrev Obj.kaznuVersion : Nat := 0x000101
/-- 0x0001.02 MAILBOX_PAYLOAD_MAX. -/
abbrev Obj.kaznuMailboxPayloadMax : Nat := 0x000102
/-- 0x0001.03 NETWORK_PAYLOAD_MAX. -/
abbrev Obj.kaznuNetworkPayloadMax : Nat := 0x000103
/-- 0x0002.01 LIFECYCLE. -/
abbrev Obj.lifecycle : Nat := 0x000201
/-- 0x1000.01 INBAND_ETHERTYPE. -/
abbrev Obj.inbandEthertype : Nat := 0x100001
/-- 0x1000.02 INBAND_MAC. -/
abbrev Obj.inbandMac : Nat := 0x100002
/-- 0x1000.03 INBAND_RATE. -/
abbrev Obj.inbandRate : Nat := 0x100003
/-- 0x1001.01 LOCKED_WRITE_COUNT. -/
abbrev Obj.svcLockedWriteCount : Nat := 0x100101
/-- 0x1001.02 LAST_LOCKED_TARGET. -/
abbrev Obj.svcLastLockedTarget : Nat := 0x100102
/-- 0x1001.03 LAST_LOCKED_MASTER. -/
abbrev Obj.svcLastLockedMaster : Nat := 0x100103
/-- 0x1001.04 AUTH_FAIL_COUNT. -/
abbrev Obj.svcAuthFailCount : Nat := 0x100104
/-- 0x1001.05 SEQUENCE_REJECT_COUNT. -/
abbrev Obj.svcSequenceRejectCount : Nat := 0x100105
/-- 0x1001.06 MAILBOX_MISUSE_COUNT. -/
abbrev Obj.svcMailboxMisuseCount : Nat := 0x100106
/-- 0x1001.07 INBAND_DISCARD_COUNT. -/
abbrev Obj.svcInbandDiscardCount : Nat := 0x100107
/-- 0x1002.01 TMR_CORRECTED_COUNT. -/
abbrev Obj.tmrCorrectedCount : Nat := 0x100201
/-- 0x1002.02 TMR_UNRESOLVED_COUNT. -/
abbrev Obj.tmrUnresolvedCount : Nat := 0x100202
/-- 0x1002.03 TMR_LAST_FIELD. -/
abbrev Obj.tmrLastField : Nat := 0x100203
/-- 0x1003.01 STROBE_GROUP_MAP. -/
abbrev Obj.strobeGroupMap (j : Nat) : Nat := 0x100301 + j
/-- 0x1004.01 GENERATION. -/
abbrev Obj.generation : Nat := 0x100401
/-- 0x1004.02 PARITY. -/
abbrev Obj.parity : Nat := 0x100402
/-- 0x1004.03 DRAINING. -/
abbrev Obj.draining : Nat := 0x100403
/-- 0x1004.04 LAST_COMMIT_MASK. -/
abbrev Obj.lastCommitMask : Nat := 0x100404
/-- 0x1008.01 MODE. -/
abbrev Obj.mportMode (i : Nat) : Nat := (0x1008 + i) * 256 + 0x01
/-- 0x1008.02 MAC. -/
abbrev Obj.mportMac (i : Nat) : Nat := (0x1008 + i) * 256 + 0x02
/-- 0x1008.03 IPV4. -/
abbrev Obj.mportIpv4 (i : Nat) : Nat := (0x1008 + i) * 256 + 0x03
/-- 0x1008.04 IPV6. -/
abbrev Obj.mportIpv6 (i : Nat) : Nat := (0x1008 + i) * 256 + 0x04
/-- 0x1008.05 UDP_PORT. -/
abbrev Obj.mportUdpPort (i : Nat) : Nat := (0x1008 + i) * 256 + 0x05
/-- 0x1010.01 STATE. -/
abbrev Obj.sessionState (i : Nat) : Nat := (0x1010 + i) * 256 + 0x01
/-- 0x1010.02 KEY. -/
abbrev Obj.sessionKey (i : Nat) : Nat := (0x1010 + i) * 256 + 0x02
/-- 0x1010.03 LAST_SEQUENCE. -/
abbrev Obj.sessionLastSequence (i : Nat) : Nat := (0x1010 + i) * 256 + 0x03
/-- 0x1010.04 REQUESTS. -/
abbrev Obj.sessionRequests (i : Nat) : Nat := (0x1010 + i) * 256 + 0x04
/-- 0xA000.01 PORTS_ALLOWED. -/
abbrev Obj.tenPortsAllowed (i : Nat) : Nat := (0xA000 + i) * 256 + 0x01
/-- 0xA000.02 VRF. -/
abbrev Obj.tenVrf (i : Nat) : Nat := (0xA000 + i) * 256 + 0x02
/-- 0xA000.03 METER_BASE. -/
abbrev Obj.tenMeterBase (i : Nat) : Nat := (0xA000 + i) * 256 + 0x03
/-- 0xA000.04 METER_COUNT. -/
abbrev Obj.tenMeterCount (i : Nat) : Nat := (0xA000 + i) * 256 + 0x04
/-- 0xA000.05 QUEUE_NODE. -/
abbrev Obj.tenQueueNode (i : Nat) : Nat := (0xA000 + i) * 256 + 0x05
/-- 0xA000.06 KEY_BASE. -/
abbrev Obj.tenKeyBase (i : Nat) : Nat := (0xA000 + i) * 256 + 0x06
/-- 0xA000.07 KEY_COUNT. -/
abbrev Obj.tenKeyCount (i : Nat) : Nat := (0xA000 + i) * 256 + 0x07
/-- 0xA000.08 PARSE_PROFILE. -/
abbrev Obj.tenParseProfile (i : Nat) : Nat := (0xA000 + i) * 256 + 0x08
/-- 0xA000.09 ENERGY_SHARE. -/
abbrev Obj.tenEnergyShare (i : Nat) : Nat := (0xA000 + i) * 256 + 0x09
/-- 0xA000.0A COUNTER_PAGE. -/
abbrev Obj.tenCounterPage (i : Nat) : Nat := (0xA000 + i) * 256 + 0x0A
/-- 0xA000.0B RIGHTS. -/
abbrev Obj.tenRights (i : Nat) : Nat := (0xA000 + i) * 256 + 0x0B
/-- 0xA000.0C FROST_STATE. -/
abbrev Obj.tenFrostState (i : Nat) : Nat := (0xA000 + i) * 256 + 0x0C
/-- 0xA000.0D ISOLATION_DROPS. -/
abbrev Obj.tenIsolationDrops (i : Nat) : Nat := (0xA000 + i) * 256 + 0x0D
/-- 0xA000.0E FROST_DROPS. -/
abbrev Obj.tenFrostDrops (i : Nat) : Nat := (0xA000 + i) * 256 + 0x0E
/-- 0x1100.01 ENTRY. -/
abbrev Obj.accEntry (i j : Nat) : Nat := (0x1100 + i) * 256 + 0x01 + j
/-- 0x1100.41 CLASS_MASK. -/
abbrev Obj.accClassMask (i j : Nat) : Nat := (0x1100 + i) * 256 + 0x41 + j
/-- 0x1100.61 DENY_COUNT. -/
abbrev Obj.accDenyCount (i : Nat) : Nat := (0x1100 + i) * 256 + 0x61
/-- 0x1100.62 LAST_DENIED_MASTER. -/
abbrev Obj.accLastDeniedMaster (i : Nat) : Nat := (0x1100 + i) * 256 + 0x62
/-- 0x1100.63 LAST_DENIED_RESOURCE. -/
abbrev Obj.accLastDeniedResource (i : Nat) : Nat := (0x1100 + i) * 256 + 0x63
/-- 0x1020.01 FROST_REQUEST. -/
abbrev Obj.frostRequest : Nat := 0x102001
/-- 0x1020.02 DEADLINE_DEFAULT. -/
abbrev Obj.deadlineDefault : Nat := 0x102002
/-- 0x1020.03 FROSTING_COUNT. -/
abbrev Obj.frostingCount : Nat := 0x102003
/-- 0x1020.04 FORCED_COUNT. -/
abbrev Obj.forcedCount : Nat := 0x102004
/-- 0x1021.01 PORT_FROST. -/
abbrev Obj.portFrost : Nat := 0x102101
/-- 0x1021.02 CLUSTER_FROST. -/
abbrev Obj.clusterFrost : Nat := 0x102102
/-- 0x1021.03 VF_FROST. -/
abbrev Obj.vfFrost : Nat := 0x102103
/-- 0x1021.04 POOL_FROST. -/
abbrev Obj.poolFrost : Nat := 0x102104
/-- 0x2000.01 STH_ETHERTYPE. -/
abbrev Obj.sthEthertype : Nat := 0x200001
/-- 0x2000.02 STAG_TPID. -/
abbrev Obj.stagTpid : Nat := 0x200002
/-- 0x2000.03 DOWN_DEBOUNCE_US. -/
abbrev Obj.downDebounceUs : Nat := 0x200003
/-- 0x2000.04 TRAIN_TIMEOUT_MS. -/
abbrev Obj.trainTimeoutMs : Nat := 0x200004
/-- 0xE200 SVID_MAP (a domain, by its index). -/
abbrev Obj.domSvidMap : Nat := 0xE200
/-- 0x2100.01 QUAD_MODE. -/
abbrev Obj.quadMode (i : Nat) : Nat := (0x2100 + i) * 256 + 0x01
/-- 0x2200.01 ROLE. -/
abbrev Obj.portRole (i : Nat) : Nat := (0x2200 + i) * 256 + 0x01
/-- 0x2200.02 FEC. -/
abbrev Obj.portFec (i : Nat) : Nat := (0x2200 + i) * 256 + 0x02
/-- 0x2200.03 CABLE_CLASS. -/
abbrev Obj.portCableClass (i : Nat) : Nat := (0x2200 + i) * 256 + 0x03
/-- 0x2200.04 TRAINING. -/
abbrev Obj.portTraining (i : Nat) : Nat := (0x2200 + i) * 256 + 0x04
/-- 0x2200.05 MAX_FRAME. -/
abbrev Obj.portMaxFrame (i : Nat) : Nat := (0x2200 + i) * 256 + 0x05
/-- 0x2200.06 DEFAULT_CLASS. -/
abbrev Obj.portDefaultClass (i : Nat) : Nat := (0x2200 + i) * 256 + 0x06
/-- 0x2200.07 LULL_WINDOW_US. -/
abbrev Obj.portLullWindowUs (i : Nat) : Nat := (0x2200 + i) * 256 + 0x07
/-- 0x2200.08 STALE_AGE_US. -/
abbrev Obj.portStaleAgeUs (i : Nat) : Nat := (0x2200 + i) * 256 + 0x08
/-- 0x2200.09 ENABLE. -/
abbrev Obj.portEnable (i : Nat) : Nat := (0x2200 + i) * 256 + 0x09
/-- 0x2200.0A PORT_RESET. -/
abbrev Obj.portReset (i : Nat) : Nat := (0x2200 + i) * 256 + 0x0A
/-- 0x2300.01 LINK_STATE. -/
abbrev Obj.linkState (i : Nat) : Nat := (0x2300 + i) * 256 + 0x01
/-- 0x2300.02 HOLD_STATE. -/
abbrev Obj.pstHoldState (i : Nat) : Nat := (0x2300 + i) * 256 + 0x02
/-- 0x2300.03 HOLD_START. -/
abbrev Obj.pstHoldStart (i : Nat) : Nat := (0x2300 + i) * 256 + 0x03
/-- 0x2300.04 LINK_UPS. -/
abbrev Obj.pstLinkUps (i : Nat) : Nat := (0x2300 + i) * 256 + 0x04
/-- 0x2300.05 LINK_DOWNS. -/
abbrev Obj.pstLinkDowns (i : Nat) : Nat := (0x2300 + i) * 256 + 0x05
/-- 0x2300.06 TRAIN_FAILS. -/
abbrev Obj.pstTrainFails (i : Nat) : Nat := (0x2300 + i) * 256 + 0x06
/-- 0x2300.07 RX_FRAMES. -/
abbrev Obj.pstRxFrames (i : Nat) : Nat := (0x2300 + i) * 256 + 0x07
/-- 0x2300.08 RX_BYTES. -/
abbrev Obj.pstRxBytes (i : Nat) : Nat := (0x2300 + i) * 256 + 0x08
/-- 0x2300.09 TX_FRAMES. -/
abbrev Obj.pstTxFrames (i : Nat) : Nat := (0x2300 + i) * 256 + 0x09
/-- 0x2300.0A TX_BYTES. -/
abbrev Obj.pstTxBytes (i : Nat) : Nat := (0x2300 + i) * 256 + 0x0A
/-- 0x2300.0B RX_FCS_ERRORS. -/
abbrev Obj.pstRxFcsErrors (i : Nat) : Nat := (0x2300 + i) * 256 + 0x0B
/-- 0x2300.0C RX_SIZE_ERRORS. -/
abbrev Obj.pstRxSizeErrors (i : Nat) : Nat := (0x2300 + i) * 256 + 0x0C
/-- 0x2300.0D RX_DISCARD. -/
abbrev Obj.pstRxDiscard (i : Nat) : Nat := (0x2300 + i) * 256 + 0x0D
/-- 0x2300.0E ID_DROPS. -/
abbrev Obj.pstIdDrops (i : Nat) : Nat := (0x2300 + i) * 256 + 0x0E
/-- 0x2300.0F INGRESS_OVERRUN. -/
abbrev Obj.pstIngressOverrun (i : Nat) : Nat := (0x2300 + i) * 256 + 0x0F
/-- 0x2300.10 FEC_CORRECTED. -/
abbrev Obj.pstFecCorrected (i : Nat) : Nat := (0x2300 + i) * 256 + 0x10
/-- 0x2300.11 FEC_UNCORRECTABLE. -/
abbrev Obj.pstFecUncorrectable (i : Nat) : Nat := (0x2300 + i) * 256 + 0x11
/-- 0x2300.12 TX_ABORTED. -/
abbrev Obj.pstTxAborted (i : Nat) : Nat := (0x2300 + i) * 256 + 0x12
/-- 0x2300.13 DOWN_ADMIT_DROPS. -/
abbrev Obj.pstDownAdmitDrops (i : Nat) : Nat := (0x2300 + i) * 256 + 0x13
/-- 0x2300.14 HOLDS. -/
abbrev Obj.pstHolds (i : Nat) : Nat := (0x2300 + i) * 256 + 0x14
/-- 0x2300.15 LULL_EXPIRED. -/
abbrev Obj.pstLullExpired (i : Nat) : Nat := (0x2300 + i) * 256 + 0x15
/-- 0x2300.16 LULL_STALE_DROPS. -/
abbrev Obj.pstLullStaleDrops (i : Nat) : Nat := (0x2300 + i) * 256 + 0x16
/-- 0x2300.17 LULL_FLUSH_DROPS. -/
abbrev Obj.pstLullFlushDrops (i : Nat) : Nat := (0x2300 + i) * 256 + 0x17
/-- 0x2400.01 TX_INVERT. -/
abbrev Obj.laneTxInvert (i : Nat) : Nat := (0x2400 + i) * 256 + 0x01
/-- 0x2400.02 RX_INVERT. -/
abbrev Obj.laneRxInvert (i : Nat) : Nat := (0x2400 + i) * 256 + 0x02
/-- 0x2400.03 RX_SIGNAL. -/
abbrev Obj.laneRxSignal (i : Nat) : Nat := (0x2400 + i) * 256 + 0x03
/-- 0x3010.01 MAX_DEPTH. -/
abbrev Obj.profMaxDepth (i : Nat) : Nat := (0x3010 + i) * 256 + 0x01
/-- 0x3010.02 MAX_HEADERS. -/
abbrev Obj.profMaxHeaders (i : Nat) : Nat := (0x3010 + i) * 256 + 0x02
/-- 0x3010.03 MAX_TUNNEL. -/
abbrev Obj.profMaxTunnel (i : Nat) : Nat := (0x3010 + i) * 256 + 0x03
/-- 0x3010.04 EXT_START. -/
abbrev Obj.profExtStart (i : Nat) : Nat := (0x3010 + i) * 256 + 0x04
/-- 0x3010.05 RECIRC_START. -/
abbrev Obj.profRecircStart (i : Nat) : Nat := (0x3010 + i) * 256 + 0x05
/-- 0x3010.06 DEFAULT_KEY_PROFILE. -/
abbrev Obj.profDefaultKeyProfile (i : Nat) : Nat := (0x3010 + i) * 256 + 0x06
/-- 0x3010.07 PASS_LIMIT. -/
abbrev Obj.profPassLimit (i : Nat) : Nat := (0x3010 + i) * 256 + 0x07
/-- 0x3010.08 TRAP_ACTION. -/
abbrev Obj.profTrapAction (i : Nat) : Nat := (0x3010 + i) * 256 + 0x08
/-- 0xE300 PARSE_GRAPH (a domain, by its index). -/
abbrev Obj.domParseGraph : Nat := 0xE300
/-- 0xE301 KEY_PROFILES (a domain, by its index). -/
abbrev Obj.domKeyProfiles : Nat := 0xE301
/-- 0x3100.01 FRAMES_PARSED. -/
abbrev Obj.pgFramesParsed (i : Nat) : Nat := (0x3100 + i) * 256 + 0x01
/-- 0x3100.02 RECIRC_PARSED. -/
abbrev Obj.pgRecircParsed (i : Nat) : Nat := (0x3100 + i) * 256 + 0x02
/-- 0x3100.03 INJECT_PARSED. -/
abbrev Obj.pgInjectParsed (i : Nat) : Nat := (0x3100 + i) * 256 + 0x03
/-- 0x3100.04 PARSE_DEPTH_COUNT. -/
abbrev Obj.pgParseDepthCount (i : Nat) : Nat := (0x3100 + i) * 256 + 0x04
/-- 0x3100.05 PARSE_LENGTH_COUNT. -/
abbrev Obj.pgParseLengthCount (i : Nat) : Nat := (0x3100 + i) * 256 + 0x05
/-- 0x3100.06 FRAGMENT_COUNT. -/
abbrev Obj.pgFragmentCount (i : Nat) : Nat := (0x3100 + i) * 256 + 0x06
/-- 0x3100.07 PARSE_UNKNOWN_COUNT. -/
abbrev Obj.pgParseUnknownCount (i : Nat) : Nat := (0x3100 + i) * 256 + 0x07
/-- 0x3100.08 OPTIONS_COUNT. -/
abbrev Obj.pgOptionsCount (i : Nat) : Nat := (0x3100 + i) * 256 + 0x08
/-- 0x3100.09 PARSE_DROPS. -/
abbrev Obj.pgParseDrops (i : Nat) : Nat := (0x3100 + i) * 256 + 0x09
/-- 0x3100.0A RECIRC_LIMIT_COUNT. -/
abbrev Obj.pgRecircLimitCount (i : Nat) : Nat := (0x3100 + i) * 256 + 0x0A
/-- 0x3100.0B INBAND_STEERED. -/
abbrev Obj.pgInbandSteered (i : Nat) : Nat := (0x3100 + i) * 256 + 0x0B
/-- 0x3100.0C INBAND_DROPS. -/
abbrev Obj.pgInbandDrops (i : Nat) : Nat := (0x3100 + i) * 256 + 0x0C
/-- 0x3100.0D GRAPH_ECC_CORRECTED. -/
abbrev Obj.pgGraphEccCorrected (i : Nat) : Nat := (0x3100 + i) * 256 + 0x0D
/-- 0x3100.0E GRAPH_ECC_UNCORRECTABLE. -/
abbrev Obj.pgGraphEccUncorrectable (i : Nat) : Nat := (0x3100 + i) * 256 + 0x0E
/-- 0x3100.0F LAST_ECC_NODE. -/
abbrev Obj.pgLastEccNode (i : Nat) : Nat := (0x3100 + i) * 256 + 0x0F
/-- 0x4000.01 GEOMETRY. -/
abbrev Obj.cxGeometry (i : Nat) : Nat := (0x4000 + i) * 256 + 0x01
/-- 0x4000.02 FIXED_SELECT. -/
abbrev Obj.cxFixedSelect (i : Nat) : Nat := (0x4000 + i) * 256 + 0x02
/-- 0x4000.03 SELFTEST_DETAIL. -/
abbrev Obj.cxSelftestDetail (i : Nat) : Nat := (0x4000 + i) * 256 + 0x03
/-- 0x4000.04 SEARCHES. -/
abbrev Obj.cxSearches (i : Nat) : Nat := (0x4000 + i) * 256 + 0x04
/-- 0x4000.05 BACKLOG_STALLS. -/
abbrev Obj.cxBacklogStalls (i : Nat) : Nat := (0x4000 + i) * 256 + 0x05
/-- 0x4000.06 SCRUB_REPAIRS. -/
abbrev Obj.cxScrubRepairs (i : Nat) : Nat := (0x4000 + i) * 256 + 0x06
/-- 0x4000.07 AD_ECC_CORRECTED. -/
abbrev Obj.cxAdEccCorrected (i : Nat) : Nat := (0x4000 + i) * 256 + 0x07
/-- 0x4000.08 AD_ECC_UNCORRECTABLE. -/
abbrev Obj.cxAdEccUncorrectable (i : Nat) : Nat := (0x4000 + i) * 256 + 0x08
/-- 0x4010.01 ENABLE. -/
abbrev Obj.grpEnable (i : Nat) : Nat := (0x4010 + i) * 256 + 0x01
/-- 0x4010.02 FIRST_TILE. -/
abbrev Obj.grpFirstTile (i : Nat) : Nat := (0x4010 + i) * 256 + 0x02
/-- 0x4010.03 TABLE. -/
abbrev Obj.grpTable (i : Nat) : Nat := (0x4010 + i) * 256 + 0x03
/-- 0x4100.01 WIDTH. -/
abbrev Obj.tcamWidth (i : Nat) : Nat := (0x4100 + i) * 256 + 0x01
/-- 0x4100.02 DEPTH. -/
abbrev Obj.tcamDepth (i : Nat) : Nat := (0x4100 + i) * 256 + 0x02
/-- 0x4100.03 ROWS. -/
abbrev Obj.tcamRows (i : Nat) : Nat := (0x4100 + i) * 256 + 0x03
/-- 0x4100.04 GRANULE. -/
abbrev Obj.tcamGranule (i : Nat) : Nat := (0x4100 + i) * 256 + 0x04
/-- 0x4140.01 SEARCHES. -/
abbrev Obj.tcamStatSearches (i : Nat) : Nat := (0x4140 + i) * 256 + 0x01
/-- 0x4140.02 HITS. -/
abbrev Obj.tcamStatHits (i : Nat) : Nat := (0x4140 + i) * 256 + 0x02
/-- 0x4140.03 ERRORS. -/
abbrev Obj.tcamStatErrors (i : Nat) : Nat := (0x4140 + i) * 256 + 0x03
/-- 0x4140.04 DENIED. -/
abbrev Obj.tcamStatDenied (i : Nat) : Nat := (0x4140 + i) * 256 + 0x04
/-- 0x4200.01 TABLE. -/
abbrev Obj.sprofTable (i : Nat) : Nat := (0x4200 + i) * 256 + 0x01
/-- 0x4200.02 GLOBAL_MASK. -/
abbrev Obj.sprofGlobalMask (i : Nat) : Nat := (0x4200 + i) * 256 + 0x02
/-- 0x4200.03 MISS_DATA. -/
abbrev Obj.sprofMissData (i : Nat) : Nat := (0x4200 + i) * 256 + 0x03
/-- 0x4200.04 TENANT_BIND. -/
abbrev Obj.sprofTenantBind (i : Nat) : Nat := (0x4200 + i) * 256 + 0x04
/-- 0x4400.01 ENABLE. -/
abbrev Obj.emEnable (i : Nat) : Nat := (0x4400 + i) * 256 + 0x01
/-- 0x4400.02 KEY_BYTES. -/
abbrev Obj.emKeyBytes (i : Nat) : Nat := (0x4400 + i) * 256 + 0x02
/-- 0x4400.03 BUCKETS_LOG2. -/
abbrev Obj.emBucketsLog2 (i : Nat) : Nat := (0x4400 + i) * 256 + 0x03
/-- 0x4400.04 REGION_BASE. -/
abbrev Obj.emRegionBase (i : Nat) : Nat := (0x4400 + i) * 256 + 0x04
/-- 0x4400.05 MAX_ENTRIES. -/
abbrev Obj.emMaxEntries (i : Nat) : Nat := (0x4400 + i) * 256 + 0x05
/-- 0x4400.06 SEED1. -/
abbrev Obj.emSeed1 (i : Nat) : Nat := (0x4400 + i) * 256 + 0x06
/-- 0x4400.07 SEED2. -/
abbrev Obj.emSeed2 (i : Nat) : Nat := (0x4400 + i) * 256 + 0x07
/-- 0x4400.08 MISS_DATA. -/
abbrev Obj.emMissData (i : Nat) : Nat := (0x4400 + i) * 256 + 0x08
/-- 0x4400.09 TENANT_BIND. -/
abbrev Obj.emTenantBind (i : Nat) : Nat := (0x4400 + i) * 256 + 0x09
/-- 0x4400.0A ENTRIES. -/
abbrev Obj.emEntries (i : Nat) : Nat := (0x4400 + i) * 256 + 0x0A
/-- 0x4400.0B BATCH_STATE. -/
abbrev Obj.emBatchState (i : Nat) : Nat := (0x4400 + i) * 256 + 0x0B
/-- 0x4440.01 LOOKUPS. -/
abbrev Obj.emStatLookups (i : Nat) : Nat := (0x4440 + i) * 256 + 0x01
/-- 0x4440.02 HITS. -/
abbrev Obj.emStatHits (i : Nat) : Nat := (0x4440 + i) * 256 + 0x02
/-- 0x4440.03 CACHE_HITS. -/
abbrev Obj.emStatCacheHits (i : Nat) : Nat := (0x4440 + i) * 256 + 0x03
/-- 0x4440.04 INSERT_FAILS. -/
abbrev Obj.emStatInsertFails (i : Nat) : Nat := (0x4440 + i) * 256 + 0x04
/-- 0x4600.01 REGION_BASE. -/
abbrev Obj.lpmRegionBase : Nat := 0x460001
/-- 0x4600.02 REGION_COUNT. -/
abbrev Obj.lpmRegionCount : Nat := 0x460002
/-- 0x4600.03 ROUTE_CAPACITY. -/
abbrev Obj.lpmRouteCapacity : Nat := 0x460003
/-- 0x4600.04 ROUTES_V4. -/
abbrev Obj.lpmRoutesV4 : Nat := 0x460004
/-- 0x4600.05 ROUTES_V6. -/
abbrev Obj.lpmRoutesV6 : Nat := 0x460005
/-- 0x4600.06 BATCH_STATE. -/
abbrev Obj.lpmBatchState : Nat := 0x460006
/-- 0x4600.07 LOOKUPS. -/
abbrev Obj.lpmLookups : Nat := 0x460007
/-- 0x4600.08 MISSES. -/
abbrev Obj.lpmMisses : Nat := 0x460008
/-- 0x4700.01 STAGED_TCAM. -/
abbrev Obj.srhStagedTcam : Nat := 0x470001
/-- 0x4700.02 STAGED_EM. -/
abbrev Obj.srhStagedEm : Nat := 0x470002
/-- 0x4700.03 STAGED_LPM. -/
abbrev Obj.srhStagedLpm : Nat := 0x470003
/-- 0x4700.04 CACHE_LOOKUPS. -/
abbrev Obj.srhCacheLookups : Nat := 0x470004
/-- 0x4700.05 CACHE_HITS. -/
abbrev Obj.srhCacheHits : Nat := 0x470005
/-- 0x4700.06 HBM_ECC_CORRECTED. -/
abbrev Obj.srhHbmEccCorrected : Nat := 0x470006
/-- 0x4700.07 HBM_ECC_UNCORRECTABLE. -/
abbrev Obj.srhHbmEccUncorrectable : Nat := 0x470007
/-- 0xE400 + i TCAM_ROWS (a domain, by its index). -/
abbrev Obj.domTcamRows (i : Nat) : Nat := 0xE400 + i
/-- 0xE440 + i TCAM_VALID (a domain, by its index). -/
abbrev Obj.domTcamValid (i : Nat) : Nat := 0xE440 + i
/-- 0xE500 + i EM_COMMAND (a domain, by its index). -/
abbrev Obj.domEmCommand (i : Nat) : Nat := 0xE500 + i
/-- 0xE540 + i EM_RESULT (a domain, by its index). -/
abbrev Obj.domEmResult (i : Nat) : Nat := 0xE540 + i
/-- 0xE600 LPM_COMMAND (a domain, by its index). -/
abbrev Obj.domLpmCommand : Nat := 0xE600
/-- 0xE601 LPM_RESULT (a domain, by its index). -/
abbrev Obj.domLpmResult : Nat := 0xE601
/-- 0xE602 VRF_TABLE (a domain, by its index). -/
abbrev Obj.domVrfTable : Nat := 0xE602
/-- 0x5000.01 LOAD_STATE. -/
abbrev Obj.clLoadState (i : Nat) : Nat := (0x5000 + i) * 256 + 0x01
/-- 0x5000.02 IMAGE_SLOT. -/
abbrev Obj.clImageSlot (i : Nat) : Nat := (0x5000 + i) * 256 + 0x02
/-- 0x5000.03 RELOAD. -/
abbrev Obj.clReload (i : Nat) : Nat := (0x5000 + i) * 256 + 0x03
/-- 0x5000.04 CLUSTER_RESET. -/
abbrev Obj.clClusterReset (i : Nat) : Nat := (0x5000 + i) * 256 + 0x04
/-- 0x5000.05 MICRO_VERSION. -/
abbrev Obj.clMicroVersion (i : Nat) : Nat := (0x5000 + i) * 256 + 0x05
/-- 0x5000.06 NANO_VERSION. -/
abbrev Obj.clNanoVersion (i : Nat) : Nat := (0x5000 + i) * 256 + 0x06
/-- 0x5000.07 AUTO_RELOAD. -/
abbrev Obj.clAutoReload (i : Nat) : Nat := (0x5000 + i) * 256 + 0x07
/-- 0x5000.08 RELOADS. -/
abbrev Obj.clReloads (i : Nat) : Nat := (0x5000 + i) * 256 + 0x08
/-- 0x5000.09 FREE_THREADS. -/
abbrev Obj.clFreeThreads (i : Nat) : Nat := (0x5000 + i) * 256 + 0x09
/-- 0x5000.0A MICROWORDS. -/
abbrev Obj.clMicrowords (i : Nat) : Nat := (0x5000 + i) * 256 + 0x0A
/-- 0x5000.0B FRAMES_ENDED. -/
abbrev Obj.clFramesEnded (i : Nat) : Nat := (0x5000 + i) * 256 + 0x0B
/-- 0x5000.0C YIELD_OVERRUNS. -/
abbrev Obj.clYieldOverruns (i : Nat) : Nat := (0x5000 + i) * 256 + 0x0C
/-- 0x5000.0D LAST_TORN_ADDRESS. -/
abbrev Obj.clLastTornAddress (i : Nat) : Nat := (0x5000 + i) * 256 + 0x0D
/-- 0x5000.0E SEQUENCE_FAULTS. -/
abbrev Obj.clSequenceFaults (i : Nat) : Nat := (0x5000 + i) * 256 + 0x0E
/-- 0x5000.0F VERIFY_VIOLATIONS. -/
abbrev Obj.clVerifyViolations (i : Nat) : Nat := (0x5000 + i) * 256 + 0x0F
/-- 0x5000.10 STORE_ECC_CORRECTED. -/
abbrev Obj.clStoreEccCorrected (i : Nat) : Nat := (0x5000 + i) * 256 + 0x10
/-- 0x5000.11 STORE_ECC_UNCORRECTABLE. -/
abbrev Obj.clStoreEccUncorrectable (i : Nat) : Nat := (0x5000 + i) * 256 + 0x11
/-- 0x5040.01 CRY_JOB_MICRO_VERSION. -/
abbrev Obj.cryJobMicroVersion : Nat := 0x504001
/-- 0x5040.02 CRY_JOB_NANO_VERSION. -/
abbrev Obj.cryJobNanoVersion : Nat := 0x504002
/-- 0x5040.03 SRH_MAINT_MICRO_VERSION. -/
abbrev Obj.srhMaintMicroVersion : Nat := 0x504003
/-- 0x5040.04 SRH_MAINT_NANO_VERSION. -/
abbrev Obj.srhMaintNanoVersion : Nat := 0x504004
/-- 0x5040.05 MGT_BOOT_MICRO_VERSION. -/
abbrev Obj.mgtBootMicroVersion : Nat := 0x504005
/-- 0x5040.06 MGT_BOOT_NANO_VERSION. -/
abbrev Obj.mgtBootNanoVersion : Nat := 0x504006
/-- 0x5080.01 PRESENT. -/
abbrev Obj.slotPresent (i : Nat) : Nat := (0x5080 + i) * 256 + 0x01
/-- 0x5080.02 SLOT_VERSION. -/
abbrev Obj.slotVersion (i : Nat) : Nat := (0x5080 + i) * 256 + 0x02
/-- 0x5080.03 YIELD_BOUND. -/
abbrev Obj.slotYieldBound (i : Nat) : Nat := (0x5080 + i) * 256 + 0x03
/-- 0x5080.04 BOUND_CLUSTERS. -/
abbrev Obj.slotBoundClusters (i : Nat) : Nat := (0x5080 + i) * 256 + 0x04
/-- 0x5100.01 OD_MODE. -/
abbrev Obj.dispOdMode (i : Nat) : Nat := (0x5100 + i) * 256 + 0x01
/-- 0x5100.02 OD_OFFSET. -/
abbrev Obj.dispOdOffset (i : Nat) : Nat := (0x5100 + i) * 256 + 0x02
/-- 0x5100.03 OD_LENGTH. -/
abbrev Obj.dispOdLength (i : Nat) : Nat := (0x5100 + i) * 256 + 0x03
/-- 0x5100.04 OD_FIXED. -/
abbrev Obj.dispOdFixed (i : Nat) : Nat := (0x5100 + i) * 256 + 0x04
/-- 0x5100.05 CLUSTER_MASK. -/
abbrev Obj.dispClusterMask (i : Nat) : Nat := (0x5100 + i) * 256 + 0x05
/-- 0x5140.01 DISPATCHED. -/
abbrev Obj.dispStatDispatched (i : Nat) : Nat := (0x5140 + i) * 256 + 0x01
/-- 0x5140.02 NO_CLUSTER_DROPS. -/
abbrev Obj.dispStatNoClusterDrops (i : Nat) : Nat := (0x5140 + i) * 256 + 0x02
/-- 0x5180.01 RESULT_NO_DEST. -/
abbrev Obj.resultNoDest : Nat := 0x518001
/-- 0x5180.02 RESULT_DROP. -/
abbrev Obj.resultDrop : Nat := 0x518002
/-- 0x5180.03 RESULT_OVERSIZE. -/
abbrev Obj.resultOversize : Nat := 0x518003
/-- 0x5180.04 RESULT_TORN. -/
abbrev Obj.resultTorn : Nat := 0x518004
/-- 0x5180.05 RESULT_VERIFY_FAIL. -/
abbrev Obj.resultVerifyFail : Nat := 0x518005
/-- 0x1005.01 DRAIN_BOUND_US. -/
abbrev Obj.frontDrainBoundUs : Nat := 0x100501
/-- 0x1005.02 EXPIRED_ACTION. -/
abbrev Obj.frontExpiredAction : Nat := 0x100502
/-- 0x1005.03 FRONT_PHASE. -/
abbrev Obj.frontPhase : Nat := 0x100503
/-- 0x1005.04 COPY_MAP. -/
abbrev Obj.frontCopyMap : Nat := 0x100504
/-- 0x1005.05 LAST_COMMIT_TIME. -/
abbrev Obj.frontLastCommitTime : Nat := 0x100505
/-- 0x1005.06 LAST_FLIP_TIME. -/
abbrev Obj.frontLastFlipTime : Nat := 0x100506
/-- 0x1005.07 LAST_STAMP_TIME. -/
abbrev Obj.frontLastStampTime : Nat := 0x100507
/-- 0x1005.08 LAST_DRAIN_TIME. -/
abbrev Obj.frontLastDrainTime : Nat := 0x100508
/-- 0x1005.09 OLD_PARITY_RESIDENT. -/
abbrev Obj.frontOldParityResident : Nat := 0x100509
/-- 0x1005.0A FRONTS. -/
abbrev Obj.frontFronts : Nat := 0x10050A
/-- 0x1005.0B FRONTS_EXPIRED. -/
abbrev Obj.frontFrontsExpired : Nat := 0x10050B
/-- 0x1005.0C EXPIRED_FRAMES. -/
abbrev Obj.frontExpiredFrames : Nat := 0x10050C
/-- 0x1005.0D STALLS. -/
abbrev Obj.frontStalls : Nat := 0x10050D
/-- 0x1005.0E MAX_DRAIN_US. -/
abbrev Obj.frontMaxDrainUs : Nat := 0x10050E
/-- 0x6000.01 THRESHOLD_32. -/
abbrev Obj.threshold32 : Nat := 0x600001
/-- 0x6000.02 THRESHOLD_64. -/
abbrev Obj.threshold64 : Nat := 0x600002
/-- 0x6001.01 INLINE_DECRYPTS. -/
abbrev Obj.cryInlineDecrypts : Nat := 0x600101
/-- 0x6001.02 INLINE_ENCRYPTS. -/
abbrev Obj.cryInlineEncrypts : Nat := 0x600102
/-- 0x6001.03 NO_SA_FRAMES. -/
abbrev Obj.cryNoSaFrames : Nat := 0x600103
/-- 0x6001.04 AUTH_FAILS. -/
abbrev Obj.cryAuthFails : Nat := 0x600104
/-- 0x6001.05 JOBS_COMPLETED. -/
abbrev Obj.cryJobsCompleted : Nat := 0x600105
/-- 0x6001.06 JOB_BYTES. -/
abbrev Obj.cryJobBytes : Nat := 0x600106
/-- 0x6001.07 PREEMPTIONS. -/
abbrev Obj.cryPreemptions : Nat := 0x600107
/-- 0x6001.08 SQUALL_WAITS. -/
abbrev Obj.crySquallWaits : Nat := 0x600108
/-- 0x6001.09 CONTEXT_SLOTS_USED. -/
abbrev Obj.cryContextSlotsUsed : Nat := 0x600109
/-- 0x6001.0A KEY_DELIVERIES. -/
abbrev Obj.cryKeyDeliveries : Nat := 0x60010A
/-- 0x6001.0B KEY_DELIVERY_FAILS. -/
abbrev Obj.cryKeyDeliveryFails : Nat := 0x60010B
/-- 0x6001.0C DMA_ERRORS. -/
abbrev Obj.cryDmaErrors : Nat := 0x60010C
/-- 0x6001.0D SECTOR_OUTPUT_DROPS. -/
abbrev Obj.crySectorOutputDrops : Nat := 0x60010D
/-- 0x6010.01 ENGINE_STATE. -/
abbrev Obj.engineState (i : Nat) : Nat := (0x6010 + i) * 256 + 0x01
/-- 0x6010.02 ENGINE_JOBS. -/
abbrev Obj.engineJobs (i : Nat) : Nat := (0x6010 + i) * 256 + 0x02
/-- 0xE700 SA_TABLE (a domain, by its index). -/
abbrev Obj.domSaTable : Nat := 0xE700
/-- 0xE701 SA_KEYS (a domain, by its index). -/
abbrev Obj.domSaKeys : Nat := 0xE701
/-- 0xE702 SA_STATE (a domain, by its index). -/
abbrev Obj.domSaState : Nat := 0xE702
/-- 0xE703 SA_COUNTERS (a domain, by its index). -/
abbrev Obj.domSaCounters : Nat := 0xE703
/-- 0x7000.01 REORDER_HOLD_US. -/
abbrev Obj.swcReorderHoldUs : Nat := 0x700001
/-- 0x7000.02 INVALID_PORT_DROPS. -/
abbrev Obj.swcInvalidPortDrops : Nat := 0x700002
/-- 0x7000.03 BAD_QUEUE_DROPS. -/
abbrev Obj.swcBadQueueDrops : Nat := 0x700003
/-- 0x7000.04 FROST_ADMIT_DROPS. -/
abbrev Obj.swcFrostAdmitDrops : Nat := 0x700004
/-- 0x7000.05 REORDER_TIMEOUTS. -/
abbrev Obj.swcReorderTimeouts : Nat := 0x700005
/-- 0x7000.06 REORDER_LATE_DROPS. -/
abbrev Obj.swcReorderLateDrops : Nat := 0x700006
/-- 0x7000.07 SKIP_MARKERS. -/
abbrev Obj.swcSkipMarkers : Nat := 0x700007
/-- 0x7000.08 MCAST_SECOND_CHAINS. -/
abbrev Obj.swcMcastSecondChains : Nat := 0x700008
/-- 0x7000.09 CELL_ECC_CORRECTED. -/
abbrev Obj.swcCellEccCorrected : Nat := 0x700009
/-- 0x7000.0A CELL_ECC_DROPS. -/
abbrev Obj.swcCellEccDrops : Nat := 0x70000A
/-- 0x7000.0B DEVICE_FREE_CELLS. -/
abbrev Obj.swcDeviceFreeCells : Nat := 0x70000B
/-- 0x7000.0C POOL_SIZE_TOTAL. -/
abbrev Obj.swcPoolSizeTotal : Nat := 0x70000C
/-- 0x7001.01 LANDING_FREE. -/
abbrev Obj.landingFree (i : Nat) : Nat := (0x7001 + i) * 256 + 0x01
/-- 0x7001.02 LANDING_LOW. -/
abbrev Obj.landingLow (i : Nat) : Nat := (0x7001 + i) * 256 + 0x02
/-- 0x7001.03 LANDING_WAITS. -/
abbrev Obj.landingWaits (i : Nat) : Nat := (0x7001 + i) * 256 + 0x03
/-- 0x7010.01 POOL_SIZE. -/
abbrev Obj.poolSize (i : Nat) : Nat := (0x7010 + i) * 256 + 0x01
/-- 0x7010.02 FREE_CELLS. -/
abbrev Obj.poolFreeCells (i : Nat) : Nat := (0x7010 + i) * 256 + 0x02
/-- 0x7010.03 CHAINS. -/
abbrev Obj.poolChains (i : Nat) : Nat := (0x7010 + i) * 256 + 0x03
/-- 0x7010.04 HELD_CHAINS. -/
abbrev Obj.poolHeldChains (i : Nat) : Nat := (0x7010 + i) * 256 + 0x04
/-- 0x7010.05 LOW_FREE. -/
abbrev Obj.poolLowFree (i : Nat) : Nat := (0x7010 + i) * 256 + 0x05
/-- 0x7010.06 ALLOCS. -/
abbrev Obj.poolAllocs (i : Nat) : Nat := (0x7010 + i) * 256 + 0x06
/-- 0x7010.07 ALLOC_FAILS. -/
abbrev Obj.poolAllocFails (i : Nat) : Nat := (0x7010 + i) * 256 + 0x07
/-- 0x7010.08 ADMIT_POOL_DROPS. -/
abbrev Obj.poolAdmitPoolDrops (i : Nat) : Nat := (0x7010 + i) * 256 + 0x08
/-- 0x7010.09 DOUBLE_FREES. -/
abbrev Obj.poolDoubleFrees (i : Nat) : Nat := (0x7010 + i) * 256 + 0x09
/-- 0x7010.0A NOT_OWNER_COUNT. -/
abbrev Obj.poolNotOwnerCount (i : Nat) : Nat := (0x7010 + i) * 256 + 0x0A
/-- 0x7010.0B REF_LIMITS. -/
abbrev Obj.poolRefLimits (i : Nat) : Nat := (0x7010 + i) * 256 + 0x0B
/-- 0x7010.0C DENIED. -/
abbrev Obj.poolDenied (i : Nat) : Nat := (0x7010 + i) * 256 + 0x0C
/-- 0x7040.01 POOL_OP. -/
abbrev Obj.poolOp : Nat := 0x704001
/-- 0x7040.02 POOL_RESULT. -/
abbrev Obj.poolResult : Nat := 0x704002
/-- 0x7040.03 POOL_QUERY. -/
abbrev Obj.poolQuery : Nat := 0x704003
/-- 0x7100.01 RESEQ_TIMEOUT_US. -/
abbrev Obj.rsqReseqTimeoutUs (i : Nat) : Nat := (0x7100 + i) * 256 + 0x01
/-- 0x7100.02 HELD_ITEMS. -/
abbrev Obj.rsqHeldItems (i : Nat) : Nat := (0x7100 + i) * 256 + 0x02
/-- 0x7100.03 HOLES_TIMED_OUT. -/
abbrev Obj.rsqHolesTimedOut (i : Nat) : Nat := (0x7100 + i) * 256 + 0x03
/-- 0x7100.04 RESEQ_LATE_DROPS. -/
abbrev Obj.rsqReseqLateDrops (i : Nat) : Nat := (0x7100 + i) * 256 + 0x04
/-- 0x7100.05 RESEQ_FULL. -/
abbrev Obj.rsqReseqFull (i : Nat) : Nat := (0x7100 + i) * 256 + 0x05
/-- 0xE800 ADMISSION_TABLE (a domain, by its index). -/
abbrev Obj.domAdmissionTable : Nat := 0xE800
/-- 0xE801 ADMISSION_STATUS (a domain, by its index). -/
abbrev Obj.domAdmissionStatus : Nat := 0xE801
/-- 0xE802 MCAST_GROUPS (a domain, by its index). -/
abbrev Obj.domMcastGroups : Nat := 0xE802
/-- 0xE803 MCAST_MEMBERS (a domain, by its index). -/
abbrev Obj.domMcastMembers : Nat := 0xE803
/-- 0x8000.01 LENGTH_FORCED. -/
abbrev Obj.tmLengthForced : Nat := 0x800001
/-- 0x8000.02 METER_OFF_FRAMES. -/
abbrev Obj.tmMeterOffFrames : Nat := 0x800002
/-- 0x8000.03 RED_DROPS. -/
abbrev Obj.tmRedDrops : Nat := 0x800003
/-- 0x8000.04 SCHED_ROTATIONS. -/
abbrev Obj.tmSchedRotations : Nat := 0x800004
/-- 0x8000.05 QMAX_CLEAR. -/
abbrev Obj.tmQmaxClear : Nat := 0x800005
/-- 0x8000.06 SOJOURN_ALARM_NS. -/
abbrev Obj.tmSojournAlarmNs : Nat := 0x800006
/-- 0x8000.07 SOJOURN_ALARMS. -/
abbrev Obj.tmSojournAlarms : Nat := 0x800007
/-- 0x8001.01 TELEM_ENABLE. -/
abbrev Obj.telemEnable : Nat := 0x800101
/-- 0x8001.02 TELEM_BASE. -/
abbrev Obj.telemBase : Nat := 0x800102
/-- 0x8001.03 TELEM_ENTRIES. -/
abbrev Obj.telemEntries : Nat := 0x800103
/-- 0x8001.04 TELEM_HEAD. -/
abbrev Obj.telemHead : Nat := 0x800104
/-- 0x8001.05 TELEM_TAIL. -/
abbrev Obj.telemTail : Nat := 0x800105
/-- 0x8001.06 SAMPLE_INTERVAL_NS. -/
abbrev Obj.sampleIntervalNs : Nat := 0x800106
/-- 0x8001.07 SAMPLE_ROUNDS. -/
abbrev Obj.sampleRounds : Nat := 0x800107
/-- 0x8001.08 SAMPLE_OVERRUNS. -/
abbrev Obj.sampleOverruns : Nat := 0x800108
/-- 0x8001.09 SAMPLE_DEFERRED. -/
abbrev Obj.sampleDeferred : Nat := 0x800109
/-- 0x8001.0A RING_DROPS. -/
abbrev Obj.ringDrops : Nat := 0x80010A
/-- 0x8010.01 OVERHEAD. -/
abbrev Obj.acctOverhead (i : Nat) : Nat := (0x8010 + i) * 256 + 0x01
/-- 0x8010.02 FORCED. -/
abbrev Obj.acctForced (i : Nat) : Nat := (0x8010 + i) * 256 + 0x02
/-- 0x8100.01 ACCT_PROFILE. -/
abbrev Obj.schedAcctProfile (i : Nat) : Nat := (0x8100 + i) * 256 + 0x01
/-- 0x8100.02 SHAPE_RATE. -/
abbrev Obj.schedShapeRate (i : Nat) : Nat := (0x8100 + i) * 256 + 0x02
/-- 0x8100.03 SHAPE_BURST. -/
abbrev Obj.schedShapeBurst (i : Nat) : Nat := (0x8100 + i) * 256 + 0x03
/-- 0xE900 METERS (a domain, by its index). -/
abbrev Obj.domMeters : Nat := 0xE900
/-- 0xE901 METER_STATE (a domain, by its index). -/
abbrev Obj.domMeterState : Nat := 0xE901
/-- 0xE902 METER_COUNTERS (a domain, by its index). -/
abbrev Obj.domMeterCounters : Nat := 0xE902
/-- 0xE910 SCHED_QUEUES (a domain, by its index). -/
abbrev Obj.domSchedQueues : Nat := 0xE910
/-- 0xE911 SCHED_TENANT_NODES (a domain, by its index). -/
abbrev Obj.domSchedTenantNodes : Nat := 0xE911
/-- 0xE912 SCHED_GROUPS (a domain, by its index). -/
abbrev Obj.domSchedGroups : Nat := 0xE912
/-- 0xE913 QUEUE_STATUS (a domain, by its index). -/
abbrev Obj.domQueueStatus : Nat := 0xE913
/-- 0xE914 SAMPLE_SELECT (a domain, by its index). -/
abbrev Obj.domSampleSelect : Nat := 0xE914
/-- 0x9000.01 PLAN_ENABLE. -/
abbrev Obj.baroPlanEnable : Nat := 0x900001
/-- 0x9000.02 POWER_CAP_MW. -/
abbrev Obj.baroPowerCapMw : Nat := 0x900002
/-- 0x9000.03 RELEASE_MARGIN_PM. -/
abbrev Obj.baroReleaseMarginPm : Nat := 0x900003
/-- 0x9000.04 ESCALATE_TICKS. -/
abbrev Obj.baroEscalateTicks : Nat := 0x900004
/-- 0x9000.05 RELEASE_TICKS. -/
abbrev Obj.baroReleaseTicks : Nat := 0x900005
/-- 0x9000.06 ADMIT_FLOOR. -/
abbrev Obj.baroAdmitFloor : Nat := 0x900006
/-- 0x9000.07 ADMIT_STEP. -/
abbrev Obj.baroAdmitStep : Nat := 0x900007
/-- 0x9000.08 STRETCH_MASK. -/
abbrev Obj.baroStretchMask : Nat := 0x900008
/-- 0x9000.09 STRETCH_MIN_K. -/
abbrev Obj.baroStretchMinK : Nat := 0x900009
/-- 0x9000.0A DENY_ACTION. -/
abbrev Obj.baroDenyAction : Nat := 0x90000A
/-- 0x9001.01 LEVEL. -/
abbrev Obj.baroLevel : Nat := 0x900101
/-- 0x9001.02 FORECAST_MW. -/
abbrev Obj.baroForecastMw : Nat := 0x900102
/-- 0x9001.03 DEVICE_POWER_MW. -/
abbrev Obj.baroDevicePowerMw : Nat := 0x900103
/-- 0x9001.04 TICKS. -/
abbrev Obj.baroTicks : Nat := 0x900104
/-- 0x9001.05 OVER_TICKS. -/
abbrev Obj.baroOverTicks : Nat := 0x900105
/-- 0x9001.06 TENANTS_OVER_SHARE. -/
abbrev Obj.baroTenantsOverShare : Nat := 0x900106
/-- 0x9001.07 LATE_REPORTS. -/
abbrev Obj.baroLateReports : Nat := 0x900107
/-- 0x9002.01 DEVICE_UJ. -/
abbrev Obj.deviceUj : Nat := 0x900201
/-- 0x9002.02 STATIC_UJ. -/
abbrev Obj.staticUj : Nat := 0x900202
/-- 0x9005.01 PASS_DENIALS. -/
abbrev Obj.baroPassDenials : Nat := 0x900501
/-- 0x9005.02 BULK_DEFERRED. -/
abbrev Obj.baroBulkDeferred : Nat := 0x900502
/-- 0x9005.03 BULK_REFUSALS. -/
abbrev Obj.baroBulkRefusals : Nat := 0x900503
/-- 0x9005.04 THROTTLE_DROPS. -/
abbrev Obj.baroThrottleDrops : Nat := 0x900504
/-- 0x9005.05 STRETCH_CHANGES. -/
abbrev Obj.baroStretchChanges : Nat := 0x900505
/-- 0xEA00 LEDGER (a domain, by its index). -/
abbrev Obj.domLedger : Nat := 0xEA00
/-- 0x9003.01 RAIL_REPORT. -/
abbrev Obj.railReport : Nat := 0x900301
/-- 0x9003.02 STATIC_MW. -/
abbrev Obj.staticMw : Nat := 0x900302
/-- 0x9003.03 STATIC_INIT_MW. -/
abbrev Obj.staticInitMw : Nat := 0x900303
/-- 0x9003.04 CAL_SHIFT. -/
abbrev Obj.calShift : Nat := 0x900304
/-- 0x9003.05 CAL_ALARM_MW. -/
abbrev Obj.calAlarmMw : Nat := 0x900305
/-- 0x9003.06 LAST_ERROR_MW. -/
abbrev Obj.lastErrorMw : Nat := 0x900306
/-- 0x9003.07 CAL_REPORTS. -/
abbrev Obj.calReports : Nat := 0x900307
/-- 0x9003.08 CAL_REJECTS. -/
abbrev Obj.calRejects : Nat := 0x900308
/-- 0x9004.01 EXPORT_ENABLE. -/
abbrev Obj.exportEnable : Nat := 0x900401
/-- 0x9004.02 EXPORT_BASE. -/
abbrev Obj.exportBase : Nat := 0x900402
/-- 0x9004.03 EXPORT_PERIOD_US. -/
abbrev Obj.exportPeriodUs : Nat := 0x900403
/-- 0x9004.04 EXPORT_SEQUENCE. -/
abbrev Obj.exportSequence : Nat := 0x900404
/-- 0x9004.05 EXPORT_ERRORS. -/
abbrev Obj.exportErrors : Nat := 0x900405
/-- 0x9010.01 FUSED. -/
abbrev Obj.coefFused (j : Nat) : Nat := 0x901001 + j
/-- 0x9011.01 OVERRIDE. -/
abbrev Obj.coefOverride (j : Nat) : Nat := 0x901101 + j
/-- 0x9012.01 IN_USE. -/
abbrev Obj.coefInUse (j : Nat) : Nat := 0x901201 + j
/-- 0xB000.01 RECORDS_WRITTEN. -/
abbrev Obj.evRecordsWritten : Nat := 0xB00001
/-- 0xB000.02 QUEUE_DEPTH. -/
abbrev Obj.evQueueDepth : Nat := 0xB00002
/-- 0xB000.03 FOLDED. -/
abbrev Obj.evFolded : Nat := 0xB00003
/-- 0xB000.04 INT_STATUS. -/
abbrev Obj.evIntStatus : Nat := 0xB00004
/-- 0xB000.05 INT_ACK. -/
abbrev Obj.evIntAck : Nat := 0xB00005
/-- 0xB000.06 INT_PIN_ENABLE. -/
abbrev Obj.evIntPinEnable : Nat := 0xB00006
/-- 0xB010.01 RING_ENABLE. -/
abbrev Obj.erRingEnable (i : Nat) : Nat := (0xB010 + i) * 256 + 0x01
/-- 0xB010.02 RING_BASE. -/
abbrev Obj.erRingBase (i : Nat) : Nat := (0xB010 + i) * 256 + 0x02
/-- 0xB010.03 RING_ENTRIES. -/
abbrev Obj.erRingEntries (i : Nat) : Nat := (0xB010 + i) * 256 + 0x03
/-- 0xB010.04 RING_HEAD. -/
abbrev Obj.erRingHead (i : Nat) : Nat := (0xB010 + i) * 256 + 0x04
/-- 0xB010.05 RING_TAIL. -/
abbrev Obj.erRingTail (i : Nat) : Nat := (0xB010 + i) * 256 + 0x05
/-- 0xB010.06 MODERATION_US. -/
abbrev Obj.erModerationUs (i : Nat) : Nat := (0xB010 + i) * 256 + 0x06
/-- 0xB010.07 RING_FULL_FOLDS. -/
abbrev Obj.erRingFullFolds (i : Nat) : Nat := (0xB010 + i) * 256 + 0x07
/-- 0xB100.01 MODE. -/
abbrev Obj.bankMode (i : Nat) : Nat := (0xB100 + i) * 256 + 0x01
/-- 0xB100.02 SELECT0. -/
abbrev Obj.bankSelect0 (i j : Nat) : Nat := (0xB100 + i) * 256 + 0x02 + j
/-- 0xB100.0A CYCLES. -/
abbrev Obj.bankCycles (i : Nat) : Nat := (0xB100 + i) * 256 + 0x0A
/-- 0xB100.0B OVERFLOW. -/
abbrev Obj.bankOverflow (i : Nat) : Nat := (0xB100 + i) * 256 + 0x0B
/-- 0xB100.0C SNAPSHOT. -/
abbrev Obj.bankSnapshot (i : Nat) : Nat := (0xB100 + i) * 256 + 0x0C
/-- 0xB100.0D SNAP_CYCLES. -/
abbrev Obj.bankSnapCycles (i : Nat) : Nat := (0xB100 + i) * 256 + 0x0D
/-- 0xB080.01 UNCOUNTED. -/
abbrev Obj.uncounted : Nat := 0xB08001
/-- 0xB200.01 SAMPLE_ENABLE. -/
abbrev Obj.smpSampleEnable (i : Nat) : Nat := (0xB200 + i) * 256 + 0x01
/-- 0xB200.02 SAMPLE_PERIOD. -/
abbrev Obj.smpSamplePeriod (i : Nat) : Nat := (0xB200 + i) * 256 + 0x02
/-- 0xB200.03 SAMPLE_JITTER. -/
abbrev Obj.smpSampleJitter (i : Nat) : Nat := (0xB200 + i) * 256 + 0x03
/-- 0xB200.04 SAMPLE_TENANT. -/
abbrev Obj.smpSampleTenant (i : Nat) : Nat := (0xB200 + i) * 256 + 0x04
/-- 0xB200.05 SAMPLES_TAKEN. -/
abbrev Obj.smpSamplesTaken (i : Nat) : Nat := (0xB200 + i) * 256 + 0x05
/-- 0xB200.06 SAMPLES_LOST. -/
abbrev Obj.smpSamplesLost (i : Nat) : Nat := (0xB200 + i) * 256 + 0x06
/-- 0xB200.07 BUFFER_FILL. -/
abbrev Obj.smpBufferFill (i : Nat) : Nat := (0xB200 + i) * 256 + 0x07
/-- 0xB280.01 SRING_ENABLE. -/
abbrev Obj.sringEnable : Nat := 0xB28001
/-- 0xB280.02 SRING_BASE. -/
abbrev Obj.sringBase : Nat := 0xB28002
/-- 0xB280.03 SRING_ENTRIES. -/
abbrev Obj.sringEntries : Nat := 0xB28003
/-- 0xB280.04 SRING_HEAD. -/
abbrev Obj.sringHead : Nat := 0xB28004
/-- 0xB280.05 SRING_TAIL. -/
abbrev Obj.sringTail : Nat := 0xB28005
/-- 0xB280.06 SRING_STALLS. -/
abbrev Obj.sringStalls : Nat := 0xB28006
/-- 0xEB00 EVENT_CONFIG (a domain, by its index). -/
abbrev Obj.domEventConfig : Nat := 0xEB00
/-- 0xEB01 EVENT_STATUS (a domain, by its index). -/
abbrev Obj.domEventStatus : Nat := 0xEB01
/-- 0xEB02 COUNTER_PAGES (a domain, by its index). -/
abbrev Obj.domCounterPages : Nat := 0xEB02
/-- 0xEB03 COUNTER_PAGE_MAP (a domain, by its index). -/
abbrev Obj.domCounterPageMap : Nat := 0xEB03
/-- 0xEB10 + i BANK_COUNTERS (a domain, by its index). -/
abbrev Obj.domBankCounters (i : Nat) : Nat := 0xEB10 + i
/-- 0x0003.01 BOOT_PHASE. -/
abbrev Obj.bootPhase : Nat := 0x000301
/-- 0x0003.02 REJECT_REASON. -/
abbrev Obj.bootRejectReason : Nat := 0x000302
/-- 0x0003.03 BUNDLE_BYTES. -/
abbrev Obj.bootBundleBytes : Nat := 0x000303
/-- 0x0003.04 ROLLBACK_COUNT. -/
abbrev Obj.bootRollbackCount : Nat := 0x000304
/-- 0x0003.05 OWNER_SLOTS. -/
abbrev Obj.bootOwnerSlots : Nat := 0x000305
/-- 0x0003.06 TORN_ROWS. -/
abbrev Obj.bootTornRows : Nat := 0x000306
/-- 0xC000.01 FUSE_ROW_STATE. -/
abbrev Obj.fuseRowState : Nat := 0xC00001
/-- 0xC000.02 SUPPLY_STABLE. -/
abbrev Obj.supplyStable : Nat := 0xC00002
/-- 0xC000.03 BURN_STATUS. -/
abbrev Obj.burnStatus : Nat := 0xC00003
/-- 0xC000.04 BURNS. -/
abbrev Obj.burns : Nat := 0xC00004
/-- 0xC000.05 VENDOR_ROOT_HASH. -/
abbrev Obj.vendorRootHash : Nat := 0xC00005
/-- 0xC010.01 OWNER_KEY_HASH. -/
abbrev Obj.ownOwnerKeyHash (i : Nat) : Nat := (0xC010 + i) * 256 + 0x01
/-- 0xC010.02 OWNER_REVOKE. -/
abbrev Obj.ownOwnerRevoke (i : Nat) : Nat := (0xC010 + i) * 256 + 0x02
/-- 0xC010.03 SLOT_STATE. -/
abbrev Obj.ownSlotState (i : Nat) : Nat := (0xC010 + i) * 256 + 0x03
/-- 0xC020.01 ROLLBACK_ADVANCE. -/
abbrev Obj.rollbackAdvance : Nat := 0xC02001
/-- 0xC021.01 LIFECYCLE_ADVANCE. -/
abbrev Obj.lifecycleAdvance : Nat := 0xC02101
/-- 0xC030.01 MR0. -/
abbrev Obj.mr0 (j : Nat) : Nat := 0xC03001 + j
/-- 0xC030.11 MR_EXTEND. -/
abbrev Obj.mrExtend : Nat := 0xC03011
/-- 0xC040.01 IDENTITY_PUBLIC_KEY. -/
abbrev Obj.identityPublicKey : Nat := 0xC04001
/-- 0xC040.02 ALIAS_PUBLIC_KEY. -/
abbrev Obj.aliasPublicKey : Nat := 0xC04002
/-- 0xC041 ALIAS_CERT (a domain, by its index). -/
abbrev Obj.domAliasCert : Nat := 0xC041
/-- 0xC050.01 QUOTE_REQUEST. -/
abbrev Obj.quoteRequest : Nat := 0xC05001
/-- 0xC050.02 QUOTE_STATUS. -/
abbrev Obj.quoteStatus : Nat := 0xC05002
/-- 0xC051 QUOTE (a domain, by its index). -/
abbrev Obj.domQuote : Nat := 0xC051
/-- 0xC100 BUNDLE_TRANSFER (a domain, by its index). -/
abbrev Obj.domBundleTransfer : Nat := 0xC100
/-- 0xC101.01 UPDATE_PHASE. -/
abbrev Obj.updatePhase : Nat := 0xC10101
/-- 0xC101.02 UPDATE_REJECT_REASON. -/
abbrev Obj.updateRejectReason : Nat := 0xC10102
/-- 0xC101.03 BUNDLE_SVN. -/
abbrev Obj.bundleSvn : Nat := 0xC10103
/-- 0xC101.04 BUNDLE_ID. -/
abbrev Obj.bundleId : Nat := 0xC10104
/-- 0xD000.01 VENDOR_ID. -/
abbrev Obj.hostVendorId : Nat := 0xD00001
/-- 0xD000.02 LINK_RATE. -/
abbrev Obj.hostLinkRate : Nat := 0xD00002
/-- 0xD000.03 LINK_WIDTH. -/
abbrev Obj.hostLinkWidth : Nat := 0xD00003
/-- 0xD000.04 NUM_VFS. -/
abbrev Obj.hostNumVfs : Nat := 0xD00004
/-- 0xD000.05 SLOWPATH_RATE. -/
abbrev Obj.hostSlowpathRate : Nat := 0xD00005
/-- 0xD000.06 SLOWPATH_BURST. -/
abbrev Obj.hostSlowpathBurst : Nat := 0xD00006
/-- 0xD000.07 POLICER_DROPS. -/
abbrev Obj.hostPolicerDrops : Nat := 0xD00007
/-- 0xD000.08 DOORBELL_REJECTS. -/
abbrev Obj.hostDoorbellRejects : Nat := 0xD00008
/-- 0xD000.09 LAST_GASP_ENABLE. -/
abbrev Obj.hostLastGaspEnable : Nat := 0xD00009
/-- 0xD000.0A LAST_GASP_BASE. -/
abbrev Obj.hostLastGaspBase : Nat := 0xD0000A
/-- 0xD010.01 MB_VECTOR. -/
abbrev Obj.mbVector (i : Nat) : Nat := (0xD010 + i) * 256 + 0x01
/-- 0xEC00 RX_RING_MAP (a domain, by its index). -/
abbrev Obj.domRxRingMap : Nat := 0xEC00
/-- 0xD100.01 OWNER (R402 rings: g 0-63 receive, 64-127 inject, 128-143 job). -/
abbrev Obj.ringOwner (g : Nat) : Nat := ringIndex g * 256 + 0x01
/-- 0xD100.02 ENABLE (R402 rings: g 0-63 receive, 64-127 inject, 128-143 job). -/
abbrev Obj.ringEnable (g : Nat) : Nat := ringIndex g * 256 + 0x02
/-- 0xD100.03 BASE (R402 rings: g 0-63 receive, 64-127 inject, 128-143 job). -/
abbrev Obj.ringBase (g : Nat) : Nat := ringIndex g * 256 + 0x03
/-- 0xD100.04 ENTRIES (R402 rings: g 0-63 receive, 64-127 inject, 128-143 job). -/
abbrev Obj.ringEntries (g : Nat) : Nat := ringIndex g * 256 + 0x04
/-- 0xD100.05 VECTOR (R402 rings: g 0-63 receive, 64-127 inject, 128-143 job). -/
abbrev Obj.ringVector (g : Nat) : Nat := ringIndex g * 256 + 0x05
/-- 0xD100.06 MODERATION_US (R402 rings: g 0-63 receive, 64-127 inject, 128-143 job). -/
abbrev Obj.ringModerationUs (g : Nat) : Nat := ringIndex g * 256 + 0x06
/-- 0xD100.07 ENTRIES_DONE (R402 rings: g 0-63 receive, 64-127 inject, 128-143 job). -/
abbrev Obj.ringEntriesDone (g : Nat) : Nat := ringIndex g * 256 + 0x07
/-- 0xD100.08 DMA_ERRORS (R402 rings: g 0-63 receive, 64-127 inject, 128-143 job). -/
abbrev Obj.ringDmaErrors (g : Nat) : Nat := ringIndex g * 256 + 0x08
/-- 0xD100.09 RX_DISABLED_DROPS (R402 rings: g 0-63 receive, 64-127 inject, 128-143 job). -/
abbrev Obj.ringRxDisabledDrops (g : Nat) : Nat := ringIndex g * 256 + 0x09
/-- 0xD100.0A RX_NO_BUFFER_DROPS (R402 rings: g 0-63 receive, 64-127 inject, 128-143 job). -/
abbrev Obj.ringRxNoBufferDrops (g : Nat) : Nat := ringIndex g * 256 + 0x0A
/-- 0xD100.0B RX_TOO_LONG_DROPS (R402 rings: g 0-63 receive, 64-127 inject, 128-143 job). -/
abbrev Obj.ringRxTooLongDrops (g : Nat) : Nat := ringIndex g * 256 + 0x0B
/-- 0xD180.0C COMP_BASE. -/
abbrev Obj.ringCompBase (r : Nat) : Nat := (0xD180 + r) * 256 + 0x0C
/-- 0xD180.0D COMP_TAIL_ADDR. -/
abbrev Obj.ringCompTailAddr (r : Nat) : Nat := (0xD180 + r) * 256 + 0x0D
/-- 0x1030.01 DEVICE_STATE. -/
abbrev Obj.deviceState : Nat := 0x103001
/-- 0x1030.02 STATE_REQUEST. -/
abbrev Obj.stateRequest : Nat := 0x103002
/-- 0x1030.03 RECOVERY_CAUSE. -/
abbrev Obj.recoveryCause : Nat := 0x103003
/-- 0x1030.04 CLUSTERS_IN_SERVICE. -/
abbrev Obj.clustersInService : Nat := 0x103004
/-- 0x1030.05 RESET_CAUSE. -/
abbrev Obj.resetCause : Nat := 0x103005
/-- 0x1030.06 WARM_RESET. -/
abbrev Obj.warmReset : Nat := 0x103006
/-- 0x1030.07 STATE_ENTERED. -/
abbrev Obj.stateEntered : Nat := 0x103007
/-- 0x1030.08 WARM_RESETS. -/
abbrev Obj.warmResets : Nat := 0x103008
/-- 0x1031.01 TEMP_MAX_MC. -/
abbrev Obj.tempMaxMc : Nat := 0x103101
/-- 0x1031.02 THERMAL_K. -/
abbrev Obj.thermalK : Nat := 0x103102
/-- 0x1031.03 THROTTLE_MS. -/
abbrev Obj.throttleMs : Nat := 0x103103
/-- 0x1031.04 VCORE_LOW. -/
abbrev Obj.vcoreLow : Nat := 0x103104
/-- 0x1031.05 TRIP_LATCHED. -/
abbrev Obj.tripLatched : Nat := 0x103105
/-- 0x1032.01 ISLAND_TEMP_MC. -/
abbrev Obj.islandTempMc (j : Nat) : Nat := 0x103201 + j
/-- 0x1033.01 COUNTER_MARK. -/
abbrev Obj.counterMark : Nat := 0x103301
/-- 0x1033.02 LOGGED_COUNTERS. -/
abbrev Obj.loggedCounters : Nat := 0x103302
/-- 0x1033.03 LOG_OVERFLOW. -/
abbrev Obj.logOverflow : Nat := 0x103303
/-- 0x1034.01 PFAIL_ACCEPTED. -/
abbrev Obj.pfailAccepted : Nat := 0x103401
/-- 0x1034.02 PFAIL_GLITCHES. -/
abbrev Obj.pfailGlitches : Nat := 0x103402
/-- 0x1040.01 GPIO_DIR. -/
abbrev Obj.gpioDir : Nat := 0x104001
/-- 0x1040.02 GPIO_OUT. -/
abbrev Obj.gpioOut : Nat := 0x104002
/-- 0x1040.03 GPIO_IN. -/
abbrev Obj.gpioIn : Nat := 0x104003
/-- 0x1041.01 TIME_NOW. -/
abbrev Obj.timeNow : Nat := 0x104101
/-- 0x1041.02 TOD_OFFSET. -/
abbrev Obj.todOffset : Nat := 0x104102
/-- 0x1041.03 PPS_IN_CAPTURE. -/
abbrev Obj.ppsInCapture : Nat := 0x104103
/-- 0x1041.04 PPS_IN_COUNT. -/
abbrev Obj.ppsInCount : Nat := 0x104104
/-- 0x1041.05 PPS_IN_REJECTS. -/
abbrev Obj.ppsInRejects : Nat := 0x104105
/-- 0x1041.06 PPS_OUT_ENABLE. -/
abbrev Obj.ppsOutEnable : Nat := 0x104106

/-! ### The rows, by the top hexadecimal digit of their index -/

/-- Rows of indices 0x0xxx, part 0. -/
def objRows0_0 : List ObjRow := [
  { name := "VENDOR_NAME", first := 0x0000, count := 1, subLo := 0x01, subHi := 0x01, ty := (.text 16), access := .ro, group := none, dflt := 0x4f6c697a750000000000000000000000, lo := 0, hi := 0xFFFFFFFFFFFFFFFFFFFFFFFFFFFFFFFF },
  { name := "DEVICE_CODE", first := 0x0000, count := 1, subLo := 0x02, subHi := 0x02, ty := .u16, access := .ro, group := none, dflt := 0x1280, lo := 0, hi := 0xFFFF },
  { name := "STEPPING", first := 0x0000, count := 1, subLo := 0x03, subHi := 0x03, ty := .u8, access := .ro, group := none, dflt := 0xa1, lo := 0, hi := 0xFF },
  { name := "PART_NUMBER", first := 0x0000, count := 1, subLo := 0x04, subHi := 0x04, ty := (.text 16), access := .ro, group := none, dflt := 0x5356313238302d413100000000000000, lo := 0, hi := 0xFFFFFFFFFFFFFFFFFFFFFFFFFFFFFFFF },
  { name := "DEVICE_SERIAL", first := 0x0000, count := 1, subLo := 0x05, subHi := 0x05, ty := (.octets 16), access := .ro, group := none, dflt := 0, lo := 0, hi := 0xFFFFFFFFFFFFFFFFFFFFFFFFFFFFFFFF },
  { name := "VCORE_REQUIRED_MV", first := 0x0000, count := 1, subLo := 0x06, subHi := 0x06, ty := .u16, access := .ro, group := none, dflt := 0x2ee, lo := 0, hi := 0xFFFF },
  { name := "DICTIONARY_VERSION", first := 0x0000, count := 1, subLo := 0x07, subHi := 0x07, ty := .u32, access := .ro, group := none, dflt := 0x10000, lo := 0, hi := 0xFFFFFFFF },
  { name := "INDEX_COUNT", first := 0x0000, count := 1, subLo := 0x08, subHi := 0x08, ty := .u32, access := .ro, group := none, dflt := 0x1849, lo := 0, hi := 0xFFFFFFFF },
  { name := "KAZNU_VERSION", first := 0x0001, count := 1, subLo := 0x01, subHi := 0x01, ty := .u8, access := .ro, group := none, dflt := 1, lo := 0, hi := 0xFF },
  { name := "MAILBOX_PAYLOAD_MAX", first := 0x0001, count := 1, subLo := 0x02, subHi := 0x02, ty := .u16, access := .ro, group := none, dflt := 0xff0, lo := 0, hi := 0xFFFF },
  { name := "NETWORK_PAYLOAD_MAX", first := 0x0001, count := 1, subLo := 0x03, subHi := 0x03, ty := .u16, access := .ro, group := none, dflt := 0x400, lo := 0, hi := 0xFFFF },
  { name := "LIFECYCLE", first := 0x0002, count := 1, subLo := 0x01, subHi := 0x01, ty := .u8, access := .ro, group := none, dflt := 0, lo := 0, hi := 0xFF },
  { name := "BOOT_PHASE", first := 0x0003, count := 1, subLo := 0x01, subHi := 0x01, ty := .u8, access := .ro, group := none, dflt := 0, lo := 0, hi := 0xFF },
  { name := "REJECT_REASON", first := 0x0003, count := 1, subLo := 0x02, subHi := 0x02, ty := .u8, access := .ro, group := none, dflt := 0, lo := 0, hi := 0xFF },
  { name := "BUNDLE_BYTES", first := 0x0003, count := 1, subLo := 0x03, subHi := 0x03, ty := .u32, access := .ro, group := none, dflt := 0, lo := 0, hi := 0xFFFFFFFF },
  { name := "ROLLBACK_COUNT", first := 0x0003, count := 1, subLo := 0x04, subHi := 0x04, ty := .u8, access := .ro, group := none, dflt := 0, lo := 0, hi := 0xFF },
  { name := "OWNER_SLOTS", first := 0x0003, count := 1, subLo := 0x05, subHi := 0x05, ty := .u8, access := .ro, group := none, dflt := 0, lo := 0, hi := 0xFF },
  { name := "TORN_ROWS", first := 0x0003, count := 1, subLo := 0x06, subHi := 0x06, ty := .u16, access := .ro, group := none, dflt := 0, lo := 0, hi := 0xFFFF }]

/-- Rows of indices 0x0xxx. -/
def objRows0 : List ObjRow := objRows0_0

/-- Rows of indices 0x1xxx, part 0. -/
def objRows1_0 : List ObjRow := [
  { name := "INBAND_ETHERTYPE", first := 0x1000, count := 1, subLo := 0x01, subHi := 0x01, ty := .u16, access := .rws, group := some 0, dflt := 0x88b6, lo := 0, hi := 0xFFFF },
  { name := "INBAND_MAC", first := 0x1000, count := 1, subLo := 0x02, subHi := 0x02, ty := (.octets 6), access := .rws, group := some 0, dflt := 0, lo := 0, hi := 0xFFFFFFFFFFFF },
  { name := "INBAND_RATE", first := 0x1000, count := 1, subLo := 0x03, subHi := 0x03, ty := .u32, access := .rws, group := some 0, dflt := 0x186a0, lo := 0x3e8, hi := 0xF4240 },
  { name := "LOCKED_WRITE_COUNT", first := 0x1001, count := 1, subLo := 0x01, subHi := 0x01, ty := .u32, access := .ro, group := none, dflt := 0, lo := 0, hi := 0xFFFFFFFF },
  { name := "LAST_LOCKED_TARGET", first := 0x1001, count := 1, subLo := 0x02, subHi := 0x02, ty := .u32, access := .ro, group := none, dflt := 0, lo := 0, hi := 0xFFFFFFFF },
  { name := "LAST_LOCKED_MASTER", first := 0x1001, count := 1, subLo := 0x03, subHi := 0x03, ty := .u16, access := .ro, group := none, dflt := 0, lo := 0, hi := 0xFFFF },
  { name := "AUTH_FAIL_COUNT", first := 0x1001, count := 1, subLo := 0x04, subHi := 0x04, ty := .u32, access := .ro, group := none, dflt := 0, lo := 0, hi := 0xFFFFFFFF },
  { name := "SEQUENCE_REJECT_COUNT", first := 0x1001, count := 1, subLo := 0x05, subHi := 0x05, ty := .u32, access := .ro, group := none, dflt := 0, lo := 0, hi := 0xFFFFFFFF },
  { name := "MAILBOX_MISUSE_COUNT", first := 0x1001, count := 1, subLo := 0x06, subHi := 0x06, ty := .u32, access := .ro, group := none, dflt := 0, lo := 0, hi := 0xFFFFFFFF },
  { name := "INBAND_DISCARD_COUNT", first := 0x1001, count := 1, subLo := 0x07, subHi := 0x07, ty := .u32, access := .ro, group := none, dflt := 0, lo := 0, hi := 0xFFFFFFFF },
  { name := "TMR_CORRECTED_COUNT", first := 0x1002, count := 1, subLo := 0x01, subHi := 0x01, ty := .u32, access := .ro, group := none, dflt := 0, lo := 0, hi := 0xFFFFFFFF },
  { name := "TMR_UNRESOLVED_COUNT", first := 0x1002, count := 1, subLo := 0x02, subHi := 0x02, ty := .u32, access := .ro, group := none, dflt := 0, lo := 0, hi := 0xFFFFFFFF },
  { name := "TMR_LAST_FIELD", first := 0x1002, count := 1, subLo := 0x03, subHi := 0x03, ty := .u32, access := .ro, group := none, dflt := 0, lo := 0, hi := 0xFFFFFFFF },
  { name := "STROBE_GROUP_MAP", first := 0x1003, count := 1, subLo := 0x01, subHi := 0x10, ty := (.bits 16), access := .ro, group := none, dflt := 0, lo := 0, hi := 0xFFFF },
  { name := "GENERATION", first := 0x1004, count := 1, subLo := 0x01, subHi := 0x01, ty := .u64, access := .ro, group := none, dflt := 0, lo := 0, hi := 0xFFFFFFFFFFFFFFFF },
  { name := "PARITY", first := 0x1004, count := 1, subLo := 0x02, subHi := 0x02, ty := .bool, access := .ro, group := none, dflt := 0, lo := 0, hi := 1 },
  { name := "DRAINING", first := 0x1004, count := 1, subLo := 0x03, subHi := 0x03, ty := .bool, access := .ro, group := none, dflt := 0, lo := 0, hi := 1 },
  { name := "LAST_COMMIT_MASK", first := 0x1004, count := 1, subLo := 0x04, subHi := 0x04, ty := .u16, access := .ro, group := none, dflt := 0, lo := 0, hi := 0xFFFF },
  { name := "MODE", first := 0x1008, count := 2, subLo := 0x01, subHi := 0x01, ty := .u8, access := .rw, group := none, dflt := 0, lo := 0, hi := 2 },
  { name := "MAC", first := 0x1008, count := 2, subLo := 0x02, subHi := 0x02, ty := (.octets 6), access := .rw, group := none, dflt := 0, lo := 0, hi := 0xFFFFFFFFFFFF },
  { name := "IPV4", first := 0x1008, count := 2, subLo := 0x03, subHi := 0x03, ty := (.octets 4), access := .rw, group := none, dflt := 0, lo := 0, hi := 0xFFFFFFFF },
  { name := "IPV6", first := 0x1008, count := 2, subLo := 0x04, subHi := 0x04, ty := (.octets 16), access := .rw, group := none, dflt := 0, lo := 0, hi := 0xFFFFFFFFFFFFFFFFFFFFFFFFFFFFFFFF },
  { name := "UDP_PORT", first := 0x1008, count := 2, subLo := 0x05, subHi := 0x05, ty := .u16, access := .rw, group := none, dflt := 0, lo := 0, hi := 0xFFFF },
  { name := "STATE", first := 0x1010, count := 16, subLo := 0x01, subHi := 0x01, ty := .u8, access := .rw, group := none, dflt := 0, lo := 0, hi := 1 },
  { name := "KEY", first := 0x1010, count := 16, subLo := 0x02, subHi := 0x02, ty := (.octets 32), access := .wo, group := none, dflt := 0, lo := 0, hi := 0xFFFFFFFFFFFFFFFFFFFFFFFFFFFFFFFFFFFFFFFFFFFFFFFFFFFFFFFFFFFFFFFF },
  { name := "LAST_SEQUENCE", first := 0x1010, count := 16, subLo := 0x03, subHi := 0x03, ty := .u32, access := .ro, group := none, dflt := 0, lo := 0, hi := 0xFFFFFFFF },
  { name := "REQUESTS", first := 0x1010, count := 16, subLo := 0x04, subHi := 0x04, ty := .u32, access := .ro, group := none, dflt := 0, lo := 0, hi := 0xFFFFFFFF },
  { name := "ENTRY", first := 0x1100, count := 8, subLo := 0x01, subHi := 0x40, ty := .u64, access := .rws, group := some 13, dflt := 0, lo := 0, hi := 0xFFFFFFFFFFFFFFFF },
  { name := "CLASS_MASK", first := 0x1100, count := 8, subLo := 0x41, subHi := 0x60, ty := (.bits 16), access := .rws, group := some 13, dflt := 0, lo := 0, hi := 0xFFFF },
  { name := "DENY_COUNT", first := 0x1100, count := 8, subLo := 0x61, subHi := 0x61, ty := .u64, access := .rm, group := none, dflt := 0, lo := 0, hi := 0xFFFFFFFFFFFFFFFF },
  { name := "LAST_DENIED_MASTER", first := 0x1100, count := 8, subLo := 0x62, subHi := 0x62, ty := .u16, access := .rm, group := none, dflt := 0, lo := 0, hi := 0xFFFF },
  { name := "LAST_DENIED_RESOURCE", first := 0x1100, count := 8, subLo := 0x63, subHi := 0x63, ty := .u16, access := .rm, group := none, dflt := 0, lo := 0, hi := 0xFFFF },
  { name := "FROST_REQUEST", first := 0x1020, count := 1, subLo := 0x01, subHi := 0x01, ty := .u64, access := .wo, group := none, dflt := 0, lo := 0, hi := 0xFFFFFFFFFFFFFFFF },
  { name := "DEADLINE_DEFAULT", first := 0x1020, count := 1, subLo := 0x02, subHi := 0x02, ty := .u32, access := .rw, group := none, dflt := 0x3e8, lo := 0xa, hi := 0xF4240 },
  { name := "FROSTING_COUNT", first := 0x1020, count := 1, subLo := 0x03, subHi := 0x03, ty := .u8, access := .ro, group := none, dflt := 0, lo := 0, hi := 0xFF },
  { name := "FORCED_COUNT", first := 0x1020, count := 1, subLo := 0x04, subHi := 0x04, ty := .u32, access := .ro, group := none, dflt := 0, lo := 0, hi := 0xFFFFFFFF },
  { name := "PORT_FROST", first := 0x1021, count := 1, subLo := 0x01, subHi := 0x01, ty := (.octets 128), access := .ro, group := none, dflt := 0, lo := 0, hi := 0xFFFFFFFFFFFFFFFFFFFFFFFFFFFFFFFFFFFFFFFFFFFFFFFFFFFFFFFFFFFFFFFFFFFFFFFFFFFFFFFFFFFFFFFFFFFFFFFFFFFFFFFFFFFFFFFFFFFFFFFFFFFFFFFFFFFFFFFFFFFFFFFFFFFFFFFFFFFFFFFFFFFFFFFFFFFFFFFFFFFFFFFFFFFFFFFFFFFFFFFFFFFFFFFFFFFFFFFFFFFFFFFFFFFFFFFFFFFFFFFFFFFFFFFFFFFFFFFF },
  { name := "CLUSTER_FROST", first := 0x1021, count := 1, subLo := 0x02, subHi := 0x02, ty := (.octets 16), access := .ro, group := none, dflt := 0, lo := 0, hi := 0xFFFFFFFFFFFFFFFFFFFFFFFFFFFFFFFF },
  { name := "VF_FROST", first := 0x1021, count := 1, subLo := 0x03, subHi := 0x03, ty := (.octets 32), access := .ro, group := none, dflt := 0, lo := 0, hi := 0xFFFFFFFFFFFFFFFFFFFFFFFFFFFFFFFFFFFFFFFFFFFFFFFFFFFFFFFFFFFFFFFF },
  { name := "POOL_FROST", first := 0x1021, count := 1, subLo := 0x04, subHi := 0x04, ty := (.octets 32), access := .ro, group := none, dflt := 0, lo := 0, hi := 0xFFFFFFFFFFFFFFFFFFFFFFFFFFFFFFFFFFFFFFFFFFFFFFFFFFFFFFFFFFFFFFFF }]

/-- Rows of indices 0x1xxx, part 1. -/
def objRows1_1 : List ObjRow := [
  { name := "DRAIN_BOUND_US", first := 0x1005, count := 1, subLo := 0x01, subHi := 0x01, ty := .u32, access := .rw, group := none, dflt := 0x7d0, lo := 0xc8, hi := 0xFA00 },
  { name := "EXPIRED_ACTION", first := 0x1005, count := 1, subLo := 0x02, subHi := 0x02, ty := .u8, access := .rw, group := none, dflt := 0, lo := 0, hi := 1 },
  { name := "FRONT_PHASE", first := 0x1005, count := 1, subLo := 0x03, subHi := 0x03, ty := .u8, access := .ro, group := none, dflt := 0, lo := 0, hi := 0xFF },
  { name := "COPY_MAP", first := 0x1005, count := 1, subLo := 0x04, subHi := 0x04, ty := .u32, access := .ro, group := none, dflt := 0, lo := 0, hi := 0xFFFFFFFF },
  { name := "LAST_COMMIT_TIME", first := 0x1005, count := 1, subLo := 0x05, subHi := 0x05, ty := .time, access := .ro, group := none, dflt := 0, lo := 0, hi := 0xFFFFFFFFFFFFFFFF },
  { name := "LAST_FLIP_TIME", first := 0x1005, count := 1, subLo := 0x06, subHi := 0x06, ty := .time, access := .ro, group := none, dflt := 0, lo := 0, hi := 0xFFFFFFFFFFFFFFFF },
  { name := "LAST_STAMP_TIME", first := 0x1005, count := 1, subLo := 0x07, subHi := 0x07, ty := .time, access := .ro, group := none, dflt := 0, lo := 0, hi := 0xFFFFFFFFFFFFFFFF },
  { name := "LAST_DRAIN_TIME", first := 0x1005, count := 1, subLo := 0x08, subHi := 0x08, ty := .time, access := .ro, group := none, dflt := 0, lo := 0, hi := 0xFFFFFFFFFFFFFFFF },
  { name := "OLD_PARITY_RESIDENT", first := 0x1005, count := 1, subLo := 0x09, subHi := 0x09, ty := .u64, access := .ro, group := none, dflt := 0, lo := 0, hi := 0xFFFFFFFFFFFFFFFF },
  { name := "FRONTS", first := 0x1005, count := 1, subLo := 0x0A, subHi := 0x0A, ty := .u64, access := .ro, group := none, dflt := 0, lo := 0, hi := 0xFFFFFFFFFFFFFFFF },
  { name := "FRONTS_EXPIRED", first := 0x1005, count := 1, subLo := 0x0B, subHi := 0x0B, ty := .u32, access := .ro, group := none, dflt := 0, lo := 0, hi := 0xFFFFFFFF },
  { name := "EXPIRED_FRAMES", first := 0x1005, count := 1, subLo := 0x0C, subHi := 0x0C, ty := .u64, access := .ro, group := none, dflt := 0, lo := 0, hi := 0xFFFFFFFFFFFFFFFF },
  { name := "STALLS", first := 0x1005, count := 1, subLo := 0x0D, subHi := 0x0D, ty := .u32, access := .ro, group := none, dflt := 0, lo := 0, hi := 0xFFFFFFFF },
  { name := "MAX_DRAIN_US", first := 0x1005, count := 1, subLo := 0x0E, subHi := 0x0E, ty := .u32, access := .ro, group := none, dflt := 0, lo := 0, hi := 0xFFFFFFFF },
  { name := "DEVICE_STATE", first := 0x1030, count := 1, subLo := 0x01, subHi := 0x01, ty := .u8, access := .ro, group := none, dflt := 1, lo := 0, hi := 0xFF },
  { name := "STATE_REQUEST", first := 0x1030, count := 1, subLo := 0x02, subHi := 0x02, ty := .u8, access := .wo, group := none, dflt := 0, lo := 0, hi := 0xFF },
  { name := "RECOVERY_CAUSE", first := 0x1030, count := 1, subLo := 0x03, subHi := 0x03, ty := (.bits 8), access := .ro, group := none, dflt := 0, lo := 0, hi := 0xFF },
  { name := "CLUSTERS_IN_SERVICE", first := 0x1030, count := 1, subLo := 0x04, subHi := 0x04, ty := .u8, access := .ro, group := none, dflt := 0, lo := 0, hi := 0x10 },
  { name := "RESET_CAUSE", first := 0x1030, count := 1, subLo := 0x05, subHi := 0x05, ty := .u8, access := .ro, group := none, dflt := 1, lo := 0, hi := 0xFF },
  { name := "WARM_RESET", first := 0x1030, count := 1, subLo := 0x06, subHi := 0x06, ty := .u8, access := .wo, group := none, dflt := 0, lo := 1, hi := 1 },
  { name := "STATE_ENTERED", first := 0x1030, count := 1, subLo := 0x07, subHi := 0x07, ty := .time, access := .ro, group := none, dflt := 0, lo := 0, hi := 0xFFFFFFFFFFFFFFFF },
  { name := "WARM_RESETS", first := 0x1030, count := 1, subLo := 0x08, subHi := 0x08, ty := .u32, access := .ro, group := none, dflt := 0, lo := 0, hi := 0xFFFFFFFF },
  { name := "TEMP_MAX_MC", first := 0x1031, count := 1, subLo := 0x01, subHi := 0x01, ty := .i32, access := .ro, group := none, dflt := 0x61a8, lo := 0, hi := 0xFFFFFFFF },
  { name := "THERMAL_K", first := 0x1031, count := 1, subLo := 0x02, subHi := 0x02, ty := .u8, access := .ro, group := none, dflt := 0x10, lo := 0, hi := 0xFF },
  { name := "THROTTLE_MS", first := 0x1031, count := 1, subLo := 0x03, subHi := 0x03, ty := .u64, access := .ro, group := none, dflt := 0, lo := 0, hi := 0xFFFFFFFFFFFFFFFF },
  { name := "VCORE_LOW", first := 0x1031, count := 1, subLo := 0x04, subHi := 0x04, ty := .bool, access := .ro, group := none, dflt := 0, lo := 0, hi := 1 },
  { name := "TRIP_LATCHED", first := 0x1031, count := 1, subLo := 0x05, subHi := 0x05, ty := .bool, access := .ro, group := none, dflt := 0, lo := 0, hi := 1 },
  { name := "ISLAND_TEMP_MC", first := 0x1032, count := 1, subLo := 0x01, subHi := 0x19, ty := .i32, access := .ro, group := none, dflt := 0x61a8, lo := 0, hi := 0xFFFFFFFF },
  { name := "COUNTER_MARK", first := 0x1033, count := 1, subLo := 0x01, subHi := 0x01, ty := .u8, access := .wo, group := none, dflt := 0, lo := 1, hi := 1 },
  { name := "LOGGED_COUNTERS", first := 0x1033, count := 1, subLo := 0x02, subHi := 0x02, ty := .u16, access := .rm, group := none, dflt := 0, lo := 0, hi := 0x1000 },
  { name := "LOG_OVERFLOW", first := 0x1033, count := 1, subLo := 0x03, subHi := 0x03, ty := .bool, access := .rm, group := none, dflt := 0, lo := 0, hi := 1 },
  { name := "PFAIL_ACCEPTED", first := 0x1034, count := 1, subLo := 0x01, subHi := 0x01, ty := .bool, access := .ro, group := none, dflt := 0, lo := 0, hi := 1 },
  { name := "PFAIL_GLITCHES", first := 0x1034, count := 1, subLo := 0x02, subHi := 0x02, ty := .u32, access := .ro, group := none, dflt := 0, lo := 0, hi := 0xFFFFFFFF },
  { name := "GPIO_DIR", first := 0x1040, count := 1, subLo := 0x01, subHi := 0x01, ty := (.bits 16), access := .rw, group := none, dflt := 0, lo := 0, hi := 0xFFFF },
  { name := "GPIO_OUT", first := 0x1040, count := 1, subLo := 0x02, subHi := 0x02, ty := (.bits 16), access := .rw, group := none, dflt := 0, lo := 0, hi := 0xFFFF },
  { name := "GPIO_IN", first := 0x1040, count := 1, subLo := 0x03, subHi := 0x03, ty := (.bits 16), access := .ro, group := none, dflt := 0, lo := 0, hi := 0xFFFF },
  { name := "TIME_NOW", first := 0x1041, count := 1, subLo := 0x01, subHi := 0x01, ty := .time, access := .ro, group := none, dflt := 0, lo := 0, hi := 0xFFFFFFFFFFFFFFFF },
  { name := "TOD_OFFSET", first := 0x1041, count := 1, subLo := 0x02, subHi := 0x02, ty := .i64, access := .rw, group := none, dflt := 0, lo := 0, hi := 0xFFFFFFFFFFFFFFFF },
  { name := "PPS_IN_CAPTURE", first := 0x1041, count := 1, subLo := 0x03, subHi := 0x03, ty := .time, access := .ro, group := none, dflt := 0, lo := 0, hi := 0xFFFFFFFFFFFFFFFF },
  { name := "PPS_IN_COUNT", first := 0x1041, count := 1, subLo := 0x04, subHi := 0x04, ty := .u32, access := .ro, group := none, dflt := 0, lo := 0, hi := 0xFFFFFFFF }]

/-- Rows of indices 0x1xxx, part 2. -/
def objRows1_2 : List ObjRow := [
  { name := "PPS_IN_REJECTS", first := 0x1041, count := 1, subLo := 0x05, subHi := 0x05, ty := .u32, access := .ro, group := none, dflt := 0, lo := 0, hi := 0xFFFFFFFF },
  { name := "PPS_OUT_ENABLE", first := 0x1041, count := 1, subLo := 0x06, subHi := 0x06, ty := .bool, access := .rw, group := none, dflt := 0, lo := 0, hi := 1 }]

/-- Rows of indices 0x1xxx. -/
def objRows1 : List ObjRow := objRows1_0 ++ objRows1_1 ++ objRows1_2

/-- Rows of indices 0x2xxx, part 0. -/
def objRows2_0 : List ObjRow := [
  { name := "STH_ETHERTYPE", first := 0x2000, count := 1, subLo := 0x01, subHi := 0x01, ty := .u16, access := .rws, group := some 1, dflt := 0x88b5, lo := 0, hi := 0xFFFF },
  { name := "STAG_TPID", first := 0x2000, count := 1, subLo := 0x02, subHi := 0x02, ty := .u16, access := .rws, group := some 1, dflt := 0x88a8, lo := 0, hi := 0xFFFF },
  { name := "DOWN_DEBOUNCE_US", first := 0x2000, count := 1, subLo := 0x03, subHi := 0x03, ty := .u16, access := .rws, group := some 1, dflt := 2, lo := 0, hi := 0x3E8 },
  { name := "TRAIN_TIMEOUT_MS", first := 0x2000, count := 1, subLo := 0x04, subHi := 0x04, ty := .u16, access := .rws, group := some 1, dflt := 0x1f4, lo := 0x64, hi := 0x2710 },
  { name := "QUAD_MODE", first := 0x2100, count := 32, subLo := 0x01, subHi := 0x01, ty := .u8, access := .rws, group := some 1, dflt := 0, lo := 0, hi := 0xFF },
  { name := "ROLE", first := 0x2200, count := 128, subLo := 0x01, subHi := 0x01, ty := .u8, access := .rws, group := some 1, dflt := 0, lo := 0, hi := 0xFF },
  { name := "FEC", first := 0x2200, count := 128, subLo := 0x02, subHi := 0x02, ty := .u8, access := .rws, group := some 1, dflt := 2, lo := 0, hi := 2 },
  { name := "CABLE_CLASS", first := 0x2200, count := 128, subLo := 0x03, subHi := 0x03, ty := .u8, access := .rws, group := some 1, dflt := 1, lo := 0, hi := 0xFF },
  { name := "TRAINING", first := 0x2200, count := 128, subLo := 0x04, subHi := 0x04, ty := .bool, access := .rws, group := some 1, dflt := 1, lo := 0, hi := 1 },
  { name := "MAX_FRAME", first := 0x2200, count := 128, subLo := 0x05, subHi := 0x05, ty := .u16, access := .rws, group := some 1, dflt := 0x2400, lo := 0x40, hi := 0x2800 },
  { name := "DEFAULT_CLASS", first := 0x2200, count := 128, subLo := 0x06, subHi := 0x06, ty := .u8, access := .rws, group := some 1, dflt := 0, lo := 0, hi := 7 },
  { name := "LULL_WINDOW_US", first := 0x2200, count := 128, subLo := 0x07, subHi := 0x07, ty := .u32, access := .rws, group := some 1, dflt := 0x7d0, lo := 0, hi := 0xFA00 },
  { name := "STALE_AGE_US", first := 0x2200, count := 128, subLo := 0x08, subHi := 0x08, ty := .u32, access := .rws, group := some 1, dflt := 0x3e8, lo := 1, hi := 0xFA00 },
  { name := "ENABLE", first := 0x2200, count := 128, subLo := 0x09, subHi := 0x09, ty := .bool, access := .rw, group := none, dflt := 0, lo := 0, hi := 1 },
  { name := "PORT_RESET", first := 0x2200, count := 128, subLo := 0x0A, subHi := 0x0A, ty := .u8, access := .wo, group := none, dflt := 0, lo := 0, hi := 0xFF },
  { name := "LINK_STATE", first := 0x2300, count := 128, subLo := 0x01, subHi := 0x01, ty := .u8, access := .rm, group := none, dflt := 0, lo := 0, hi := 0xFF },
  { name := "HOLD_STATE", first := 0x2300, count := 128, subLo := 0x02, subHi := 0x02, ty := .bool, access := .rm, group := none, dflt := 0, lo := 0, hi := 1 },
  { name := "HOLD_START", first := 0x2300, count := 128, subLo := 0x03, subHi := 0x03, ty := .time, access := .rm, group := none, dflt := 0, lo := 0, hi := 0xFFFFFFFFFFFFFFFF },
  { name := "LINK_UPS", first := 0x2300, count := 128, subLo := 0x04, subHi := 0x04, ty := .u64, access := .rm, group := none, dflt := 0, lo := 0, hi := 0xFFFFFFFFFFFFFFFF },
  { name := "LINK_DOWNS", first := 0x2300, count := 128, subLo := 0x05, subHi := 0x05, ty := .u64, access := .rm, group := none, dflt := 0, lo := 0, hi := 0xFFFFFFFFFFFFFFFF },
  { name := "TRAIN_FAILS", first := 0x2300, count := 128, subLo := 0x06, subHi := 0x06, ty := .u64, access := .rm, group := none, dflt := 0, lo := 0, hi := 0xFFFFFFFFFFFFFFFF },
  { name := "RX_FRAMES", first := 0x2300, count := 128, subLo := 0x07, subHi := 0x07, ty := .u64, access := .rm, group := none, dflt := 0, lo := 0, hi := 0xFFFFFFFFFFFFFFFF },
  { name := "RX_BYTES", first := 0x2300, count := 128, subLo := 0x08, subHi := 0x08, ty := .u64, access := .rm, group := none, dflt := 0, lo := 0, hi := 0xFFFFFFFFFFFFFFFF },
  { name := "TX_FRAMES", first := 0x2300, count := 128, subLo := 0x09, subHi := 0x09, ty := .u64, access := .rm, group := none, dflt := 0, lo := 0, hi := 0xFFFFFFFFFFFFFFFF },
  { name := "TX_BYTES", first := 0x2300, count := 128, subLo := 0x0A, subHi := 0x0A, ty := .u64, access := .rm, group := none, dflt := 0, lo := 0, hi := 0xFFFFFFFFFFFFFFFF },
  { name := "RX_FCS_ERRORS", first := 0x2300, count := 128, subLo := 0x0B, subHi := 0x0B, ty := .u64, access := .rm, group := none, dflt := 0, lo := 0, hi := 0xFFFFFFFFFFFFFFFF },
  { name := "RX_SIZE_ERRORS", first := 0x2300, count := 128, subLo := 0x0C, subHi := 0x0C, ty := .u64, access := .rm, group := none, dflt := 0, lo := 0, hi := 0xFFFFFFFFFFFFFFFF },
  { name := "RX_DISCARD", first := 0x2300, count := 128, subLo := 0x0D, subHi := 0x0D, ty := .u64, access := .rm, group := none, dflt := 0, lo := 0, hi := 0xFFFFFFFFFFFFFFFF },
  { name := "ID_DROPS", first := 0x2300, count := 128, subLo := 0x0E, subHi := 0x0E, ty := .u64, access := .rm, group := none, dflt := 0, lo := 0, hi := 0xFFFFFFFFFFFFFFFF },
  { name := "INGRESS_OVERRUN", first := 0x2300, count := 128, subLo := 0x0F, subHi := 0x0F, ty := .u64, access := .rm, group := none, dflt := 0, lo := 0, hi := 0xFFFFFFFFFFFFFFFF },
  { name := "FEC_CORRECTED", first := 0x2300, count := 128, subLo := 0x10, subHi := 0x10, ty := .u64, access := .rm, group := none, dflt := 0, lo := 0, hi := 0xFFFFFFFFFFFFFFFF },
  { name := "FEC_UNCORRECTABLE", first := 0x2300, count := 128, subLo := 0x11, subHi := 0x11, ty := .u64, access := .rm, group := none, dflt := 0, lo := 0, hi := 0xFFFFFFFFFFFFFFFF },
  { name := "TX_ABORTED", first := 0x2300, count := 128, subLo := 0x12, subHi := 0x12, ty := .u64, access := .rm, group := none, dflt := 0, lo := 0, hi := 0xFFFFFFFFFFFFFFFF },
  { name := "DOWN_ADMIT_DROPS", first := 0x2300, count := 128, subLo := 0x13, subHi := 0x13, ty := .u64, access := .rm, group := none, dflt := 0, lo := 0, hi := 0xFFFFFFFFFFFFFFFF },
  { name := "HOLDS", first := 0x2300, count := 128, subLo := 0x14, subHi := 0x14, ty := .u64, access := .rm, group := none, dflt := 0, lo := 0, hi := 0xFFFFFFFFFFFFFFFF },
  { name := "LULL_EXPIRED", first := 0x2300, count := 128, subLo := 0x15, subHi := 0x15, ty := .u64, access := .rm, group := none, dflt := 0, lo := 0, hi := 0xFFFFFFFFFFFFFFFF },
  { name := "LULL_STALE_DROPS", first := 0x2300, count := 128, subLo := 0x16, subHi := 0x16, ty := .u64, access := .rm, group := none, dflt := 0, lo := 0, hi := 0xFFFFFFFFFFFFFFFF },
  { name := "LULL_FLUSH_DROPS", first := 0x2300, count := 128, subLo := 0x17, subHi := 0x17, ty := .u64, access := .rm, group := none, dflt := 0, lo := 0, hi := 0xFFFFFFFFFFFFFFFF },
  { name := "TX_INVERT", first := 0x2400, count := 128, subLo := 0x01, subHi := 0x01, ty := .bool, access := .rws, group := some 1, dflt := 0, lo := 0, hi := 1 },
  { name := "RX_INVERT", first := 0x2400, count := 128, subLo := 0x02, subHi := 0x02, ty := .bool, access := .rws, group := some 1, dflt := 0, lo := 0, hi := 1 }]

/-- Rows of indices 0x2xxx, part 1. -/
def objRows2_1 : List ObjRow := [
  { name := "RX_SIGNAL", first := 0x2400, count := 128, subLo := 0x03, subHi := 0x03, ty := .bool, access := .rm, group := none, dflt := 0, lo := 0, hi := 1 }]

/-- Rows of indices 0x2xxx. -/
def objRows2 : List ObjRow := objRows2_0 ++ objRows2_1

/-- Rows of indices 0x3xxx, part 0. -/
def objRows3_0 : List ObjRow := [
  { name := "MAX_DEPTH", first := 0x3010, count := 16, subLo := 0x01, subHi := 0x01, ty := .u16, access := .rws, group := some 2, dflt := 0x200, lo := 0x40, hi := 0x200 },
  { name := "MAX_HEADERS", first := 0x3010, count := 16, subLo := 0x02, subHi := 0x02, ty := .u8, access := .rws, group := some 2, dflt := 0x18, lo := 1, hi := 0x18 },
  { name := "MAX_TUNNEL", first := 0x3010, count := 16, subLo := 0x03, subHi := 0x03, ty := .u8, access := .rws, group := some 2, dflt := 4, lo := 0, hi := 4 },
  { name := "EXT_START", first := 0x3010, count := 16, subLo := 0x04, subHi := 0x04, ty := .u8, access := .rws, group := some 2, dflt := 0, lo := 0, hi := 0xFF },
  { name := "RECIRC_START", first := 0x3010, count := 16, subLo := 0x05, subHi := 0x05, ty := .u8, access := .rws, group := some 2, dflt := 0, lo := 0, hi := 0xFF },
  { name := "DEFAULT_KEY_PROFILE", first := 0x3010, count := 16, subLo := 0x06, subHi := 0x06, ty := .u8, access := .rws, group := some 2, dflt := 0, lo := 0, hi := 0x3F },
  { name := "PASS_LIMIT", first := 0x3010, count := 16, subLo := 0x07, subHi := 0x07, ty := .u8, access := .rws, group := some 2, dflt := 4, lo := 1, hi := 4 },
  { name := "TRAP_ACTION", first := 0x3010, count := 16, subLo := 0x08, subHi := 0x08, ty := (.bits 5), access := .rws, group := some 2, dflt := 0, lo := 0, hi := 0x1F },
  { name := "FRAMES_PARSED", first := 0x3100, count := 4, subLo := 0x01, subHi := 0x01, ty := .u64, access := .rm, group := none, dflt := 0, lo := 0, hi := 0xFFFFFFFFFFFFFFFF },
  { name := "RECIRC_PARSED", first := 0x3100, count := 4, subLo := 0x02, subHi := 0x02, ty := .u64, access := .rm, group := none, dflt := 0, lo := 0, hi := 0xFFFFFFFFFFFFFFFF },
  { name := "INJECT_PARSED", first := 0x3100, count := 4, subLo := 0x03, subHi := 0x03, ty := .u64, access := .rm, group := none, dflt := 0, lo := 0, hi := 0xFFFFFFFFFFFFFFFF },
  { name := "PARSE_DEPTH_COUNT", first := 0x3100, count := 4, subLo := 0x04, subHi := 0x04, ty := .u64, access := .rm, group := none, dflt := 0, lo := 0, hi := 0xFFFFFFFFFFFFFFFF },
  { name := "PARSE_LENGTH_COUNT", first := 0x3100, count := 4, subLo := 0x05, subHi := 0x05, ty := .u64, access := .rm, group := none, dflt := 0, lo := 0, hi := 0xFFFFFFFFFFFFFFFF },
  { name := "FRAGMENT_COUNT", first := 0x3100, count := 4, subLo := 0x06, subHi := 0x06, ty := .u64, access := .rm, group := none, dflt := 0, lo := 0, hi := 0xFFFFFFFFFFFFFFFF },
  { name := "PARSE_UNKNOWN_COUNT", first := 0x3100, count := 4, subLo := 0x07, subHi := 0x07, ty := .u64, access := .rm, group := none, dflt := 0, lo := 0, hi := 0xFFFFFFFFFFFFFFFF },
  { name := "OPTIONS_COUNT", first := 0x3100, count := 4, subLo := 0x08, subHi := 0x08, ty := .u64, access := .rm, group := none, dflt := 0, lo := 0, hi := 0xFFFFFFFFFFFFFFFF },
  { name := "PARSE_DROPS", first := 0x3100, count := 4, subLo := 0x09, subHi := 0x09, ty := .u64, access := .rm, group := none, dflt := 0, lo := 0, hi := 0xFFFFFFFFFFFFFFFF },
  { name := "RECIRC_LIMIT_COUNT", first := 0x3100, count := 4, subLo := 0x0A, subHi := 0x0A, ty := .u64, access := .rm, group := none, dflt := 0, lo := 0, hi := 0xFFFFFFFFFFFFFFFF },
  { name := "INBAND_STEERED", first := 0x3100, count := 4, subLo := 0x0B, subHi := 0x0B, ty := .u64, access := .rm, group := none, dflt := 0, lo := 0, hi := 0xFFFFFFFFFFFFFFFF },
  { name := "INBAND_DROPS", first := 0x3100, count := 4, subLo := 0x0C, subHi := 0x0C, ty := .u64, access := .rm, group := none, dflt := 0, lo := 0, hi := 0xFFFFFFFFFFFFFFFF },
  { name := "GRAPH_ECC_CORRECTED", first := 0x3100, count := 4, subLo := 0x0D, subHi := 0x0D, ty := .u64, access := .rm, group := none, dflt := 0, lo := 0, hi := 0xFFFFFFFFFFFFFFFF },
  { name := "GRAPH_ECC_UNCORRECTABLE", first := 0x3100, count := 4, subLo := 0x0E, subHi := 0x0E, ty := .u64, access := .rm, group := none, dflt := 0, lo := 0, hi := 0xFFFFFFFFFFFFFFFF },
  { name := "LAST_ECC_NODE", first := 0x3100, count := 4, subLo := 0x0F, subHi := 0x0F, ty := .u8, access := .rm, group := none, dflt := 0, lo := 0, hi := 0xFF }]

/-- Rows of indices 0x3xxx. -/
def objRows3 : List ObjRow := objRows3_0

/-- Rows of indices 0x4xxx, part 0. -/
def objRows4_0 : List ObjRow := [
  { name := "GEOMETRY", first := 0x4000, count := 4, subLo := 0x01, subHi := 0x01, ty := .u8, access := .ro, group := none, dflt := 0, lo := 0, hi := 0xFF },
  { name := "FIXED_SELECT", first := 0x4000, count := 4, subLo := 0x02, subHi := 0x02, ty := .bool, access := .rw, group := none, dflt := 0, lo := 0, hi := 1 },
  { name := "SELFTEST_DETAIL", first := 0x4000, count := 4, subLo := 0x03, subHi := 0x03, ty := (.bits 64), access := .ro, group := none, dflt := 0, lo := 0, hi := 0xFFFFFFFFFFFFFFFF },
  { name := "SEARCHES", first := 0x4000, count := 4, subLo := 0x04, subHi := 0x04, ty := .u64, access := .rm, group := none, dflt := 0, lo := 0, hi := 0xFFFFFFFFFFFFFFFF },
  { name := "BACKLOG_STALLS", first := 0x4000, count := 4, subLo := 0x05, subHi := 0x05, ty := .u64, access := .rm, group := none, dflt := 0, lo := 0, hi := 0xFFFFFFFFFFFFFFFF },
  { name := "SCRUB_REPAIRS", first := 0x4000, count := 4, subLo := 0x06, subHi := 0x06, ty := .u64, access := .rm, group := none, dflt := 0, lo := 0, hi := 0xFFFFFFFFFFFFFFFF },
  { name := "AD_ECC_CORRECTED", first := 0x4000, count := 4, subLo := 0x07, subHi := 0x07, ty := .u64, access := .rm, group := none, dflt := 0, lo := 0, hi := 0xFFFFFFFFFFFFFFFF },
  { name := "AD_ECC_UNCORRECTABLE", first := 0x4000, count := 4, subLo := 0x08, subHi := 0x08, ty := .u64, access := .rm, group := none, dflt := 0, lo := 0, hi := 0xFFFFFFFFFFFFFFFF },
  { name := "ENABLE", first := 0x4010, count := 64, subLo := 0x01, subHi := 0x01, ty := .bool, access := .rws, group := some 3, dflt := 0, lo := 0, hi := 1 },
  { name := "FIRST_TILE", first := 0x4010, count := 64, subLo := 0x02, subHi := 0x02, ty := .u8, access := .rws, group := some 3, dflt := 0, lo := 0, hi := 0x3F },
  { name := "TABLE", first := 0x4010, count := 64, subLo := 0x03, subHi := 0x03, ty := .u8, access := .rws, group := some 3, dflt := 0, lo := 0, hi := 0x3F },
  { name := "WIDTH", first := 0x4100, count := 64, subLo := 0x01, subHi := 0x01, ty := .u8, access := .rws, group := some 3, dflt := 1, lo := 0, hi := 0xFF },
  { name := "DEPTH", first := 0x4100, count := 64, subLo := 0x02, subHi := 0x02, ty := .u8, access := .rws, group := some 3, dflt := 1, lo := 1, hi := 0x40 },
  { name := "ROWS", first := 0x4100, count := 64, subLo := 0x03, subHi := 0x03, ty := .u32, access := .ro, group := none, dflt := 0x800, lo := 0, hi := 0xFFFFFFFF },
  { name := "GRANULE", first := 0x4100, count := 64, subLo := 0x04, subHi := 0x04, ty := .u16, access := .ro, group := none, dflt := 0x30, lo := 0, hi := 0xFFFF },
  { name := "SEARCHES", first := 0x4140, count := 64, subLo := 0x01, subHi := 0x01, ty := .u64, access := .rm, group := none, dflt := 0, lo := 0, hi := 0xFFFFFFFFFFFFFFFF },
  { name := "HITS", first := 0x4140, count := 64, subLo := 0x02, subHi := 0x02, ty := .u64, access := .rm, group := none, dflt := 0, lo := 0, hi := 0xFFFFFFFFFFFFFFFF },
  { name := "ERRORS", first := 0x4140, count := 64, subLo := 0x03, subHi := 0x03, ty := .u64, access := .rm, group := none, dflt := 0, lo := 0, hi := 0xFFFFFFFFFFFFFFFF },
  { name := "DENIED", first := 0x4140, count := 64, subLo := 0x04, subHi := 0x04, ty := .u64, access := .rm, group := none, dflt := 0, lo := 0, hi := 0xFFFFFFFFFFFFFFFF },
  { name := "TABLE", first := 0x4200, count := 256, subLo := 0x01, subHi := 0x01, ty := .u8, access := .rws, group := some 3, dflt := 0xff, lo := 0, hi := 0xFF },
  { name := "GLOBAL_MASK", first := 0x4200, count := 256, subLo := 0x02, subHi := 0x02, ty := (.octets 80), access := .rws, group := some 3, dflt := 0, lo := 0, hi := 0xFFFFFFFFFFFFFFFFFFFFFFFFFFFFFFFFFFFFFFFFFFFFFFFFFFFFFFFFFFFFFFFFFFFFFFFFFFFFFFFFFFFFFFFFFFFFFFFFFFFFFFFFFFFFFFFFFFFFFFFFFFFFFFFFFFFFFFFFFFFFFFFFFFFFFFFFFFFFFFFF },
  { name := "MISS_DATA", first := 0x4200, count := 256, subLo := 0x03, subHi := 0x03, ty := .u64, access := .rws, group := some 3, dflt := 0, lo := 0, hi := 0xFFFFFFFFFFFFFFFF },
  { name := "TENANT_BIND", first := 0x4200, count := 256, subLo := 0x04, subHi := 0x04, ty := .u8, access := .rws, group := some 3, dflt := 0xff, lo := 0, hi := 0xFF },
  { name := "ENABLE", first := 0x4400, count := 64, subLo := 0x01, subHi := 0x01, ty := .bool, access := .rws, group := some 4, dflt := 0, lo := 0, hi := 1 },
  { name := "KEY_BYTES", first := 0x4400, count := 64, subLo := 0x02, subHi := 0x02, ty := .u8, access := .rws, group := some 4, dflt := 8, lo := 1, hi := 0x28 },
  { name := "BUCKETS_LOG2", first := 0x4400, count := 64, subLo := 0x03, subHi := 0x03, ty := .u8, access := .rws, group := some 4, dflt := 0x10, lo := 0x10, hi := 0x1A },
  { name := "REGION_BASE", first := 0x4400, count := 64, subLo := 0x04, subHi := 0x04, ty := .u16, access := .rws, group := some 4, dflt := 0, lo := 0, hi := 0xFF7 },
  { name := "MAX_ENTRIES", first := 0x4400, count := 64, subLo := 0x05, subHi := 0x05, ty := .u32, access := .rws, group := some 4, dflt := 0, lo := 0, hi := 0xFFFFFFFF },
  { name := "SEED1", first := 0x4400, count := 64, subLo := 0x06, subHi := 0x06, ty := .u32, access := .rws, group := some 4, dflt := 0, lo := 0, hi := 0xFFFFFFFF },
  { name := "SEED2", first := 0x4400, count := 64, subLo := 0x07, subHi := 0x07, ty := .u32, access := .rws, group := some 4, dflt := 0xffffffff, lo := 0, hi := 0xFFFFFFFF },
  { name := "MISS_DATA", first := 0x4400, count := 64, subLo := 0x08, subHi := 0x08, ty := .u64, access := .rws, group := some 4, dflt := 0, lo := 0, hi := 0xFFFFFFFFFFFFFFFF },
  { name := "TENANT_BIND", first := 0x4400, count := 64, subLo := 0x09, subHi := 0x09, ty := .u8, access := .rws, group := some 4, dflt := 0xff, lo := 0, hi := 0xFF },
  { name := "ENTRIES", first := 0x4400, count := 64, subLo := 0x0A, subHi := 0x0A, ty := .u32, access := .ro, group := none, dflt := 0, lo := 0, hi := 0xFFFFFFFF },
  { name := "BATCH_STATE", first := 0x4400, count := 64, subLo := 0x0B, subHi := 0x0B, ty := .u8, access := .ro, group := none, dflt := 0, lo := 0, hi := 0xFF },
  { name := "LOOKUPS", first := 0x4440, count := 64, subLo := 0x01, subHi := 0x01, ty := .u64, access := .rm, group := none, dflt := 0, lo := 0, hi := 0xFFFFFFFFFFFFFFFF },
  { name := "HITS", first := 0x4440, count := 64, subLo := 0x02, subHi := 0x02, ty := .u64, access := .rm, group := none, dflt := 0, lo := 0, hi := 0xFFFFFFFFFFFFFFFF },
  { name := "CACHE_HITS", first := 0x4440, count := 64, subLo := 0x03, subHi := 0x03, ty := .u64, access := .rm, group := none, dflt := 0, lo := 0, hi := 0xFFFFFFFFFFFFFFFF },
  { name := "INSERT_FAILS", first := 0x4440, count := 64, subLo := 0x04, subHi := 0x04, ty := .u64, access := .rm, group := none, dflt := 0, lo := 0, hi := 0xFFFFFFFFFFFFFFFF },
  { name := "REGION_BASE", first := 0x4600, count := 1, subLo := 0x01, subHi := 0x01, ty := .u16, access := .rws, group := some 5, dflt := 0, lo := 0, hi := 0xFF7 },
  { name := "REGION_COUNT", first := 0x4600, count := 1, subLo := 0x02, subHi := 0x02, ty := .u8, access := .rws, group := some 5, dflt := 0, lo := 0, hi := 0x80 }]

/-- Rows of indices 0x4xxx, part 1. -/
def objRows4_1 : List ObjRow := [
  { name := "ROUTE_CAPACITY", first := 0x4600, count := 1, subLo := 0x03, subHi := 0x03, ty := .u32, access := .ro, group := none, dflt := 0, lo := 0, hi := 0xFFFFFFFF },
  { name := "ROUTES_V4", first := 0x4600, count := 1, subLo := 0x04, subHi := 0x04, ty := .u32, access := .ro, group := none, dflt := 0, lo := 0, hi := 0xFFFFFFFF },
  { name := "ROUTES_V6", first := 0x4600, count := 1, subLo := 0x05, subHi := 0x05, ty := .u32, access := .ro, group := none, dflt := 0, lo := 0, hi := 0xFFFFFFFF },
  { name := "BATCH_STATE", first := 0x4600, count := 1, subLo := 0x06, subHi := 0x06, ty := .u8, access := .ro, group := none, dflt := 0, lo := 0, hi := 0xFF },
  { name := "LOOKUPS", first := 0x4600, count := 1, subLo := 0x07, subHi := 0x07, ty := .u64, access := .rm, group := none, dflt := 0, lo := 0, hi := 0xFFFFFFFFFFFFFFFF },
  { name := "MISSES", first := 0x4600, count := 1, subLo := 0x08, subHi := 0x08, ty := .u64, access := .rm, group := none, dflt := 0, lo := 0, hi := 0xFFFFFFFFFFFFFFFF },
  { name := "STAGED_TCAM", first := 0x4700, count := 1, subLo := 0x01, subHi := 0x01, ty := .u32, access := .ro, group := none, dflt := 0, lo := 0, hi := 0xFFFFFFFF },
  { name := "STAGED_EM", first := 0x4700, count := 1, subLo := 0x02, subHi := 0x02, ty := .u32, access := .ro, group := none, dflt := 0, lo := 0, hi := 0xFFFFFFFF },
  { name := "STAGED_LPM", first := 0x4700, count := 1, subLo := 0x03, subHi := 0x03, ty := .u32, access := .ro, group := none, dflt := 0, lo := 0, hi := 0xFFFFFFFF },
  { name := "CACHE_LOOKUPS", first := 0x4700, count := 1, subLo := 0x04, subHi := 0x04, ty := .u64, access := .rm, group := none, dflt := 0, lo := 0, hi := 0xFFFFFFFFFFFFFFFF },
  { name := "CACHE_HITS", first := 0x4700, count := 1, subLo := 0x05, subHi := 0x05, ty := .u64, access := .rm, group := none, dflt := 0, lo := 0, hi := 0xFFFFFFFFFFFFFFFF },
  { name := "HBM_ECC_CORRECTED", first := 0x4700, count := 1, subLo := 0x06, subHi := 0x06, ty := .u64, access := .rm, group := none, dflt := 0, lo := 0, hi := 0xFFFFFFFFFFFFFFFF },
  { name := "HBM_ECC_UNCORRECTABLE", first := 0x4700, count := 1, subLo := 0x07, subHi := 0x07, ty := .u64, access := .rm, group := none, dflt := 0, lo := 0, hi := 0xFFFFFFFFFFFFFFFF }]

/-- Rows of indices 0x4xxx. -/
def objRows4 : List ObjRow := objRows4_0 ++ objRows4_1

/-- Rows of indices 0x5xxx, part 0. -/
def objRows5_0 : List ObjRow := [
  { name := "LOAD_STATE", first := 0x5000, count := 16, subLo := 0x01, subHi := 0x01, ty := .u8, access := .ro, group := none, dflt := 0, lo := 0, hi := 0xFF },
  { name := "IMAGE_SLOT", first := 0x5000, count := 16, subLo := 0x02, subHi := 0x02, ty := .u8, access := .rw, group := none, dflt := 0, lo := 0, hi := 3 },
  { name := "RELOAD", first := 0x5000, count := 16, subLo := 0x03, subHi := 0x03, ty := .u8, access := .wo, group := none, dflt := 0, lo := 1, hi := 1 },
  { name := "CLUSTER_RESET", first := 0x5000, count := 16, subLo := 0x04, subHi := 0x04, ty := .u8, access := .wo, group := none, dflt := 0, lo := 1, hi := 1 },
  { name := "MICRO_VERSION", first := 0x5000, count := 16, subLo := 0x05, subHi := 0x05, ty := (.octets 16), access := .ro, group := none, dflt := 0, lo := 0, hi := 0xFFFFFFFFFFFFFFFFFFFFFFFFFFFFFFFF },
  { name := "NANO_VERSION", first := 0x5000, count := 16, subLo := 0x06, subHi := 0x06, ty := (.octets 16), access := .ro, group := none, dflt := 0, lo := 0, hi := 0xFFFFFFFFFFFFFFFFFFFFFFFFFFFFFFFF },
  { name := "AUTO_RELOAD", first := 0x5000, count := 16, subLo := 0x07, subHi := 0x07, ty := .bool, access := .rw, group := none, dflt := 1, lo := 0, hi := 1 },
  { name := "RELOADS", first := 0x5000, count := 16, subLo := 0x08, subHi := 0x08, ty := .u32, access := .ro, group := none, dflt := 0, lo := 0, hi := 0xFFFFFFFF },
  { name := "FREE_THREADS", first := 0x5000, count := 16, subLo := 0x09, subHi := 0x09, ty := .u16, access := .rm, group := none, dflt := 0x400, lo := 0, hi := 0xFFFF },
  { name := "MICROWORDS", first := 0x5000, count := 16, subLo := 0x0A, subHi := 0x0A, ty := .u64, access := .rm, group := none, dflt := 0, lo := 0, hi := 0xFFFFFFFFFFFFFFFF },
  { name := "FRAMES_ENDED", first := 0x5000, count := 16, subLo := 0x0B, subHi := 0x0B, ty := .u64, access := .rm, group := none, dflt := 0, lo := 0, hi := 0xFFFFFFFFFFFFFFFF },
  { name := "YIELD_OVERRUNS", first := 0x5000, count := 16, subLo := 0x0C, subHi := 0x0C, ty := .u64, access := .rm, group := none, dflt := 0, lo := 0, hi := 0xFFFFFFFFFFFFFFFF },
  { name := "LAST_TORN_ADDRESS", first := 0x5000, count := 16, subLo := 0x0D, subHi := 0x0D, ty := .u16, access := .rm, group := none, dflt := 0, lo := 0, hi := 0xFFFF },
  { name := "SEQUENCE_FAULTS", first := 0x5000, count := 16, subLo := 0x0E, subHi := 0x0E, ty := .u64, access := .rm, group := none, dflt := 0, lo := 0, hi := 0xFFFFFFFFFFFFFFFF },
  { name := "VERIFY_VIOLATIONS", first := 0x5000, count := 16, subLo := 0x0F, subHi := 0x0F, ty := .u64, access := .rm, group := none, dflt := 0, lo := 0, hi := 0xFFFFFFFFFFFFFFFF },
  { name := "STORE_ECC_CORRECTED", first := 0x5000, count := 16, subLo := 0x10, subHi := 0x10, ty := .u64, access := .rm, group := none, dflt := 0, lo := 0, hi := 0xFFFFFFFFFFFFFFFF },
  { name := "STORE_ECC_UNCORRECTABLE", first := 0x5000, count := 16, subLo := 0x11, subHi := 0x11, ty := .u64, access := .rm, group := none, dflt := 0, lo := 0, hi := 0xFFFFFFFFFFFFFFFF },
  { name := "CRY_JOB_MICRO_VERSION", first := 0x5040, count := 1, subLo := 0x01, subHi := 0x01, ty := (.octets 16), access := .ro, group := none, dflt := 0, lo := 0, hi := 0xFFFFFFFFFFFFFFFFFFFFFFFFFFFFFFFF },
  { name := "CRY_JOB_NANO_VERSION", first := 0x5040, count := 1, subLo := 0x02, subHi := 0x02, ty := (.octets 16), access := .ro, group := none, dflt := 0, lo := 0, hi := 0xFFFFFFFFFFFFFFFFFFFFFFFFFFFFFFFF },
  { name := "SRH_MAINT_MICRO_VERSION", first := 0x5040, count := 1, subLo := 0x03, subHi := 0x03, ty := (.octets 16), access := .ro, group := none, dflt := 0, lo := 0, hi := 0xFFFFFFFFFFFFFFFFFFFFFFFFFFFFFFFF },
  { name := "SRH_MAINT_NANO_VERSION", first := 0x5040, count := 1, subLo := 0x04, subHi := 0x04, ty := (.octets 16), access := .ro, group := none, dflt := 0, lo := 0, hi := 0xFFFFFFFFFFFFFFFFFFFFFFFFFFFFFFFF },
  { name := "MGT_BOOT_MICRO_VERSION", first := 0x5040, count := 1, subLo := 0x05, subHi := 0x05, ty := (.octets 16), access := .ro, group := none, dflt := 0, lo := 0, hi := 0xFFFFFFFFFFFFFFFFFFFFFFFFFFFFFFFF },
  { name := "MGT_BOOT_NANO_VERSION", first := 0x5040, count := 1, subLo := 0x06, subHi := 0x06, ty := (.octets 16), access := .ro, group := none, dflt := 0, lo := 0, hi := 0xFFFFFFFFFFFFFFFFFFFFFFFFFFFFFFFF },
  { name := "PRESENT", first := 0x5080, count := 4, subLo := 0x01, subHi := 0x01, ty := .bool, access := .ro, group := none, dflt := 0, lo := 0, hi := 1 },
  { name := "SLOT_VERSION", first := 0x5080, count := 4, subLo := 0x02, subHi := 0x02, ty := (.octets 16), access := .ro, group := none, dflt := 0, lo := 0, hi := 0xFFFFFFFFFFFFFFFFFFFFFFFFFFFFFFFF },
  { name := "YIELD_BOUND", first := 0x5080, count := 4, subLo := 0x03, subHi := 0x03, ty := .u16, access := .ro, group := none, dflt := 0, lo := 0, hi := 0xFFFF },
  { name := "BOUND_CLUSTERS", first := 0x5080, count := 4, subLo := 0x04, subHi := 0x04, ty := (.bits 16), access := .ro, group := none, dflt := 0, lo := 0, hi := 0xFFFF },
  { name := "OD_MODE", first := 0x5100, count := 64, subLo := 0x01, subHi := 0x01, ty := .u8, access := .rws, group := some 6, dflt := 0, lo := 0, hi := 2 },
  { name := "OD_OFFSET", first := 0x5100, count := 64, subLo := 0x02, subHi := 0x02, ty := .u8, access := .rws, group := some 6, dflt := 0, lo := 0, hi := 0xFF },
  { name := "OD_LENGTH", first := 0x5100, count := 64, subLo := 0x03, subHi := 0x03, ty := .u8, access := .rws, group := some 6, dflt := 0x10, lo := 1, hi := 0x50 },
  { name := "OD_FIXED", first := 0x5100, count := 64, subLo := 0x04, subHi := 0x04, ty := .u16, access := .rws, group := some 6, dflt := 0, lo := 0, hi := 0x3FFF },
  { name := "CLUSTER_MASK", first := 0x5100, count := 64, subLo := 0x05, subHi := 0x05, ty := (.bits 16), access := .rws, group := some 6, dflt := 0xffff, lo := 0, hi := 0xFFFF },
  { name := "DISPATCHED", first := 0x5140, count := 4, subLo := 0x01, subHi := 0x01, ty := .u64, access := .rm, group := none, dflt := 0, lo := 0, hi := 0xFFFFFFFFFFFFFFFF },
  { name := "NO_CLUSTER_DROPS", first := 0x5140, count := 4, subLo := 0x02, subHi := 0x02, ty := .u64, access := .rm, group := none, dflt := 0, lo := 0, hi := 0xFFFFFFFFFFFFFFFF },
  { name := "RESULT_NO_DEST", first := 0x5180, count := 1, subLo := 0x01, subHi := 0x01, ty := .u64, access := .rm, group := none, dflt := 0, lo := 0, hi := 0xFFFFFFFFFFFFFFFF },
  { name := "RESULT_DROP", first := 0x5180, count := 1, subLo := 0x02, subHi := 0x02, ty := .u64, access := .rm, group := none, dflt := 0, lo := 0, hi := 0xFFFFFFFFFFFFFFFF },
  { name := "RESULT_OVERSIZE", first := 0x5180, count := 1, subLo := 0x03, subHi := 0x03, ty := .u64, access := .rm, group := none, dflt := 0, lo := 0, hi := 0xFFFFFFFFFFFFFFFF },
  { name := "RESULT_TORN", first := 0x5180, count := 1, subLo := 0x04, subHi := 0x04, ty := .u64, access := .rm, group := none, dflt := 0, lo := 0, hi := 0xFFFFFFFFFFFFFFFF },
  { name := "RESULT_VERIFY_FAIL", first := 0x5180, count := 1, subLo := 0x05, subHi := 0x05, ty := .u64, access := .rm, group := none, dflt := 0, lo := 0, hi := 0xFFFFFFFFFFFFFFFF }]

/-- Rows of indices 0x5xxx. -/
def objRows5 : List ObjRow := objRows5_0

/-- Rows of indices 0x6xxx, part 0. -/
def objRows6_0 : List ObjRow := [
  { name := "THRESHOLD_32", first := 0x6000, count := 1, subLo := 0x01, subHi := 0x01, ty := .u32, access := .rw, group := none, dflt := 0xf0000000, lo := 0, hi := 0xFFFFFFFF },
  { name := "THRESHOLD_64", first := 0x6000, count := 1, subLo := 0x02, subHi := 0x02, ty := .u64, access := .rw, group := none, dflt := 0xffffffff00000000, lo := 0, hi := 0xFFFFFFFFFFFFFFFF },
  { name := "INLINE_DECRYPTS", first := 0x6001, count := 1, subLo := 0x01, subHi := 0x01, ty := .u64, access := .rm, group := none, dflt := 0, lo := 0, hi := 0xFFFFFFFFFFFFFFFF },
  { name := "INLINE_ENCRYPTS", first := 0x6001, count := 1, subLo := 0x02, subHi := 0x02, ty := .u64, access := .rm, group := none, dflt := 0, lo := 0, hi := 0xFFFFFFFFFFFFFFFF },
  { name := "NO_SA_FRAMES", first := 0x6001, count := 1, subLo := 0x03, subHi := 0x03, ty := .u64, access := .rm, group := none, dflt := 0, lo := 0, hi := 0xFFFFFFFFFFFFFFFF },
  { name := "AUTH_FAILS", first := 0x6001, count := 1, subLo := 0x04, subHi := 0x04, ty := .u64, access := .rm, group := none, dflt := 0, lo := 0, hi := 0xFFFFFFFFFFFFFFFF },
  { name := "JOBS_COMPLETED", first := 0x6001, count := 1, subLo := 0x05, subHi := 0x05, ty := .u64, access := .rm, group := none, dflt := 0, lo := 0, hi := 0xFFFFFFFFFFFFFFFF },
  { name := "JOB_BYTES", first := 0x6001, count := 1, subLo := 0x06, subHi := 0x06, ty := .u64, access := .rm, group := none, dflt := 0, lo := 0, hi := 0xFFFFFFFFFFFFFFFF },
  { name := "PREEMPTIONS", first := 0x6001, count := 1, subLo := 0x07, subHi := 0x07, ty := .u64, access := .rm, group := none, dflt := 0, lo := 0, hi := 0xFFFFFFFFFFFFFFFF },
  { name := "SQUALL_WAITS", first := 0x6001, count := 1, subLo := 0x08, subHi := 0x08, ty := .u64, access := .rm, group := none, dflt := 0, lo := 0, hi := 0xFFFFFFFFFFFFFFFF },
  { name := "CONTEXT_SLOTS_USED", first := 0x6001, count := 1, subLo := 0x09, subHi := 0x09, ty := .u16, access := .rm, group := none, dflt := 0, lo := 0, hi := 0x400 },
  { name := "KEY_DELIVERIES", first := 0x6001, count := 1, subLo := 0x0A, subHi := 0x0A, ty := .u64, access := .rm, group := none, dflt := 0, lo := 0, hi := 0xFFFFFFFFFFFFFFFF },
  { name := "KEY_DELIVERY_FAILS", first := 0x6001, count := 1, subLo := 0x0B, subHi := 0x0B, ty := .u64, access := .rm, group := none, dflt := 0, lo := 0, hi := 0xFFFFFFFFFFFFFFFF },
  { name := "DMA_ERRORS", first := 0x6001, count := 1, subLo := 0x0C, subHi := 0x0C, ty := .u64, access := .rm, group := none, dflt := 0, lo := 0, hi := 0xFFFFFFFFFFFFFFFF },
  { name := "SECTOR_OUTPUT_DROPS", first := 0x6001, count := 1, subLo := 0x0D, subHi := 0x0D, ty := .u64, access := .rm, group := none, dflt := 0, lo := 0, hi := 0xFFFFFFFFFFFFFFFF },
  { name := "ENGINE_STATE", first := 0x6010, count := 16, subLo := 0x01, subHi := 0x01, ty := .u8, access := .rm, group := none, dflt := 0, lo := 0, hi := 0xFF },
  { name := "ENGINE_JOBS", first := 0x6010, count := 16, subLo := 0x02, subHi := 0x02, ty := .u64, access := .rm, group := none, dflt := 0, lo := 0, hi := 0xFFFFFFFFFFFFFFFF }]

/-- Rows of indices 0x6xxx. -/
def objRows6 : List ObjRow := objRows6_0

/-- Rows of indices 0x7xxx, part 0. -/
def objRows7_0 : List ObjRow := [
  { name := "REORDER_HOLD_US", first := 0x7000, count := 1, subLo := 0x01, subHi := 0x01, ty := .u32, access := .rws, group := some 8, dflt := 0x7d0, lo := 0x64, hi := 0xFA00 },
  { name := "INVALID_PORT_DROPS", first := 0x7000, count := 1, subLo := 0x02, subHi := 0x02, ty := .u64, access := .rm, group := none, dflt := 0, lo := 0, hi := 0xFFFFFFFFFFFFFFFF },
  { name := "BAD_QUEUE_DROPS", first := 0x7000, count := 1, subLo := 0x03, subHi := 0x03, ty := .u64, access := .rm, group := none, dflt := 0, lo := 0, hi := 0xFFFFFFFFFFFFFFFF },
  { name := "FROST_ADMIT_DROPS", first := 0x7000, count := 1, subLo := 0x04, subHi := 0x04, ty := .u64, access := .rm, group := none, dflt := 0, lo := 0, hi := 0xFFFFFFFFFFFFFFFF },
  { name := "REORDER_TIMEOUTS", first := 0x7000, count := 1, subLo := 0x05, subHi := 0x05, ty := .u64, access := .rm, group := none, dflt := 0, lo := 0, hi := 0xFFFFFFFFFFFFFFFF },
  { name := "REORDER_LATE_DROPS", first := 0x7000, count := 1, subLo := 0x06, subHi := 0x06, ty := .u64, access := .rm, group := none, dflt := 0, lo := 0, hi := 0xFFFFFFFFFFFFFFFF },
  { name := "SKIP_MARKERS", first := 0x7000, count := 1, subLo := 0x07, subHi := 0x07, ty := .u64, access := .rm, group := none, dflt := 0, lo := 0, hi := 0xFFFFFFFFFFFFFFFF },
  { name := "MCAST_SECOND_CHAINS", first := 0x7000, count := 1, subLo := 0x08, subHi := 0x08, ty := .u64, access := .rm, group := none, dflt := 0, lo := 0, hi := 0xFFFFFFFFFFFFFFFF },
  { name := "CELL_ECC_CORRECTED", first := 0x7000, count := 1, subLo := 0x09, subHi := 0x09, ty := .u64, access := .rm, group := none, dflt := 0, lo := 0, hi := 0xFFFFFFFFFFFFFFFF },
  { name := "CELL_ECC_DROPS", first := 0x7000, count := 1, subLo := 0x0A, subHi := 0x0A, ty := .u64, access := .rm, group := none, dflt := 0, lo := 0, hi := 0xFFFFFFFFFFFFFFFF },
  { name := "DEVICE_FREE_CELLS", first := 0x7000, count := 1, subLo := 0x0B, subHi := 0x0B, ty := .u32, access := .rm, group := none, dflt := 0x180000, lo := 0, hi := 0xFFFFFFFF },
  { name := "POOL_SIZE_TOTAL", first := 0x7000, count := 1, subLo := 0x0C, subHi := 0x0C, ty := .u32, access := .ro, group := none, dflt := 0x180000, lo := 0, hi := 0xFFFFFFFF },
  { name := "LANDING_FREE", first := 0x7001, count := 4, subLo := 0x01, subHi := 0x01, ty := .u32, access := .rm, group := none, dflt := 0x10000, lo := 0, hi := 0xFFFFFFFF },
  { name := "LANDING_LOW", first := 0x7001, count := 4, subLo := 0x02, subHi := 0x02, ty := .u32, access := .rm, group := none, dflt := 0x10000, lo := 0, hi := 0xFFFFFFFF },
  { name := "LANDING_WAITS", first := 0x7001, count := 4, subLo := 0x03, subHi := 0x03, ty := .u64, access := .rm, group := none, dflt := 0, lo := 0, hi := 0xFFFFFFFFFFFFFFFF },
  { name := "POOL_SIZE", first := 0x7010, count := 32, subLo := 0x01, subHi := 0x01, ty := .u32, access := .rws, group := some 8, dflt := 0, lo := 0, hi := 0xFFFFFFFF },
  { name := "FREE_CELLS", first := 0x7010, count := 32, subLo := 0x02, subHi := 0x02, ty := .u32, access := .rm, group := none, dflt := 0, lo := 0, hi := 0xFFFFFFFF },
  { name := "CHAINS", first := 0x7010, count := 32, subLo := 0x03, subHi := 0x03, ty := .u32, access := .rm, group := none, dflt := 0, lo := 0, hi := 0xFFFFFFFF },
  { name := "HELD_CHAINS", first := 0x7010, count := 32, subLo := 0x04, subHi := 0x04, ty := .u32, access := .rm, group := none, dflt := 0, lo := 0, hi := 0xFFFFFFFF },
  { name := "LOW_FREE", first := 0x7010, count := 32, subLo := 0x05, subHi := 0x05, ty := .u32, access := .rm, group := none, dflt := 0, lo := 0, hi := 0xFFFFFFFF },
  { name := "ALLOCS", first := 0x7010, count := 32, subLo := 0x06, subHi := 0x06, ty := .u64, access := .rm, group := none, dflt := 0, lo := 0, hi := 0xFFFFFFFFFFFFFFFF },
  { name := "ALLOC_FAILS", first := 0x7010, count := 32, subLo := 0x07, subHi := 0x07, ty := .u64, access := .rm, group := none, dflt := 0, lo := 0, hi := 0xFFFFFFFFFFFFFFFF },
  { name := "ADMIT_POOL_DROPS", first := 0x7010, count := 32, subLo := 0x08, subHi := 0x08, ty := .u64, access := .rm, group := none, dflt := 0, lo := 0, hi := 0xFFFFFFFFFFFFFFFF },
  { name := "DOUBLE_FREES", first := 0x7010, count := 32, subLo := 0x09, subHi := 0x09, ty := .u64, access := .rm, group := none, dflt := 0, lo := 0, hi := 0xFFFFFFFFFFFFFFFF },
  { name := "NOT_OWNER_COUNT", first := 0x7010, count := 32, subLo := 0x0A, subHi := 0x0A, ty := .u64, access := .rm, group := none, dflt := 0, lo := 0, hi := 0xFFFFFFFFFFFFFFFF },
  { name := "REF_LIMITS", first := 0x7010, count := 32, subLo := 0x0B, subHi := 0x0B, ty := .u64, access := .rm, group := none, dflt := 0, lo := 0, hi := 0xFFFFFFFFFFFFFFFF },
  { name := "DENIED", first := 0x7010, count := 32, subLo := 0x0C, subHi := 0x0C, ty := .u64, access := .rm, group := none, dflt := 0, lo := 0, hi := 0xFFFFFFFFFFFFFFFF },
  { name := "POOL_OP", first := 0x7040, count := 1, subLo := 0x01, subHi := 0x01, ty := .u64, access := .wo, group := none, dflt := 0, lo := 0, hi := 0xFFFFFFFFFFFFFFFF },
  { name := "POOL_RESULT", first := 0x7040, count := 1, subLo := 0x02, subHi := 0x02, ty := .u64, access := .ro, group := none, dflt := 0, lo := 0, hi := 0xFFFFFFFFFFFFFFFF },
  { name := "POOL_QUERY", first := 0x7040, count := 1, subLo := 0x03, subHi := 0x03, ty := .u64, access := .ro, group := none, dflt := 0, lo := 0, hi := 0xFFFFFFFFFFFFFFFF },
  { name := "RESEQ_TIMEOUT_US", first := 0x7100, count := 132, subLo := 0x01, subHi := 0x01, ty := .u16, access := .rws, group := some 8, dflt := 0x14, lo := 1, hi := 0x1F4 },
  { name := "HELD_ITEMS", first := 0x7100, count := 132, subLo := 0x02, subHi := 0x02, ty := .u16, access := .rm, group := none, dflt := 0, lo := 0, hi := 0x4000 },
  { name := "HOLES_TIMED_OUT", first := 0x7100, count := 132, subLo := 0x03, subHi := 0x03, ty := .u64, access := .rm, group := none, dflt := 0, lo := 0, hi := 0xFFFFFFFFFFFFFFFF },
  { name := "RESEQ_LATE_DROPS", first := 0x7100, count := 132, subLo := 0x04, subHi := 0x04, ty := .u64, access := .rm, group := none, dflt := 0, lo := 0, hi := 0xFFFFFFFFFFFFFFFF },
  { name := "RESEQ_FULL", first := 0x7100, count := 132, subLo := 0x05, subHi := 0x05, ty := .u64, access := .rm, group := none, dflt := 0, lo := 0, hi := 0xFFFFFFFFFFFFFFFF }]

/-- Rows of indices 0x7xxx. -/
def objRows7 : List ObjRow := objRows7_0

/-- Rows of indices 0x8xxx, part 0. -/
def objRows8_0 : List ObjRow := [
  { name := "LENGTH_FORCED", first := 0x8000, count := 1, subLo := 0x01, subHi := 0x01, ty := .bool, access := .ro, group := none, dflt := 1, lo := 0, hi := 1 },
  { name := "METER_OFF_FRAMES", first := 0x8000, count := 1, subLo := 0x02, subHi := 0x02, ty := .u64, access := .rm, group := none, dflt := 0, lo := 0, hi := 0xFFFFFFFFFFFFFFFF },
  { name := "RED_DROPS", first := 0x8000, count := 1, subLo := 0x03, subHi := 0x03, ty := .u64, access := .rm, group := none, dflt := 0, lo := 0, hi := 0xFFFFFFFFFFFFFFFF },
  { name := "SCHED_ROTATIONS", first := 0x8000, count := 1, subLo := 0x04, subHi := 0x04, ty := .u64, access := .rm, group := none, dflt := 0, lo := 0, hi := 0xFFFFFFFFFFFFFFFF },
  { name := "QMAX_CLEAR", first := 0x8000, count := 1, subLo := 0x05, subHi := 0x05, ty := .u32, access := .wo, group := none, dflt := 0, lo := 0, hi := 0xFFFFFFFF },
  { name := "SOJOURN_ALARM_NS", first := 0x8000, count := 1, subLo := 0x06, subHi := 0x06, ty := .u32, access := .rw, group := none, dflt := 0, lo := 0, hi := 0xFFFFFFFF },
  { name := "SOJOURN_ALARMS", first := 0x8000, count := 1, subLo := 0x07, subHi := 0x07, ty := .u64, access := .rm, group := none, dflt := 0, lo := 0, hi := 0xFFFFFFFFFFFFFFFF },
  { name := "TELEM_ENABLE", first := 0x8001, count := 1, subLo := 0x01, subHi := 0x01, ty := .bool, access := .rw, group := none, dflt := 0, lo := 0, hi := 1 },
  { name := "TELEM_BASE", first := 0x8001, count := 1, subLo := 0x02, subHi := 0x02, ty := .u64, access := .rw, group := none, dflt := 0, lo := 0, hi := 0xFFFFFFFFFFFFFFFF },
  { name := "TELEM_ENTRIES", first := 0x8001, count := 1, subLo := 0x03, subHi := 0x03, ty := .u32, access := .rw, group := none, dflt := 0x1000, lo := 0x100, hi := 0x100000 },
  { name := "TELEM_HEAD", first := 0x8001, count := 1, subLo := 0x04, subHi := 0x04, ty := .u32, access := .rw, group := none, dflt := 0, lo := 0, hi := 0xFFFFFFFF },
  { name := "TELEM_TAIL", first := 0x8001, count := 1, subLo := 0x05, subHi := 0x05, ty := .u32, access := .rm, group := none, dflt := 0, lo := 0, hi := 0xFFFFFFFF },
  { name := "SAMPLE_INTERVAL_NS", first := 0x8001, count := 1, subLo := 0x06, subHi := 0x06, ty := .u32, access := .rw, group := none, dflt := 0xf4240, lo := 0x3e8, hi := 0x3B9ACA00 },
  { name := "SAMPLE_ROUNDS", first := 0x8001, count := 1, subLo := 0x07, subHi := 0x07, ty := .u64, access := .rm, group := none, dflt := 0, lo := 0, hi := 0xFFFFFFFFFFFFFFFF },
  { name := "SAMPLE_OVERRUNS", first := 0x8001, count := 1, subLo := 0x08, subHi := 0x08, ty := .u64, access := .rm, group := none, dflt := 0, lo := 0, hi := 0xFFFFFFFFFFFFFFFF },
  { name := "SAMPLE_DEFERRED", first := 0x8001, count := 1, subLo := 0x09, subHi := 0x09, ty := .u64, access := .rm, group := none, dflt := 0, lo := 0, hi := 0xFFFFFFFFFFFFFFFF },
  { name := "RING_DROPS", first := 0x8001, count := 1, subLo := 0x0A, subHi := 0x0A, ty := .u64, access := .rm, group := none, dflt := 0, lo := 0, hi := 0xFFFFFFFFFFFFFFFF },
  { name := "OVERHEAD", first := 0x8010, count := 64, subLo := 0x01, subHi := 0x01, ty := .i32, access := .rws, group := some 9, dflt := 0x14, lo := 0, hi := 0xFFFFFFFF },
  { name := "FORCED", first := 0x8010, count := 64, subLo := 0x02, subHi := 0x02, ty := .bool, access := .ro, group := none, dflt := 1, lo := 0, hi := 1 },
  { name := "ACCT_PROFILE", first := 0x8100, count := 128, subLo := 0x01, subHi := 0x01, ty := .u8, access := .rws, group := some 9, dflt := 0, lo := 0, hi := 0x3F },
  { name := "SHAPE_RATE", first := 0x8100, count := 128, subLo := 0x02, subHi := 0x02, ty := .u32, access := .rws, group := some 9, dflt := 0, lo := 0, hi := 0xFFFFFFFF },
  { name := "SHAPE_BURST", first := 0x8100, count := 128, subLo := 0x03, subHi := 0x03, ty := .u32, access := .rws, group := some 9, dflt := 0x4000, lo := 0, hi := 0xFFFFFF }]

/-- Rows of indices 0x8xxx. -/
def objRows8 : List ObjRow := objRows8_0

/-- Rows of indices 0x9xxx, part 0. -/
def objRows9_0 : List ObjRow := [
  { name := "PLAN_ENABLE", first := 0x9000, count := 1, subLo := 0x01, subHi := 0x01, ty := .bool, access := .rws, group := some 11, dflt := 1, lo := 0, hi := 1 },
  { name := "POWER_CAP_MW", first := 0x9000, count := 1, subLo := 0x02, subHi := 0x02, ty := .u32, access := .rws, group := some 11, dflt := 0x9c400, lo := 0xc350, hi := 0x9C400 },
  { name := "RELEASE_MARGIN_PM", first := 0x9000, count := 1, subLo := 0x03, subHi := 0x03, ty := .u16, access := .rws, group := some 11, dflt := 0x32, lo := 0, hi := 0x1F4 },
  { name := "ESCALATE_TICKS", first := 0x9000, count := 1, subLo := 0x04, subHi := 0x04, ty := .u8, access := .rws, group := some 11, dflt := 0x14, lo := 1, hi := 0xFF },
  { name := "RELEASE_TICKS", first := 0x9000, count := 1, subLo := 0x05, subHi := 0x05, ty := .u8, access := .rws, group := some 11, dflt := 0x14, lo := 1, hi := 0xFF },
  { name := "ADMIT_FLOOR", first := 0x9000, count := 1, subLo := 0x06, subHi := 0x06, ty := .u16, access := .rws, group := some 11, dflt := 0x40, lo := 1, hi := 0x400 },
  { name := "ADMIT_STEP", first := 0x9000, count := 1, subLo := 0x07, subHi := 0x07, ty := .u16, access := .rws, group := some 11, dflt := 0x40, lo := 1, hi := 0x400 },
  { name := "STRETCH_MASK", first := 0x9000, count := 1, subLo := 0x08, subHi := 0x08, ty := (.bits 25), access := .rws, group := some 11, dflt := 0x60ffff, lo := 0, hi := 0x1FFFFFF },
  { name := "STRETCH_MIN_K", first := 0x9000, count := 1, subLo := 0x09, subHi := 0x09, ty := .u8, access := .rws, group := some 11, dflt := 8, lo := 4, hi := 0x10 },
  { name := "DENY_ACTION", first := 0x9000, count := 1, subLo := 0x0A, subHi := 0x0A, ty := .u8, access := .rws, group := some 11, dflt := 0, lo := 0, hi := 1 },
  { name := "LEVEL", first := 0x9001, count := 1, subLo := 0x01, subHi := 0x01, ty := .u8, access := .ro, group := none, dflt := 0, lo := 0, hi := 0xFF },
  { name := "FORECAST_MW", first := 0x9001, count := 1, subLo := 0x02, subHi := 0x02, ty := .u32, access := .ro, group := none, dflt := 0, lo := 0, hi := 0xFFFFFFFF },
  { name := "DEVICE_POWER_MW", first := 0x9001, count := 1, subLo := 0x03, subHi := 0x03, ty := .u32, access := .ro, group := none, dflt := 0, lo := 0, hi := 0xFFFFFFFF },
  { name := "TICKS", first := 0x9001, count := 1, subLo := 0x04, subHi := 0x04, ty := .u64, access := .ro, group := none, dflt := 0, lo := 0, hi := 0xFFFFFFFFFFFFFFFF },
  { name := "OVER_TICKS", first := 0x9001, count := 1, subLo := 0x05, subHi := 0x05, ty := .u64, access := .ro, group := none, dflt := 0, lo := 0, hi := 0xFFFFFFFFFFFFFFFF },
  { name := "TENANTS_OVER_SHARE", first := 0x9001, count := 1, subLo := 0x06, subHi := 0x06, ty := .u16, access := .ro, group := none, dflt := 0, lo := 0, hi := 0xFFFF },
  { name := "LATE_REPORTS", first := 0x9001, count := 1, subLo := 0x07, subHi := 0x07, ty := .u64, access := .ro, group := none, dflt := 0, lo := 0, hi := 0xFFFFFFFFFFFFFFFF },
  { name := "DEVICE_UJ", first := 0x9002, count := 1, subLo := 0x01, subHi := 0x01, ty := .u64, access := .ro, group := none, dflt := 0, lo := 0, hi := 0xFFFFFFFFFFFFFFFF },
  { name := "STATIC_UJ", first := 0x9002, count := 1, subLo := 0x02, subHi := 0x02, ty := .u64, access := .ro, group := none, dflt := 0, lo := 0, hi := 0xFFFFFFFFFFFFFFFF },
  { name := "PASS_DENIALS", first := 0x9005, count := 1, subLo := 0x01, subHi := 0x01, ty := .u64, access := .ro, group := none, dflt := 0, lo := 0, hi := 0xFFFFFFFFFFFFFFFF },
  { name := "BULK_DEFERRED", first := 0x9005, count := 1, subLo := 0x02, subHi := 0x02, ty := .u64, access := .ro, group := none, dflt := 0, lo := 0, hi := 0xFFFFFFFFFFFFFFFF },
  { name := "BULK_REFUSALS", first := 0x9005, count := 1, subLo := 0x03, subHi := 0x03, ty := .u64, access := .ro, group := none, dflt := 0, lo := 0, hi := 0xFFFFFFFFFFFFFFFF },
  { name := "THROTTLE_DROPS", first := 0x9005, count := 1, subLo := 0x04, subHi := 0x04, ty := .u64, access := .ro, group := none, dflt := 0, lo := 0, hi := 0xFFFFFFFFFFFFFFFF },
  { name := "STRETCH_CHANGES", first := 0x9005, count := 1, subLo := 0x05, subHi := 0x05, ty := .u64, access := .ro, group := none, dflt := 0, lo := 0, hi := 0xFFFFFFFFFFFFFFFF },
  { name := "RAIL_REPORT", first := 0x9003, count := 1, subLo := 0x01, subHi := 0x01, ty := (.octets 20), access := .wo, group := none, dflt := 0, lo := 0, hi := 0xFFFFFFFFFFFFFFFFFFFFFFFFFFFFFFFFFFFFFFFF },
  { name := "STATIC_MW", first := 0x9003, count := 1, subLo := 0x02, subHi := 0x02, ty := .u32, access := .ro, group := none, dflt := 0x249f0, lo := 0, hi := 0xFFFFFFFF },
  { name := "STATIC_INIT_MW", first := 0x9003, count := 1, subLo := 0x03, subHi := 0x03, ty := .u32, access := .rw, group := none, dflt := 0x249f0, lo := 0, hi := 0x9C400 },
  { name := "CAL_SHIFT", first := 0x9003, count := 1, subLo := 0x04, subHi := 0x04, ty := .u8, access := .rw, group := none, dflt := 2, lo := 0, hi := 4 },
  { name := "CAL_ALARM_MW", first := 0x9003, count := 1, subLo := 0x05, subHi := 0x05, ty := .u32, access := .rw, group := none, dflt := 0x61a8, lo := 0, hi := 0xFFFFFFFF },
  { name := "LAST_ERROR_MW", first := 0x9003, count := 1, subLo := 0x06, subHi := 0x06, ty := .i32, access := .ro, group := none, dflt := 0, lo := 0, hi := 0xFFFFFFFF },
  { name := "CAL_REPORTS", first := 0x9003, count := 1, subLo := 0x07, subHi := 0x07, ty := .u64, access := .ro, group := none, dflt := 0, lo := 0, hi := 0xFFFFFFFFFFFFFFFF },
  { name := "CAL_REJECTS", first := 0x9003, count := 1, subLo := 0x08, subHi := 0x08, ty := .u64, access := .ro, group := none, dflt := 0, lo := 0, hi := 0xFFFFFFFFFFFFFFFF },
  { name := "EXPORT_ENABLE", first := 0x9004, count := 1, subLo := 0x01, subHi := 0x01, ty := .bool, access := .rw, group := none, dflt := 0, lo := 0, hi := 1 },
  { name := "EXPORT_BASE", first := 0x9004, count := 1, subLo := 0x02, subHi := 0x02, ty := .u64, access := .rw, group := none, dflt := 0, lo := 0, hi := 0xFFFFFFFFFFFFFFFF },
  { name := "EXPORT_PERIOD_US", first := 0x9004, count := 1, subLo := 0x03, subHi := 0x03, ty := .u32, access := .rw, group := none, dflt := 0x3e8, lo := 0x64, hi := 0xF4240 },
  { name := "EXPORT_SEQUENCE", first := 0x9004, count := 1, subLo := 0x04, subHi := 0x04, ty := .u64, access := .ro, group := none, dflt := 0, lo := 0, hi := 0xFFFFFFFFFFFFFFFF },
  { name := "EXPORT_ERRORS", first := 0x9004, count := 1, subLo := 0x05, subHi := 0x05, ty := .u64, access := .ro, group := none, dflt := 0, lo := 0, hi := 0xFFFFFFFFFFFFFFFF },
  { name := "FUSED", first := 0x9010, count := 1, subLo := 0x01, subHi := 0x0A, ty := .u32, access := .ro, group := none, dflt := 0, lo := 0, hi := 0xFFFFFFFF },
  { name := "OVERRIDE", first := 0x9011, count := 1, subLo := 0x01, subHi := 0x0A, ty := .u32, access := .rws, group := some 11, dflt := 0, lo := 0, hi := 0xFFFFFFFF },
  { name := "IN_USE", first := 0x9012, count := 1, subLo := 0x01, subHi := 0x0A, ty := .u32, access := .ro, group := none, dflt := 0, lo := 0, hi := 0xFFFFFFFF }]

/-- Rows of indices 0x9xxx. -/
def objRows9 : List ObjRow := objRows9_0

/-- Rows of indices 0xAxxx, part 0. -/
def objRowsA_0 : List ObjRow := [
  { name := "PORTS_ALLOWED", first := 0xA000, count := 4096, subLo := 0x01, subHi := 0x01, ty := (.octets 16), access := .rws, group := some 12, dflt := 0, lo := 0, hi := 0xFFFFFFFFFFFFFFFFFFFFFFFFFFFFFFFF },
  { name := "VRF", first := 0xA000, count := 4096, subLo := 0x02, subHi := 0x02, ty := .u16, access := .rws, group := some 12, dflt := 0, lo := 0, hi := 0xFFF },
  { name := "METER_BASE", first := 0xA000, count := 4096, subLo := 0x03, subHi := 0x03, ty := .u16, access := .rws, group := some 12, dflt := 0, lo := 0, hi := 0x7FFF },
  { name := "METER_COUNT", first := 0xA000, count := 4096, subLo := 0x04, subHi := 0x04, ty := .u16, access := .rws, group := some 12, dflt := 0, lo := 0, hi := 0xFFFF },
  { name := "QUEUE_NODE", first := 0xA000, count := 4096, subLo := 0x05, subHi := 0x05, ty := .u16, access := .rws, group := some 12, dflt := 0xffff, lo := 0, hi := 0xFFFF },
  { name := "KEY_BASE", first := 0xA000, count := 4096, subLo := 0x06, subHi := 0x06, ty := .u16, access := .rws, group := some 12, dflt := 0, lo := 0, hi := 0xFFFF },
  { name := "KEY_COUNT", first := 0xA000, count := 4096, subLo := 0x07, subHi := 0x07, ty := .u32, access := .rws, group := some 12, dflt := 0, lo := 0, hi := 0xFFFFFFFF },
  { name := "PARSE_PROFILE", first := 0xA000, count := 4096, subLo := 0x08, subHi := 0x08, ty := .u8, access := .rws, group := some 12, dflt := 0, lo := 0, hi := 0xF },
  { name := "ENERGY_SHARE", first := 0xA000, count := 4096, subLo := 0x09, subHi := 0x09, ty := .u32, access := .rws, group := some 12, dflt := 0, lo := 0, hi := 0xFFFFFFFF },
  { name := "COUNTER_PAGE", first := 0xA000, count := 4096, subLo := 0x0A, subHi := 0x0A, ty := .u16, access := .rws, group := some 12, dflt := 0xffff, lo := 0, hi := 0xFFFF },
  { name := "RIGHTS", first := 0xA000, count := 4096, subLo := 0x0B, subHi := 0x0B, ty := (.bits 16), access := .rws, group := some 12, dflt := 0, lo := 0, hi := 0xFFFF },
  { name := "FROST_STATE", first := 0xA000, count := 4096, subLo := 0x0C, subHi := 0x0C, ty := .u8, access := .ro, group := none, dflt := 0, lo := 0, hi := 0xFF },
  { name := "ISOLATION_DROPS", first := 0xA000, count := 4096, subLo := 0x0D, subHi := 0x0D, ty := .u64, access := .rm, group := none, dflt := 0, lo := 0, hi := 0xFFFFFFFFFFFFFFFF },
  { name := "FROST_DROPS", first := 0xA000, count := 4096, subLo := 0x0E, subHi := 0x0E, ty := .u64, access := .rm, group := none, dflt := 0, lo := 0, hi := 0xFFFFFFFFFFFFFFFF }]

/-- Rows of indices 0xAxxx. -/
def objRowsA : List ObjRow := objRowsA_0

/-- Rows of indices 0xBxxx, part 0. -/
def objRowsB_0 : List ObjRow := [
  { name := "RECORDS_WRITTEN", first := 0xB000, count := 1, subLo := 0x01, subHi := 0x01, ty := .u64, access := .ro, group := none, dflt := 0, lo := 0, hi := 0xFFFFFFFFFFFFFFFF },
  { name := "QUEUE_DEPTH", first := 0xB000, count := 1, subLo := 0x02, subHi := 0x02, ty := .u16, access := .ro, group := none, dflt := 0, lo := 0, hi := 0x1000 },
  { name := "FOLDED", first := 0xB000, count := 1, subLo := 0x03, subHi := 0x03, ty := .u64, access := .ro, group := none, dflt := 0, lo := 0, hi := 0xFFFFFFFFFFFFFFFF },
  { name := "INT_STATUS", first := 0xB000, count := 1, subLo := 0x04, subHi := 0x04, ty := .bool, access := .ro, group := none, dflt := 0, lo := 0, hi := 1 },
  { name := "INT_ACK", first := 0xB000, count := 1, subLo := 0x05, subHi := 0x05, ty := .bool, access := .wo, group := none, dflt := 0, lo := 0, hi := 1 },
  { name := "INT_PIN_ENABLE", first := 0xB000, count := 1, subLo := 0x06, subHi := 0x06, ty := .bool, access := .rw, group := none, dflt := 0, lo := 0, hi := 1 },
  { name := "RING_ENABLE", first := 0xB010, count := 32, subLo := 0x01, subHi := 0x01, ty := .bool, access := .rw, group := none, dflt := 0, lo := 0, hi := 1 },
  { name := "RING_BASE", first := 0xB010, count := 32, subLo := 0x02, subHi := 0x02, ty := .u64, access := .rw, group := none, dflt := 0, lo := 0, hi := 0xFFFFFFFFFFFFFFFF },
  { name := "RING_ENTRIES", first := 0xB010, count := 32, subLo := 0x03, subHi := 0x03, ty := .u32, access := .rw, group := none, dflt := 0x1000, lo := 0x100, hi := 0x10000 },
  { name := "RING_HEAD", first := 0xB010, count := 32, subLo := 0x04, subHi := 0x04, ty := .u32, access := .rw, group := none, dflt := 0, lo := 0, hi := 0xFFFFFFFF },
  { name := "RING_TAIL", first := 0xB010, count := 32, subLo := 0x05, subHi := 0x05, ty := .u32, access := .ro, group := none, dflt := 0, lo := 0, hi := 0xFFFFFFFF },
  { name := "MODERATION_US", first := 0xB010, count := 32, subLo := 0x06, subHi := 0x06, ty := .u16, access := .rw, group := none, dflt := 0, lo := 0, hi := 0x3E8 },
  { name := "RING_FULL_FOLDS", first := 0xB010, count := 32, subLo := 0x07, subHi := 0x07, ty := .u64, access := .ro, group := none, dflt := 0, lo := 0, hi := 0xFFFFFFFFFFFFFFFF },
  { name := "MODE", first := 0xB100, count := 25, subLo := 0x01, subHi := 0x01, ty := .u8, access := .rws, group := some 14, dflt := 0, lo := 0, hi := 1 },
  { name := "SELECT0", first := 0xB100, count := 25, subLo := 0x02, subHi := 0x05, ty := .u32, access := .rws, group := some 14, dflt := 0, lo := 0, hi := 0xFFFFFFFF },
  { name := "SELECT0", first := 0xB100, count := 16, subLo := 0x06, subHi := 0x09, ty := .u32, access := .rws, group := some 14, dflt := 0, lo := 0, hi := 0xFFFFFFFF },
  { name := "CYCLES", first := 0xB100, count := 25, subLo := 0x0A, subHi := 0x0A, ty := .u64, access := .rm, group := none, dflt := 0, lo := 0, hi := 0xFFFFFFFFFFFFFFFF },
  { name := "OVERFLOW", first := 0xB100, count := 25, subLo := 0x0B, subHi := 0x0B, ty := (.octets 64), access := .ro, group := none, dflt := 0, lo := 0, hi := 0xFFFFFFFFFFFFFFFFFFFFFFFFFFFFFFFFFFFFFFFFFFFFFFFFFFFFFFFFFFFFFFFFFFFFFFFFFFFFFFFFFFFFFFFFFFFFFFFFFFFFFFFFFFFFFFFFFFFFFFFFFFFFFFFF },
  { name := "SNAPSHOT", first := 0xB100, count := 25, subLo := 0x0C, subHi := 0x0C, ty := .u8, access := .wo, group := none, dflt := 0, lo := 1, hi := 1 },
  { name := "SNAP_CYCLES", first := 0xB100, count := 25, subLo := 0x0D, subHi := 0x0D, ty := .u64, access := .rm, group := none, dflt := 0, lo := 0, hi := 0xFFFFFFFFFFFFFFFF },
  { name := "UNCOUNTED", first := 0xB080, count := 1, subLo := 0x01, subHi := 0x01, ty := .u64, access := .rm, group := none, dflt := 0, lo := 0, hi := 0xFFFFFFFFFFFFFFFF },
  { name := "SAMPLE_ENABLE", first := 0xB200, count := 16, subLo := 0x01, subHi := 0x01, ty := .bool, access := .rw, group := none, dflt := 0, lo := 0, hi := 1 },
  { name := "SAMPLE_PERIOD", first := 0xB200, count := 16, subLo := 0x02, subHi := 0x02, ty := .u32, access := .rw, group := none, dflt := 0x1000, lo := 0x40, hi := 0x1000000 },
  { name := "SAMPLE_JITTER", first := 0xB200, count := 16, subLo := 0x03, subHi := 0x03, ty := .u8, access := .rw, group := none, dflt := 0, lo := 0, hi := 0xC },
  { name := "SAMPLE_TENANT", first := 0xB200, count := 16, subLo := 0x04, subHi := 0x04, ty := .u16, access := .rw, group := none, dflt := 0xffff, lo := 0, hi := 0xFFFF },
  { name := "SAMPLES_TAKEN", first := 0xB200, count := 16, subLo := 0x05, subHi := 0x05, ty := .u64, access := .rm, group := none, dflt := 0, lo := 0, hi := 0xFFFFFFFFFFFFFFFF },
  { name := "SAMPLES_LOST", first := 0xB200, count := 16, subLo := 0x06, subHi := 0x06, ty := .u64, access := .rm, group := none, dflt := 0, lo := 0, hi := 0xFFFFFFFFFFFFFFFF },
  { name := "BUFFER_FILL", first := 0xB200, count := 16, subLo := 0x07, subHi := 0x07, ty := .u16, access := .rm, group := none, dflt := 0, lo := 0, hi := 0x1000 },
  { name := "SRING_ENABLE", first := 0xB280, count := 1, subLo := 0x01, subHi := 0x01, ty := .bool, access := .rw, group := none, dflt := 0, lo := 0, hi := 1 },
  { name := "SRING_BASE", first := 0xB280, count := 1, subLo := 0x02, subHi := 0x02, ty := .u64, access := .rw, group := none, dflt := 0, lo := 0, hi := 0xFFFFFFFFFFFFFFFF },
  { name := "SRING_ENTRIES", first := 0xB280, count := 1, subLo := 0x03, subHi := 0x03, ty := .u32, access := .rw, group := none, dflt := 0x10000, lo := 0x100, hi := 0x100000 },
  { name := "SRING_HEAD", first := 0xB280, count := 1, subLo := 0x04, subHi := 0x04, ty := .u32, access := .rw, group := none, dflt := 0, lo := 0, hi := 0xFFFFFFFF },
  { name := "SRING_TAIL", first := 0xB280, count := 1, subLo := 0x05, subHi := 0x05, ty := .u32, access := .ro, group := none, dflt := 0, lo := 0, hi := 0xFFFFFFFF },
  { name := "SRING_STALLS", first := 0xB280, count := 1, subLo := 0x06, subHi := 0x06, ty := .u64, access := .ro, group := none, dflt := 0, lo := 0, hi := 0xFFFFFFFFFFFFFFFF }]

/-- Rows of indices 0xBxxx. -/
def objRowsB : List ObjRow := objRowsB_0

/-- Rows of indices 0xCxxx, part 0. -/
def objRowsC_0 : List ObjRow := [
  { name := "FUSE_ROW_STATE", first := 0xC000, count := 1, subLo := 0x01, subHi := 0x01, ty := (.octets 64), access := .ro, group := none, dflt := 0, lo := 0, hi := 0xFFFFFFFFFFFFFFFFFFFFFFFFFFFFFFFFFFFFFFFFFFFFFFFFFFFFFFFFFFFFFFFFFFFFFFFFFFFFFFFFFFFFFFFFFFFFFFFFFFFFFFFFFFFFFFFFFFFFFFFFFFFFFFFF },
  { name := "SUPPLY_STABLE", first := 0xC000, count := 1, subLo := 0x02, subHi := 0x02, ty := .bool, access := .ro, group := none, dflt := 0, lo := 0, hi := 1 },
  { name := "BURN_STATUS", first := 0xC000, count := 1, subLo := 0x03, subHi := 0x03, ty := .u8, access := .ro, group := none, dflt := 0, lo := 0, hi := 0xFF },
  { name := "BURNS", first := 0xC000, count := 1, subLo := 0x04, subHi := 0x04, ty := .u32, access := .ro, group := none, dflt := 0, lo := 0, hi := 0xFFFFFFFF },
  { name := "VENDOR_ROOT_HASH", first := 0xC000, count := 1, subLo := 0x05, subHi := 0x05, ty := (.octets 32), access := .ro, group := none, dflt := 0, lo := 0, hi := 0xFFFFFFFFFFFFFFFFFFFFFFFFFFFFFFFFFFFFFFFFFFFFFFFFFFFFFFFFFFFFFFFF },
  { name := "OWNER_KEY_HASH", first := 0xC010, count := 4, subLo := 0x01, subHi := 0x01, ty := (.octets 32), access := .w1f, group := none, dflt := 0, lo := 0, hi := 0xFFFFFFFFFFFFFFFFFFFFFFFFFFFFFFFFFFFFFFFFFFFFFFFFFFFFFFFFFFFFFFFF },
  { name := "OWNER_REVOKE", first := 0xC010, count := 4, subLo := 0x02, subHi := 0x02, ty := .bool, access := .w1f, group := none, dflt := 0, lo := 0, hi := 1 },
  { name := "SLOT_STATE", first := 0xC010, count := 4, subLo := 0x03, subHi := 0x03, ty := .u8, access := .ro, group := none, dflt := 0, lo := 0, hi := 0xFF },
  { name := "ROLLBACK_ADVANCE", first := 0xC020, count := 1, subLo := 0x01, subHi := 0x01, ty := .u8, access := .wo, group := none, dflt := 0, lo := 0, hi := 0xFF },
  { name := "LIFECYCLE_ADVANCE", first := 0xC021, count := 1, subLo := 0x01, subHi := 0x01, ty := .u8, access := .wo, group := none, dflt := 0, lo := 0, hi := 0xFF },
  { name := "MR0", first := 0xC030, count := 1, subLo := 0x01, subHi := 0x10, ty := (.octets 32), access := .ro, group := none, dflt := 0, lo := 0, hi := 0xFFFFFFFFFFFFFFFFFFFFFFFFFFFFFFFFFFFFFFFFFFFFFFFFFFFFFFFFFFFFFFFF },
  { name := "MR_EXTEND", first := 0xC030, count := 1, subLo := 0x11, subHi := 0x11, ty := (.octets 33), access := .wo, group := none, dflt := 0, lo := 0, hi := 0xFFFFFFFFFFFFFFFFFFFFFFFFFFFFFFFFFFFFFFFFFFFFFFFFFFFFFFFFFFFFFFFFFF },
  { name := "IDENTITY_PUBLIC_KEY", first := 0xC040, count := 1, subLo := 0x01, subHi := 0x01, ty := (.octets 32), access := .ro, group := none, dflt := 0, lo := 0, hi := 0xFFFFFFFFFFFFFFFFFFFFFFFFFFFFFFFFFFFFFFFFFFFFFFFFFFFFFFFFFFFFFFFF },
  { name := "ALIAS_PUBLIC_KEY", first := 0xC040, count := 1, subLo := 0x02, subHi := 0x02, ty := (.octets 32), access := .ro, group := none, dflt := 0, lo := 0, hi := 0xFFFFFFFFFFFFFFFFFFFFFFFFFFFFFFFFFFFFFFFFFFFFFFFFFFFFFFFFFFFFFFFF },
  { name := "ALIAS_CERT", first := 0xC041, count := 1, subLo := 0x01, subHi := 0x01, ty := (.domain 17088 16), access := .ro, group := none, dflt := 0x42c0, lo := 0, hi := 0 },
  { name := "QUOTE_REQUEST", first := 0xC050, count := 1, subLo := 0x01, subHi := 0x01, ty := (.octets 40), access := .wo, group := none, dflt := 0, lo := 0, hi := 0xFFFFFFFFFFFFFFFFFFFFFFFFFFFFFFFFFFFFFFFFFFFFFFFFFFFFFFFFFFFFFFFFFFFFFFFFFFFFFFFF },
  { name := "QUOTE_STATUS", first := 0xC050, count := 1, subLo := 0x02, subHi := 0x02, ty := .u8, access := .ro, group := none, dflt := 0, lo := 0, hi := 0xFF },
  { name := "QUOTE", first := 0xC051, count := 1, subLo := 0x01, subHi := 0x01, ty := (.domain 36048 16), access := .ro, group := none, dflt := 0, lo := 0, hi := 0 },
  { name := "BUNDLE_TRANSFER", first := 0xC100, count := 1, subLo := 0x01, subHi := 0x01, ty := (.domain 8388608 8), access := .wo, group := none, dflt := 0x800000, lo := 0, hi := 0 },
  { name := "UPDATE_PHASE", first := 0xC101, count := 1, subLo := 0x01, subHi := 0x01, ty := .u8, access := .ro, group := none, dflt := 0, lo := 0, hi := 0xFF },
  { name := "UPDATE_REJECT_REASON", first := 0xC101, count := 1, subLo := 0x02, subHi := 0x02, ty := .u8, access := .ro, group := none, dflt := 0, lo := 0, hi := 0xFF },
  { name := "BUNDLE_SVN", first := 0xC101, count := 1, subLo := 0x03, subHi := 0x03, ty := .u8, access := .ro, group := none, dflt := 0, lo := 0, hi := 0xFF },
  { name := "BUNDLE_ID", first := 0xC101, count := 1, subLo := 0x04, subHi := 0x04, ty := (.octets 16), access := .ro, group := none, dflt := 0, lo := 0, hi := 0xFFFFFFFFFFFFFFFFFFFFFFFFFFFFFFFF }]

/-- Rows of indices 0xCxxx. -/
def objRowsC : List ObjRow := objRowsC_0

/-- Rows of indices 0xDxxx, part 0. -/
def objRowsD_0 : List ObjRow := [
  { name := "VENDOR_ID", first := 0xD000, count := 1, subLo := 0x01, subHi := 0x01, ty := .u16, access := .ro, group := none, dflt := 0x1f3a, lo := 0, hi := 0xFFFF },
  { name := "LINK_RATE", first := 0xD000, count := 1, subLo := 0x02, subHi := 0x02, ty := .u8, access := .ro, group := none, dflt := 0, lo := 0, hi := 0xFF },
  { name := "LINK_WIDTH", first := 0xD000, count := 1, subLo := 0x03, subHi := 0x03, ty := .u8, access := .ro, group := none, dflt := 0, lo := 0, hi := 0xFF },
  { name := "NUM_VFS", first := 0xD000, count := 1, subLo := 0x04, subHi := 0x04, ty := .u8, access := .ro, group := none, dflt := 0, lo := 0, hi := 0xFF },
  { name := "SLOWPATH_RATE", first := 0xD000, count := 1, subLo := 0x05, subHi := 0x05, ty := .u32, access := .rws, group := some 15, dflt := 0x5f5e100, lo := 8, hi := 0x2FAF0800 },
  { name := "SLOWPATH_BURST", first := 0xD000, count := 1, subLo := 0x06, subHi := 0x06, ty := .u32, access := .rws, group := some 15, dflt := 0x100000, lo := 0, hi := 0xFFFFFF },
  { name := "POLICER_DROPS", first := 0xD000, count := 1, subLo := 0x07, subHi := 0x07, ty := .u64, access := .ro, group := none, dflt := 0, lo := 0, hi := 0xFFFFFFFFFFFFFFFF },
  { name := "DOORBELL_REJECTS", first := 0xD000, count := 1, subLo := 0x08, subHi := 0x08, ty := .u64, access := .ro, group := none, dflt := 0, lo := 0, hi := 0xFFFFFFFFFFFFFFFF },
  { name := "LAST_GASP_ENABLE", first := 0xD000, count := 1, subLo := 0x09, subHi := 0x09, ty := .bool, access := .rw, group := none, dflt := 0, lo := 0, hi := 1 },
  { name := "LAST_GASP_BASE", first := 0xD000, count := 1, subLo := 0x0A, subHi := 0x0A, ty := .u64, access := .rw, group := none, dflt := 0, lo := 0, hi := 0xFFFFFFFFFFFFFFFF },
  { name := "MB_VECTOR", first := 0xD010, count := 32, subLo := 0x01, subHi := 0x01, ty := .u8, access := .rw, group := none, dflt := 0, lo := 0, hi := 0xFF },
  { name := "OWNER", first := 0xD100, count := 64, subLo := 0x01, subHi := 0x01, ty := .u8, access := .rw, group := none, dflt := 0, lo := 0, hi := 0x1F },
  { name := "OWNER", first := 0xD140, count := 64, subLo := 0x01, subHi := 0x01, ty := .u8, access := .rw, group := none, dflt := 0, lo := 0, hi := 0x1F },
  { name := "OWNER", first := 0xD180, count := 16, subLo := 0x01, subHi := 0x01, ty := .u8, access := .rw, group := none, dflt := 0, lo := 0, hi := 0x1F },
  { name := "ENABLE", first := 0xD100, count := 64, subLo := 0x02, subHi := 0x02, ty := .bool, access := .rw, group := none, dflt := 0, lo := 0, hi := 1 },
  { name := "ENABLE", first := 0xD140, count := 64, subLo := 0x02, subHi := 0x02, ty := .bool, access := .rw, group := none, dflt := 0, lo := 0, hi := 1 },
  { name := "ENABLE", first := 0xD180, count := 16, subLo := 0x02, subHi := 0x02, ty := .bool, access := .rw, group := none, dflt := 0, lo := 0, hi := 1 },
  { name := "BASE", first := 0xD100, count := 64, subLo := 0x03, subHi := 0x03, ty := .u64, access := .rw, group := none, dflt := 0, lo := 0, hi := 0xFFFFFFFFFFFFFFFF },
  { name := "BASE", first := 0xD140, count := 64, subLo := 0x03, subHi := 0x03, ty := .u64, access := .rw, group := none, dflt := 0, lo := 0, hi := 0xFFFFFFFFFFFFFFFF },
  { name := "BASE", first := 0xD180, count := 16, subLo := 0x03, subHi := 0x03, ty := .u64, access := .rw, group := none, dflt := 0, lo := 0, hi := 0xFFFFFFFFFFFFFFFF },
  { name := "ENTRIES", first := 0xD100, count := 64, subLo := 0x04, subHi := 0x04, ty := .u32, access := .rw, group := none, dflt := 1024, lo := 0, hi := 0xFFFFFFFF },
  { name := "ENTRIES", first := 0xD140, count := 64, subLo := 0x04, subHi := 0x04, ty := .u32, access := .rw, group := none, dflt := 1024, lo := 0, hi := 0xFFFFFFFF },
  { name := "ENTRIES", first := 0xD180, count := 16, subLo := 0x04, subHi := 0x04, ty := .u32, access := .rw, group := none, dflt := 256, lo := 0, hi := 0xFFFFFFFF },
  { name := "VECTOR", first := 0xD100, count := 64, subLo := 0x05, subHi := 0x05, ty := .u8, access := .rw, group := none, dflt := 0, lo := 0, hi := 0xFF },
  { name := "VECTOR", first := 0xD140, count := 64, subLo := 0x05, subHi := 0x05, ty := .u8, access := .rw, group := none, dflt := 0, lo := 0, hi := 0xFF },
  { name := "VECTOR", first := 0xD180, count := 16, subLo := 0x05, subHi := 0x05, ty := .u8, access := .rw, group := none, dflt := 0, lo := 0, hi := 0xFF },
  { name := "MODERATION_US", first := 0xD100, count := 64, subLo := 0x06, subHi := 0x06, ty := .u16, access := .rw, group := none, dflt := 0, lo := 0, hi := 0x3E8 },
  { name := "MODERATION_US", first := 0xD140, count := 64, subLo := 0x06, subHi := 0x06, ty := .u16, access := .rw, group := none, dflt := 0, lo := 0, hi := 0x3E8 },
  { name := "MODERATION_US", first := 0xD180, count := 16, subLo := 0x06, subHi := 0x06, ty := .u16, access := .rw, group := none, dflt := 0, lo := 0, hi := 0x3E8 },
  { name := "ENTRIES_DONE", first := 0xD100, count := 64, subLo := 0x07, subHi := 0x07, ty := .u64, access := .ro, group := none, dflt := 0, lo := 0, hi := 0xFFFFFFFFFFFFFFFF },
  { name := "ENTRIES_DONE", first := 0xD140, count := 64, subLo := 0x07, subHi := 0x07, ty := .u64, access := .ro, group := none, dflt := 0, lo := 0, hi := 0xFFFFFFFFFFFFFFFF },
  { name := "ENTRIES_DONE", first := 0xD180, count := 16, subLo := 0x07, subHi := 0x07, ty := .u64, access := .ro, group := none, dflt := 0, lo := 0, hi := 0xFFFFFFFFFFFFFFFF },
  { name := "DMA_ERRORS", first := 0xD100, count := 64, subLo := 0x08, subHi := 0x08, ty := .u64, access := .ro, group := none, dflt := 0, lo := 0, hi := 0xFFFFFFFFFFFFFFFF },
  { name := "DMA_ERRORS", first := 0xD140, count := 64, subLo := 0x08, subHi := 0x08, ty := .u64, access := .ro, group := none, dflt := 0, lo := 0, hi := 0xFFFFFFFFFFFFFFFF },
  { name := "DMA_ERRORS", first := 0xD180, count := 16, subLo := 0x08, subHi := 0x08, ty := .u64, access := .ro, group := none, dflt := 0, lo := 0, hi := 0xFFFFFFFFFFFFFFFF },
  { name := "RX_DISABLED_DROPS", first := 0xD100, count := 64, subLo := 0x09, subHi := 0x09, ty := .u64, access := .ro, group := none, dflt := 0, lo := 0, hi := 0xFFFFFFFFFFFFFFFF },
  { name := "RX_NO_BUFFER_DROPS", first := 0xD100, count := 64, subLo := 0x0A, subHi := 0x0A, ty := .u64, access := .ro, group := none, dflt := 0, lo := 0, hi := 0xFFFFFFFFFFFFFFFF },
  { name := "RX_TOO_LONG_DROPS", first := 0xD100, count := 64, subLo := 0x0B, subHi := 0x0B, ty := .u64, access := .ro, group := none, dflt := 0, lo := 0, hi := 0xFFFFFFFFFFFFFFFF },
  { name := "COMP_BASE", first := 0xD180, count := 16, subLo := 0x0C, subHi := 0x0C, ty := .u64, access := .rw, group := none, dflt := 0, lo := 0, hi := 0xFFFFFFFFFFFFFFFF },
  { name := "COMP_TAIL_ADDR", first := 0xD180, count := 16, subLo := 0x0D, subHi := 0x0D, ty := .u64, access := .rw, group := none, dflt := 0, lo := 0, hi := 0xFFFFFFFFFFFFFFFF }]

/-- Rows of indices 0xDxxx. -/
def objRowsD : List ObjRow := objRowsD_0

/-- Rows of indices 0xExxx, part 0. -/
def objRowsE_0 : List ObjRow := [
  { name := "SVID_MAP", first := 0xE200, count := 1, subLo := 0x01, subHi := 0x01, ty := (.domain 16384 4), access := .rws, group := some 1, dflt := 0, lo := 0, hi := 0 },
  { name := "PARSE_GRAPH", first := 0xE300, count := 1, subLo := 0x01, subHi := 0x01, ty := (.domain 32768 128), access := .rws, group := some 2, dflt := 0, lo := 0, hi := 0 },
  { name := "KEY_PROFILES", first := 0xE301, count := 1, subLo := 0x01, subHi := 0x01, ty := (.domain 8192 128), access := .rws, group := some 2, dflt := 0, lo := 0, hi := 0 },
  { name := "TCAM_ROWS", first := 0xE400, count := 64, subLo := 0x01, subHi := 0x01, ty := (.domain 0 1), access := .rws, group := some 3, dflt := 0, lo := 0, hi := 0 },
  { name := "TCAM_VALID", first := 0xE440, count := 64, subLo := 0x01, subHi := 0x01, ty := (.domain 8 8), access := .rws, group := some 3, dflt := 0, lo := 0, hi := 0 },
  { name := "EM_COMMAND", first := 0xE500, count := 64, subLo := 0x01, subHi := 0x01, ty := (.domain 4032 64), access := .wos, group := some 4, dflt := 0xfc0, lo := 0, hi := 0 },
  { name := "EM_RESULT", first := 0xE540, count := 64, subLo := 0x01, subHi := 0x01, ty := (.domain 1008 16), access := .ro, group := none, dflt := 0, lo := 0, hi := 0 },
  { name := "LPM_COMMAND", first := 0xE600, count := 1, subLo := 0x01, subHi := 0x01, ty := (.domain 4032 64), access := .wos, group := some 5, dflt := 0xfc0, lo := 0, hi := 0 },
  { name := "LPM_RESULT", first := 0xE601, count := 1, subLo := 0x01, subHi := 0x01, ty := (.domain 1008 16), access := .ro, group := none, dflt := 0, lo := 0, hi := 0 },
  { name := "VRF_TABLE", first := 0xE602, count := 1, subLo := 0x01, subHi := 0x01, ty := (.domain 131072 32), access := .rws, group := some 5, dflt := 0, lo := 0, hi := 0 },
  { name := "SA_TABLE", first := 0xE700, count := 1, subLo := 0x01, subHi := 0x01, ty := (.domain 2097152 32), access := .rws, group := some 7, dflt := 0, lo := 0, hi := 0 },
  { name := "SA_KEYS", first := 0xE701, count := 1, subLo := 0x01, subHi := 0x01, ty := (.domain 8388608 128), access := .wos, group := some 7, dflt := 0, lo := 0, hi := 0 },
  { name := "SA_STATE", first := 0xE702, count := 1, subLo := 0x01, subHi := 0x01, ty := (.domain 2097152 32), access := .ro, group := none, dflt := 0, lo := 0, hi := 0 },
  { name := "SA_COUNTERS", first := 0xE703, count := 1, subLo := 0x01, subHi := 0x01, ty := (.domain 4194304 64), access := .rm, group := none, dflt := 0, lo := 0, hi := 0 },
  { name := "ADMISSION_TABLE", first := 0xE800, count := 1, subLo := 0x01, subHi := 0x01, ty := (.domain 16896 16), access := .rws, group := some 8, dflt := 0, lo := 0, hi := 0 },
  { name := "ADMISSION_STATUS", first := 0xE801, count := 1, subLo := 0x01, subHi := 0x01, ty := (.domain 33792 32), access := .rm, group := none, dflt := 0, lo := 0, hi := 0 },
  { name := "MCAST_GROUPS", first := 0xE802, count := 1, subLo := 0x01, subHi := 0x01, ty := (.domain 131072 8), access := .rws, group := some 8, dflt := 0, lo := 0, hi := 0 },
  { name := "MCAST_MEMBERS", first := 0xE803, count := 1, subLo := 0x01, subHi := 0x01, ty := (.domain 16777216 4), access := .rws, group := some 8, dflt := 0, lo := 0, hi := 0 },
  { name := "METERS", first := 0xE900, count := 1, subLo := 0x01, subHi := 0x01, ty := (.domain 1048576 32), access := .rws, group := some 10, dflt := 0, lo := 0, hi := 0 },
  { name := "METER_STATE", first := 0xE901, count := 1, subLo := 0x01, subHi := 0x01, ty := (.domain 1048576 32), access := .rm, group := none, dflt := 0, lo := 0, hi := 0 },
  { name := "METER_COUNTERS", first := 0xE902, count := 1, subLo := 0x01, subHi := 0x01, ty := (.domain 1048576 32), access := .rm, group := none, dflt := 0, lo := 0, hi := 0 },
  { name := "SCHED_QUEUES", first := 0xE910, count := 1, subLo := 0x01, subHi := 0x01, ty := (.domain 1048576 16), access := .rws, group := some 9, dflt := 0, lo := 0, hi := 0 },
  { name := "SCHED_TENANT_NODES", first := 0xE911, count := 1, subLo := 0x01, subHi := 0x01, ty := (.domain 262144 16), access := .rws, group := some 9, dflt := 0, lo := 0, hi := 0 },
  { name := "SCHED_GROUPS", first := 0xE912, count := 1, subLo := 0x01, subHi := 0x01, ty := (.domain 65536 16), access := .rws, group := some 9, dflt := 0, lo := 0, hi := 0 },
  { name := "QUEUE_STATUS", first := 0xE913, count := 1, subLo := 0x01, subHi := 0x01, ty := (.domain 2097152 32), access := .rm, group := none, dflt := 0, lo := 0, hi := 0 },
  { name := "SAMPLE_SELECT", first := 0xE914, count := 1, subLo := 0x01, subHi := 0x01, ty := (.domain 8192 8), access := .rw, group := none, dflt := 0, lo := 0, hi := 0 },
  { name := "LEDGER", first := 0xEA00, count := 1, subLo := 0x01, subHi := 0x01, ty := (.domain 131072 32), access := .ro, group := none, dflt := 0, lo := 0, hi := 0 },
  { name := "EVENT_CONFIG", first := 0xEB00, count := 1, subLo := 0x01, subHi := 0x01, ty := (.domain 4096 4), access := .rws, group := some 14, dflt := 0, lo := 0, hi := 0 },
  { name := "EVENT_STATUS", first := 0xEB01, count := 1, subLo := 0x01, subHi := 0x01, ty := (.domain 16384 16), access := .ro, group := none, dflt := 0, lo := 0, hi := 0 },
  { name := "COUNTER_PAGES", first := 0xEB02, count := 1, subLo := 0x01, subHi := 0x01, ty := (.domain 16777216 16), access := .rm, group := none, dflt := 0, lo := 0, hi := 0 },
  { name := "COUNTER_PAGE_MAP", first := 0xEB03, count := 1, subLo := 0x01, subHi := 0x01, ty := (.domain 16384 4), access := .rw, group := none, dflt := 0, lo := 0, hi := 0 },
  { name := "BANK_COUNTERS", first := 0xEB10, count := 25, subLo := 0x01, subHi := 0x01, ty := (.domain 8192 8), access := .rm, group := none, dflt := 0, lo := 0, hi := 0 },
  { name := "RX_RING_MAP", first := 0xEC00, count := 1, subLo := 0x01, subHi := 0x01, ty := (.domain 1024 4), access := .rws, group := some 15, dflt := 0, lo := 0, hi := 0 }]

/-- Rows of indices 0xExxx. -/
def objRowsE : List ObjRow := objRowsE_0

/-- The rows whose index has top digit `n` (Table 2-1). -/
def objRows (n : Nat) : List ObjRow :=

  if n == 0x0 then objRows0
  else if n == 0x1 then objRows1
  else if n == 0x2 then objRows2
  else if n == 0x3 then objRows3
  else if n == 0x4 then objRows4
  else if n == 0x5 then objRows5
  else if n == 0x6 then objRows6
  else if n == 0x7 then objRows7
  else if n == 0x8 then objRows8
  else if n == 0x9 then objRows9
  else if n == 0xA then objRowsA
  else if n == 0xB then objRowsB
  else if n == 0xC then objRowsC
  else if n == 0xD then objRowsD
  else if n == 0xE then objRowsE
  else []

end Sys2Proof.Machine
end

