-- ==== Sys2Proof/Machine/Bits.lean ====
section
/-!
DEFINITION. Bit fields, byte strings and byte orders (R1, R4, R45).  Numbers are natural numbers;
a byte string is a list of bytes, first byte first.
-/
namespace Sys2Proof.Machine

/-- The field `[msb:lsb]` of a number (R1). -/
def bits (v msb lsb : Nat) : Nat := (v >>> lsb) % 2 ^ (msb + 1 - lsb)

/-- Bit `n` of a number (R1). -/
def bit (v n : Nat) : Bool := v.testBit n

/-- A Boolean as a number. -/
def b2n (b : Bool) : Nat := if b then 1 else 0

/-- The number with bit `n` set or cleared. -/
def setBit (v n : Nat) (b : Bool) : Nat :=
  if v.testBit n = b then v else if b then v + 2 ^ n else v - 2 ^ n

/-- The lowest `width` bits. -/
def low (width v : Nat) : Nat := v % 2 ^ width

/-- Addition that wraps at `width` bits. -/
def wrapAdd (width a b : Nat) : Nat := (a + b) % 2 ^ width

/-- Addition that stops at the largest value of `width` bits. -/
def satAdd (width a b : Nat) : Nat := min (a + b) (2 ^ width - 1)

/-- The unsigned `width`-bit pattern of an integer. -/
def ofInt (width : Nat) (i : Int) : Nat := (i % (2 ^ width : Nat)).toNat

/-- The two's complement value of a `width`-bit pattern (Table 2-2). -/
def toSigned (width v : Nat) : Int :=
  if v % 2 ^ width < 2 ^ (width - 1) then (v % 2 ^ width : Nat) else ((v % 2 ^ width : Nat) : Int) - (2 ^ width : Nat)

/-- A byte of value `v`. -/
def byte (v : Nat) : Byte := BitVec.ofNat 8 v

/-- `n` bytes of a number, most significant byte first (R4). -/
def beBytes : Nat → Nat → Bytes
  | 0, _ => []
  | n + 1, v => byte (v / 256 ^ n) :: beBytes n v

/-- `n` bytes of a number, least significant byte first (R4). -/
def leBytes : Nat → Nat → Bytes
  | 0, _ => []
  | n + 1, v => byte v :: leBytes n (v / 256)

/-- The number a byte string spells, most significant byte first. -/
def beNat (b : Bytes) : Nat := b.foldl (fun a x => a * 256 + x.toNat) 0

/-- The number a byte string spells, least significant byte first. -/
def leNat (b : Bytes) : Nat := b.foldr (fun x a => a * 256 + x.toNat) 0

/-- Byte `i` of a string, zero past its end. -/
def byteAt (b : Bytes) (i : Nat) : Nat := (b.getD i 0).toNat

/-- `n` zero bytes. -/
def zeros (n : Nat) : Bytes := List.replicate n 0

/-- `n` bytes from offset `o`, zero past the end of the string. -/
def slice (b : Bytes) (o n : Nat) : Bytes :=
  let t := (b.drop o).take n
  t ++ zeros (n - t.length)

/-- The string cut or padded with zero bytes to `n`. -/
def fit (n : Nat) (b : Bytes) : Bytes := slice b 0 n

/-- The number in `n` bytes at offset `o`, most significant byte first. -/
def beAt (b : Bytes) (o n : Nat) : Nat := beNat (slice b o n)

/-- The number in `n` bytes at offset `o`, least significant byte first. -/
def leAt (b : Bytes) (o n : Nat) : Nat := leNat (slice b o n)

/-- Write a string over another at offset `o`, within its length. -/
def splice (b : Bytes) (o : Nat) (w : Bytes) : Bytes :=
  b.take o ++ w.take (b.length - o) ++ b.drop (o + w.length)

/-- `w` bits from bit offset `o`, bit 0 the most significant bit of byte 0. -/
def bitsAt (b : Bytes) (o w : Nat) : Nat :=
  let first := o / 8
  let last := (o + w + 7) / 8
  (beNat (slice b first (last - first)) >>> (last * 8 - (o + w))) % 2 ^ w

/-- Bytewise exclusive or, to the length of the shorter. -/
def xorBytes (a b : Bytes) : Bytes := List.zipWith (fun x y => x ^^^ y) a b

/-- `⌈a / b⌉`. -/
def ceilDiv (a b : Nat) : Nat := (a + b - 1) / b

/-- The bits of the union of two masks. -/
def orMask (a b : Nat) : Nat := a ||| b

/-- Whether every bit of a 16-bit mask is outside another. -/
def disjointMask (a b : Nat) : Bool := a &&& b = 0

/-- Truncating division of integers (pseudocode division). -/
def tdiv (a b : Int) : Int := Int.tdiv a b

/-- The positions below `n` whose bit is set, lowest first. -/
def setBits (n v : Nat) : List Nat := (List.range n).filter (fun i => v.testBit i)

/-- The ASCII bytes of a string. -/
def ascii (s : String) : Bytes := s.toList.map (fun c => byte c.toNat)

/-- Chunks of `n` bytes, with fuel for the count. -/
def chunksAux (n : Nat) : Nat → Bytes → List Bytes
  | 0, _ => []
  | f + 1, b => if b.isEmpty then [] else b.take n :: chunksAux n f (b.drop n)

/-- The string in pieces of `n` bytes, the last perhaps shorter. -/
def chunks (n : Nat) (b : Bytes) : List Bytes := chunksAux n (b.length + 1) b

end Sys2Proof.Machine
end

