-- ==== Sys2Proof/Machine/ParseGraph.lean ====
section
/-!
DEFINITION. The parse graph: the node record (Tables 5-1 to 5-5), the walk of a frame over it
(R138 to R152, Tables 5-6, 5-8 and 5-9), the parse summary (Tables 5-11 and 5-12), the key builder's
selectors (R153, Tables 5-13 and 5-14), and the vendor default graph (Tables 5-7 and 5-10).
Everything here is a function of the frame's bytes and the graph's bytes.
-/
namespace Sys2Proof.Machine

/-- A node record of 128 bytes (R138). -/
structure PNode where
  w0 : Nat
  w1 : Nat
  xs : List Nat
  edges : List Nat
  deriving DecidableEq, Repr

/-- The record in 128 bytes of the domain. -/
def PNode.ofBytes (b : Bytes) : PNode :=
  { w0 := beAt b 0 8, w1 := beAt b 8 8
    xs := (List.range 4).map (fun i => beAt b (16 + 4 * i) 4)
    edges := (List.range 16).map (fun e => beAt b (32 + 6 * e) 6) }

/-- Table 5-1 [63]. -/
def PNode.valid (n : PNode) : Bool := bit n.w0 63
/-- Table 5-1 [62]. -/
def PNode.miss (n : PNode) : Bool := bit n.w0 62
/-- Table 5-1 [61]. -/
def PNode.latchEn (n : PNode) : Bool := bit n.w0 61
/-- Table 5-1 [60]. -/
def PNode.keyProfileSet (n : PNode) : Bool := bit n.w0 60
/-- Table 5-1 [55:49]. -/
def PNode.headerType (n : PNode) : Nat := bits n.w0 55 49
/-- Table 5-1 [47:46]. -/
def PNode.lenMode (n : PNode) : Nat := bits n.w0 47 46
/-- Table 5-1 [45:44]. -/
def PNode.lenScale (n : PNode) : Nat := 2 ^ bits n.w0 45 44
/-- Table 5-1 [43:35]. -/
def PNode.lenConst (n : PNode) : Nat := bits n.w0 43 35
/-- Table 5-1 [34:26]. -/
def PNode.lenOff (n : PNode) : Nat := bits n.w0 34 26
/-- Table 5-1 [25:22], width. -/
def PNode.lenWidth (n : PNode) : Nat := bits n.w0 25 22 + 1
/-- Table 5-1 [21:16]. -/
def PNode.keyProfile (n : PNode) : Nat := bits n.w0 21 16
/-- Table 5-2 [63]. -/
def PNode.selLatch (n : PNode) : Bool := bit n.w1 63
/-- Table 5-2 [62:59], width. -/
def PNode.selWidth (n : PNode) : Nat := bits n.w1 62 59 + 1
/-- Table 5-2 [58:50]. -/
def PNode.selOff (n : PNode) : Nat := bits n.w1 58 50
/-- Table 5-2 [49:41]. -/
def PNode.latchOff (n : PNode) : Nat := bits n.w1 49 41

/-- Header type codes of Table 5-6. -/
inductive HType where
  | plain | ethernet | vlanTag | mpls | ipv4 | ipv6 | ipv6Ext | ipv6Fragment | udp | tcp | icmp
  | vxlan | geneve | gre | esp | sectag | sth
  deriving DecidableEq, Repr

/-- The type of a code; reserved codes cannot be stored (R139) and read as OPAQUE. -/
def HType.ofCode (c : Nat) : HType :=
  match c with
  | 1 => .ethernet | 2 => .vlanTag | 3 => .mpls | 4 => .ipv4 | 5 => .ipv6 | 6 => .ipv6Ext
  | 7 => .ipv6Fragment | 8 => .udp | 9 => .tcp | 10 => .icmp | 11 => .vxlan | 12 => .geneve
  | 13 => .gre | 14 => .esp | 15 => .sectag | 16 => .sth | _ => .plain

/-- The record rules of R139 on one 128-byte record. -/
def PNode.recordOk (n : PNode) : Bool :=
  let edgeOk (e : Nat) : Bool :=
    bits e 36 32 == 0
    && (if bit e 45 then decide (bits e 44 37 ≤ 5) else true)
    && (if bit e 47 then (bits e 31 16 &&& (0xFFFF - bits e 15 0)) == 0 else true)
  let xOk (x : Nat) : Bool :=
    bits x 9 0 == 0 && (if bit x 31 then decide (bits x 16 10 + bits x 21 17 + 1 ≤ 128) else true)
  bits n.w0 59 56 == 0 && bits n.w0 48 48 == 0 && bits n.w0 15 0 == 0
  && decide (n.headerType ≤ 0x10) && decide (n.lenMode ≤ 1)
  && bits n.w1 40 0 == 0
  && (if n.selLatch then bits n.w1 62 50 == 0 else true)
  && n.xs.all xOk && n.edges.all edgeOk

/-- Whether the node's selector counts under R145. -/
def PNode.selCounts (n : PNode) : Bool :=
  !n.selLatch && n.edges.any (fun e => bit e 47 && bits e 15 0 != 0)

/-- The limits of Table 5-8 that the parse profile sets. -/
structure ParseLimits where
  maxDepth : Nat
  maxHeaders : Nat
  maxTunnel : Nat
  deriving DecidableEq, Repr

/-- The state of a walk: what has been counted, found and copied so far, and the nodes whose records have been read. -/
structure Walk where
  visits : Nat := 0
  headers : Nat := 0
  level : Nat := 0
  latch : Nat := 0
  key : Bytes := zeros 128
  profile : Option Nat := none
  enclosing : Option Nat := none
  ethAt : Option Nat := none
  exts : Nat := 0
  padded : Bool := false
  sthSeen : Bool := false
  outerCkBad : Option Bool := none
  innerCkBad : Bool := false
  outerL2 : Nat := 0
  outerL3 : Nat := 0
  outerL4 : Nat := 0
  innerL2 : Nat := 0
  innerL3 : Nat := 0
  innerL4 : Nat := 0
  tunnel : Nat := 0
  sec : Nat := 0
  lastNode : Nat := 0
  lastType : HType := .plain
  reads : List Nat := []
  deriving DecidableEq, Repr

/-- How a parse ended: at END with the payload offset (R149), or in a trap with its reason, the node and the
node's frame offset (R148); `ecc` marks an uncorrectable node record (R143). -/
inductive ParseEnd where
  | done (payload : Nat)
  | trap (reason node offset : Nat) (ecc : Bool)
  deriving DecidableEq, Repr

/-- The 16-bit ones' complement sum of an IPv4 header is all ones when its checksum is right. -/
def ipv4SumOk (b : Bytes) : Bool :=
  let s := (List.range (b.length / 2)).foldl (fun a i => a + beAt b (2 * i) 2) 0
  let s1 := s % 65536 + s / 65536
  let s2 := s1 % 65536 + s1 / 65536
  s2 == 0xFFFF

/-- The computed length of a node at frame offset `o` (R140 step 1). -/
def PNode.length (n : PNode) (f : Bytes) (o : Nat) : Nat :=
  if n.lenMode == 1 then bitsAt f (8 * o + n.lenOff) n.lenWidth * n.lenScale + n.lenConst else n.lenConst

/-- The last byte, exclusive, that a field of a node at `o` needs. -/
def fieldEnd (o off width : Nat) : Nat := o + (off + width + 7) / 8

/-- The ends of the fields that count under R145. -/
def PNode.countedEnds (n : PNode) (o : Nat) : List Nat :=
  (if n.selCounts then [fieldEnd o n.selOff n.selWidth] else [])
  ++ (if n.latchEn then [fieldEnd o n.latchOff 16] else [])
  ++ (if n.lenMode == 1 then [fieldEnd o n.lenOff n.lenWidth] else [])

/-- The datagram length D of an IP header at `o`. -/
def datagramLength (t : HType) (f : Bytes) (o : Nat) : Nat :=
  match t with
  | .ipv4 => beAt f (o + 2) 2
  | .ipv6 => 40 + beAt f (o + 4) 2
  | _ => 0

/-- Test 2 of Table 5-9 that a header type carries: the version and reserved-bit checks of Table 5-6.  A byte beyond the frame's
last reads as zero here, so that a truncated header can end in PARSE_UNKNOWN before R145 is tested (DESIGN CHOICE, log entry 58). -/
def versionBad (t : HType) (f : Bytes) (o : Nat) : Bool :=
  match t with
  | .ipv4 => byteAt f o / 16 != 4
  | .ipv6 => byteAt f o / 16 != 6
  | .geneve => byteAt f o / 64 != 0
  | .gre => bitsAt f (8 * o + 1) 1 != 0 || bitsAt f (8 * o + 4) 9 != 0 || bitsAt f (8 * o + 13) 3 != 0
  | .sth => byteAt f o / 16 != 0
  | _ => false

/-- The length checks of Table 5-6 for a node at `o` whose enclosing end is `e`. -/
def typeLengthBad (t : HType) (f : Bytes) (o e : Nat) : Bool :=
  match t with
  | .ipv4 => decide (byteAt f o % 16 < 5) || decide (beAt f (o + 2) 2 < byteAt f o % 16 * 4)
  | .udp => decide (beAt f (o + 4) 2 < 8) || decide (o + beAt f (o + 4) 2 ≠ e)
  | .tcp => decide (byteAt f (o + 12) / 16 < 5)
  | _ => false

/-- The padding exception of R144. -/
def paddingOk (w : Walk) (e : Nat) : Bool :=
  match w.ethAt with
  | some a => decide (e - a = 60)
  | none => false

/-- The FRAGMENT checks of Table 5-6. -/
def fragmentBad (t : HType) (f : Bytes) (o : Nat) : Bool :=
  match t with
  | .ipv4 => bitsAt f (8 * (o + 6) + 2) 14 != 0
  | .ipv6Fragment => true
  | _ => false

/-- The OPTIONS checks of Table 5-6. -/
def optionsBad (t : HType) (w : Walk) (f : Bytes) (o : Nat) : Bool :=
  match t with
  | .ipv4 => decide (byteAt f o % 16 > 5)
  | .ipv6Ext => decide (w.exts + 1 ≥ 5)
  | _ => false

/-- The tests of a node that its record takes no part in: a 49th visit, and the tunnel level (Table 5-8). -/
def Walk.barred (w : Walk) (lim : ParseLimits) : Bool := decide (48 < w.visits) || decide (lim.maxTunnel < w.level)

/-- Tests 1 to 5 of Table 5-9 on a node at `o`; `n` is the frame length before the FCS and `unc` says that the
record read was uncorrectable (R143).  The walk's `visits` and `level` already include this node.  An IP node's own end is held
against the end that encloses its datagram, since its datagram's end is held against the same by Table 5-6; where a custom node is
longer than its own datagram R145 leaves it open which end counts (DESIGN CHOICE, log entry 52). -/
def nodeTests (lim : ParseLimits) (f : Bytes) (w : Walk) (node : PNode) (unc : Bool) (o : Nat) : Option Nat :=
  let n := f.length
  let len := node.length f o
  let t := HType.ofCode node.headerType
  let e := w.enclosing.getD n
  let ends := node.countedEnds o
  if w.barred lim then some 0x01
  else if (len > 0 ∧ w.headers + 1 > lim.maxHeaders) ∨ o + len > lim.maxDepth
      ∨ ends.any (fun x => decide (x > lim.maxDepth)) then some 0x01
  else if unc || !node.valid || versionBad t f o then some 0x04
  else if ((t == .ipv4 || t == .ipv6)
        && (decide (o + datagramLength t f o > e)
            || (decide (o + datagramLength t f o < e) && !paddingOk w e)))
      || decide (o + len > n)
      || (match w.enclosing with | some d => decide (o + len > d) | none => false)
      || ends.any (fun x => decide (x > n))
      || typeLengthBad t f o e then some 0x02
  else if fragmentBad t f o then some 0x03
  else if optionsBad t w f o then some 0x05
  else none

/-- The extractions of a node in the order X0 to X3 (R140, R141). -/
def extractAll (lim : ParseLimits) (f : Bytes) (o : Nat) (xs : List Nat) (key : Bytes) : Bytes :=
  let limit := min f.length lim.maxDepth
  let src := f.take limit
  xs.foldl (fun k x =>
    if bit x 31 then splice k (bits x 16 10) (slice src (o + bits x 30 22) (bits x 21 17 + 1)) else k) key

/-- A locator (R152). -/
def locator (code o : Nat) : Nat := code * 512 + o % 512

/-- First of a kind keeps its locator. -/
def firstOf (old new : Nat) : Nat := if old = 0 then new else old

/-- Record a node that passed its tests: locators, enclosing end, checksum flags and counts.  Where a tunnel level has two ETHERNET
nodes, R144 measures its 60 bytes from the one visited last (DESIGN CHOICE, log entry 58). -/
def Walk.record (w : Walk) (f : Bytes) (node : PNode) (idx o : Nat) : Walk :=
  let t := HType.ofCode node.headerType
  let len := node.length f o
  let loc := locator node.headerType o
  let isL2 := t == .ethernet
  let isL3 := t == .ipv4 || t == .ipv6 || t == .mpls
  let isL4 := t == .udp || t == .tcp || t == .icmp
  let n := f.length
  let e := w.enclosing.getD n
  let isIp := t == .ipv4 || t == .ipv6
  let ckBad := !ipv4SumOk (slice f o 20)
  { w with
    headers := if len > 0 then w.headers + 1 else w.headers
    enclosing := if isIp then some (o + datagramLength t f o) else w.enclosing
    padded := w.padded || (isIp && decide (o + datagramLength t f o < e))
    ethAt := if isL2 then some o else w.ethAt
    exts := if t == .ipv6 then 0 else if t == .ipv6Ext then w.exts + 1 else w.exts
    sthSeen := w.sthSeen || t == .sth
    outerCkBad := if t == .ipv4 && w.level == 0 && w.outerCkBad.isNone then some ckBad else w.outerCkBad
    innerCkBad := if t == .ipv4 && decide (w.level > 0) then ckBad else w.innerCkBad
    outerL2 := if isL2 && w.level == 0 then firstOf w.outerL2 loc else w.outerL2
    outerL3 := if isL3 && w.level == 0 then firstOf w.outerL3 loc else w.outerL3
    outerL4 := if isL4 && w.level == 0 then firstOf w.outerL4 loc else w.outerL4
    innerL2 := if isL2 then firstOf w.innerL2 loc else w.innerL2
    innerL3 := if isL3 then firstOf w.innerL3 loc else w.innerL3
    innerL4 := if isL4 then firstOf w.innerL4 loc else w.innerL4
    tunnel := if t == .vxlan || t == .geneve || t == .gre then loc else w.tunnel
    sec := if t == .esp || t == .sectag || t == .sth then loc else w.sec
    lastNode := idx
    lastType := t }

/-- Taking a DESCEND edge: the next tunnel level, whose inner locators and ETHERNET node are its own (R146, R152). -/
def Walk.descend (w : Walk) : Walk :=
  { w with level := w.level + 1, innerL2 := 0, innerL3 := 0, innerL4 := 0, ethAt := none }

/-- What selecting an edge gives: the next node or END, each with the edge's DESCEND, or a terminal trap. -/
inductive EdgePick where
  | next (node : Nat) (descend : Bool)
  | stop (descend : Bool)
  | trap (reason : Nat)
  deriving DecidableEq, Repr

/-- Steps 7 and 8 of R140. -/
def PNode.pick (n : PNode) (selector : Nat) : EdgePick :=
  match n.edges.find? (fun e => bit e 47 && (selector &&& bits e 15 0) == bits e 31 16) with
  | some e =>
    if bit e 45 then (if bits e 44 37 = 0 then .stop (bit e 46) else .trap (bits e 44 37))
    else .next (bits e 44 37) (bit e 46)
  | none => if n.miss then .trap 0x04 else .stop false

/-- Steps 3 to 6 of R140 on a node that passed its tests, and its selector. -/
def Walk.visit (w : Walk) (lim : ParseLimits) (f : Bytes) (node : PNode) (idx o : Nat) : Walk × Nat :=
  let w1 := w.record f node idx o
  let w2 := if node.latchEn then { w1 with latch := bitsAt f (8 * o + node.latchOff) 16 } else w1
  let w3 := { w2 with key := extractAll lim f o node.xs w2.key }
  let w4 := if node.keyProfileSet then { w3 with profile := some node.keyProfile } else w3
  (w4, if node.selLatch then w4.latch else bitsAt f (8 * o + node.selOff) node.selWidth)

/-- The walk (R140, R147): `graph` gives each node's record and whether its read is uncorrectable.  An ESP or SECTAG
node ends the parse (R149).  An edge with DESCEND = 1 to END raises the tunnel level too (R146); where that exceeds MAX_TUNNEL the
parse ends in PARSE_DEPTH at the node that holds the edge, since no node follows to apply the test (DESIGN CHOICE, log entry 58). -/
def walkFrom (graph : Nat → PNode × Bool) (lim : ParseLimits) (f : Bytes) :
    Nat → Walk → Nat → Nat → Walk × ParseEnd
  | 0, w, idx, o => ({ w with lastNode := idx }, .trap 0x01 idx o false)
  | fuel + 1, w0, idx, o =>
    let w1 := { w0 with visits := w0.visits + 1 }
    let w := if w1.barred lim then w1 else { w1 with reads := idx :: w1.reads }
    let node := (graph idx).1
    match nodeTests lim f w node (graph idx).2 o with
    | some r => ({ w with lastNode := idx }, .trap r idx o ((graph idx).2 && r == 0x04))
    | none =>
      let (w', sel) := w.visit lim f node idx o
      match (if w'.lastType = .esp ∨ w'.lastType = .sectag then EdgePick.stop false else node.pick sel) with
      | .trap r => (w', .trap r idx o false)
      | .stop d =>
        let w'' := if d then w'.descend else w'
        if lim.maxTunnel < w''.level then (w'', .trap 0x01 idx o false) else (w'', .done (o + node.length f o))
      | .next j d => walkFrom graph lim f fuel (if d then w'.descend else w') j (o + node.length f o)

/-- The whole parse of a frame (bytes before the FCS) from a start node. -/
def parseFrame (graph : Nat → PNode × Bool) (lim : ParseLimits) (f : Bytes) (start : Nat) : Walk × ParseEnd :=
  walkFrom graph lim f 50 {} start 0

/-- The four words of the parse summary (Tables 5-11 and 5-12). -/
def summaryWords (ingressPort tenant cls pass : Nat) (parity : Bool) (frameLen : Nat) (stag : Bool)
    (keyProfile : Nat) (w : Walk) (payload : Nat) : List Nat :=
  [ low 8 ingressPort * 2 ^ 56 + low 12 tenant * 2 ^ 44 + low 3 cls * 2 ^ 41 + low 3 pass * 2 ^ 38
      + b2n parity * 2 ^ 37 + low 14 frameLen * 2 ^ 23 + low 5 w.headers * 2 ^ 18 + low 3 w.level * 2 ^ 15
      + low 6 keyProfile * 2 ^ 9
  , low 10 payload * 2 ^ 54 + low 16 w.latch * 2 ^ 38 + b2n w.padded * 2 ^ 7
      + b2n (w.lastType == .esp) * 2 ^ 6 + b2n (w.lastType == .sectag) * 2 ^ 5 + b2n w.sthSeen * 2 ^ 4
      + b2n stag * 2 ^ 3 + b2n w.innerCkBad * 2 + b2n (w.outerCkBad.getD false)
  , w.outerL2 * 2 ^ 48 + w.outerL3 * 2 ^ 32 + w.outerL4 * 2 ^ 16 + w.innerL2
  , w.innerL3 * 2 ^ 48 + w.innerL4 * 2 ^ 32 + w.tunnel * 2 ^ 16 + w.sec ]

/-- The 32 summary bytes, word 0 first, each most significant byte first. -/
def summaryBytes (ws : List Nat) : Bytes := ws.flatMap (beBytes 8)

/-- The 80-byte built key (R153, Table 5-13). -/
def buildKey (profile key summary : Bytes) : Bytes :=
  (List.range 80).map (fun k =>
    let s := byteAt profile k
    if s < 0x80 then key.getD s 0 else if s < 0xA0 then summary.getD (s - 0x80) 0 else 0)

/-- A lookup descriptor of a key profile (Table 5-14). -/
structure PreLookup where
  kind : Nat
  slot : Nat
  table : Nat
  keyOff : Nat
  keyLen : Nat
  deriving DecidableEq, Repr

/-- The valid descriptors P0 to P3 of a profile. -/
def preLookups (profile : Bytes) : List PreLookup :=
  (List.range 4).filterMap (fun i =>
    let d := beAt profile (80 + 8 * i) 8
    if bit d 63 then some ⟨bits d 62 61, bits d 60 59, bits d 55 48, bits d 47 41, bits d 40 34⟩ else none)

/-- The record rules of R154 on one 128-byte profile. -/
def keyProfileOk (b : Bytes) : Bool :=
  let sels := (List.range 80).all (fun k => decide (byteAt b k < 0xA0) || byteAt b k == 0xFF)
  let ds := (List.range 4).map (fun i => beAt b (80 + 8 * i) 8)
  let dOk (d : Nat) : Bool :=
    decide (bits d 62 61 ≤ 2) && bits d 58 56 == 0 && bits d 33 0 == 0
    && (if bits d 62 61 = 2 then decide (bits d 55 48 ≤ 1) else true)
    && (if bit d 63 then
          decide (bits d 47 41 + bits d 40 34 ≤ 80) && bits d 40 34 != 0 else true)
    && (if bits d 62 61 = 2 then
          bits d 40 34 == (if bits d 55 48 = 0 then 4 else 16) else true)
  let slots := (ds.filter (fun d => bit d 63)).map (fun d => bits d 60 59)
  sels && ds.all dOk && decide slots.Nodup && beAt b 112 16 == 0

/-! ### The vendor default graph (Tables 5-7 and 5-10) -/

/-- Word 0 of a valid default node: type and length rule. -/
def nodeW0 (htype lenField lenConst lenOff lenWidth scale : Nat) (latch : Bool) : Nat :=
  2 ^ 63 + b2n latch * 2 ^ 61 + htype * 2 ^ 49 + lenField * 2 ^ 46 + scale * 2 ^ 44 + lenConst * 2 ^ 35
    + lenOff * 2 ^ 26 + (lenWidth - 1) * 2 ^ 22

/-- Word 1 with a selector of `w` bits at `o` and a latch offset. -/
def nodeW1 (o w latchOff : Nat) : Nat := (w - 1) * 2 ^ 59 + o * 2 ^ 50 + latchOff * 2 ^ 41

/-- Word 1 with the latch as selector. -/
def nodeW1Latch : Nat := 2 ^ 63

/-- An edge to a node. -/
def edgeTo (value mask next : Nat) (descend : Bool) : Nat :=
  2 ^ 47 + b2n descend * 2 ^ 46 + next * 2 ^ 37 + value * 2 ^ 16 + mask

/-- An edge to a terminal code. -/
def edgeTrap (value mask code : Nat) : Nat := 2 ^ 47 + 2 ^ 45 + code * 2 ^ 37 + value * 2 ^ 16 + mask

/-- A valid extraction of `len` bytes at `src` to key-area byte `dest` (Table 5-3). -/
def xtr (src len dest : Nat) : Nat := 2 ^ 31 + src * 2 ^ 22 + (len - 1) * 2 ^ 17 + dest * 2 ^ 10

/-- The 128 bytes of a record. -/
def nodeBytes (w0 w1 : Nat) (xs edges : List Nat) : Bytes :=
  beBytes 8 w0 ++ beBytes 8 w1
  ++ (List.range 4).flatMap (fun i => beBytes 4 (xs.getD i 0))
  ++ (List.range 16).flatMap (fun i => beBytes 6 (edges.getD i 0))

/-- Exact-match edges on 16 bits. -/
def eq16 (vs : List Nat) (next : Nat) : List Nat := vs.map (fun v => edgeTo v 0xFFFF next false)

/-- Exact-match edges on 8 bits. -/
def eq8 (vs : List Nat) (next : Nat) : List Nat := vs.map (fun v => edgeTo v 0xFF next false)

/-- The protocol edges of the IPv6 nodes and their extension nodes. -/
def ipv6Edges (ext tcp udp icmp v4 v6 : Nat) : List Nat :=
  eq8 [0, 43, 60] ext ++ eq8 [44] 10 ++ eq8 [6] tcp ++ eq8 [17] udp ++ eq8 [58] icmp ++ eq8 [47] 23
  ++ eq8 [50] 14 ++ [edgeTo 4 0xFF v4 true, edgeTo 41 0xFF v6 true]
  ++ [135, 139, 140].map (fun v => edgeTrap v 0xFF 5) ++ [edgeTrap 0xFC 0xFC 5]

/-- The protocol edges of the IPv4 nodes. -/
def ipv4Edges (icmp tcp udp v4 v6 : Nat) : List Nat :=
  eq8 [1] icmp ++ eq8 [6] tcp ++ eq8 [17] udp ++ eq8 [47] 23 ++ eq8 [50] 14
  ++ [edgeTo 4 0xFF v4 true, edgeTo 41 0xFF v6 true]

/-- The UDP port edges. -/
def udpEdges : List Nat :=
  eq16 [4789] 28 ++ eq16 [6081] 29 ++ [edgeTo 6635 0xFFFF 41 true]

/-- The edges of the GRE option nodes. -/
def greEdges : List Nat :=
  [edgeTo 0x0800 0xFFFF 35 true, edgeTo 0x86DD 0xFFFF 36 true, edgeTo 0x6558 0xFFFF 32 true,
   edgeTo 0x8847 0xFFFF 41 true]

/-- The L3 edges that follow an outer tag. -/
def outerL3Edges : List Nat := eq16 [0x0800] 7 ++ eq16 [0x86DD] 8 ++ eq16 [0x8847, 0x8848] 15

/-- The L3 edges that follow an inner Ethernet header or tag. -/
def innerL3Edges : List Nat := eq16 [0x0800] 35 ++ eq16 [0x86DD] 36 ++ eq16 [0x8847, 0x8848] 41

/-- Two exact edges to a trap. -/
def tagTrap : List Nat := [edgeTrap 0x8100 0xFFFF 1, edgeTrap 0x88A8 0xFFFF 1]

/-- The MPLS edges of a stack whose bottom leads to `v4` or `v6`. -/
def mplsEdges (next : Nat) (v4 v6 : Nat) : List Nat :=
  [edgeTo 0 0x8000 next false, edgeTo 0x8020 0x8078 v4 false, edgeTo 0x8030 0x8078 v6 false]

/-- The record of default node `n` (Table 5-7, with the extractions of Table 5-10). -/
def defaultNode (n : Nat) : Bytes :=
  match n with
  | 0 => nodeBytes (nodeW0 1 0 14 0 1 0 false) (nodeW1 96 16 0) [xtr 0 12 0, xtr 12 2 16]
      (eq16 [0x8100, 0x88A8] 2 ++ eq16 [0x88B5] 1 ++ outerL3Edges ++ eq16 [0x88E5] 6)
  | 1 => nodeBytes (nodeW0 16 0 8 0 1 0 false) (nodeW1 48 16 0) [xtr 6 2 16]
      (eq16 [0x8100, 0x88A8] 2 ++ outerL3Edges)
  | 2 => nodeBytes (nodeW0 2 0 4 0 1 0 false) (nodeW1 16 16 0) [xtr 0 2 12, xtr 2 2 16]
      (eq16 [0x8100, 0x88A8] 3 ++ outerL3Edges)
  | 3 => nodeBytes (nodeW0 2 0 4 0 1 0 false) (nodeW1 16 16 0) [xtr 0 2 14, xtr 2 2 16]
      (eq16 [0x8100, 0x88A8] 4 ++ outerL3Edges)
  | 4 => nodeBytes (nodeW0 2 0 4 0 1 0 false) (nodeW1 16 16 0) [xtr 2 2 16]
      (eq16 [0x8100, 0x88A8] 5 ++ outerL3Edges)
  | 5 => nodeBytes (nodeW0 2 0 4 0 1 0 false) (nodeW1 16 16 0) [xtr 2 2 16] (tagTrap ++ outerL3Edges)
  | 6 => nodeBytes (nodeW0 15 1 6 2 1 3 false) (nodeW1 0 1 0) [xtr 6 8 18] []
  | 7 => nodeBytes (nodeW0 4 1 0 4 4 2 false) (nodeW1 72 8 0)
      [xtr 12 4 26, xtr 16 4 42, xtr 9 1 58, xtr 8 1 59] (ipv4Edges 13 12 11 35 36)
  | 8 => nodeBytes (nodeW0 5 0 40 0 1 0 false) (nodeW1 48 8 0)
      [xtr 8 16 26, xtr 24 16 42, xtr 6 1 58, xtr 7 1 59] (ipv6Edges 9 12 11 13 35 36)
  | 9 => nodeBytes (nodeW0 6 1 8 8 8 3 false) (nodeW1 0 8 0) [xtr 0 1 58] (ipv6Edges 9 12 11 13 35 36)
  | 10 => nodeBytes (nodeW0 7 0 8 0 1 0 false) (nodeW1 0 1 0) [] []
  | 11 => nodeBytes (nodeW0 8 0 8 0 1 0 false) (nodeW1 16 16 0) [xtr 0 4 60] udpEdges
  | 12 => nodeBytes (nodeW0 9 1 0 96 4 2 false) (nodeW1 0 1 0) [xtr 0 4 60] []
  | 13 => nodeBytes (nodeW0 10 0 8 0 1 0 false) (nodeW1 0 1 0) [xtr 0 2 60] []
  | 14 => nodeBytes (nodeW0 14 0 8 0 1 0 false) (nodeW1 0 1 0) [xtr 0 4 18] []
  | 23 => nodeBytes (nodeW0 13 0 4 0 1 0 true) (nodeW1 0 16 16) []
      ([edgeTo 0x0000 0xB000 27 false] ++ [0x8000, 0x2000, 0x1000].map (fun v => edgeTo v 0xB000 24 false)
       ++ [0xA000, 0x9000, 0x3000].map (fun v => edgeTo v 0xB000 25 false) ++ [edgeTo 0xB000 0xB000 26 false])
  | 24 => nodeBytes (nodeW0 0 0 4 0 1 0 false) nodeW1Latch [] greEdges
  | 25 => nodeBytes (nodeW0 0 0 8 0 1 0 false) nodeW1Latch [] greEdges
  | 26 => nodeBytes (nodeW0 0 0 12 0 1 0 false) nodeW1Latch [] greEdges
  | 27 => nodeBytes (nodeW0 0 0 0 0 1 0 false) nodeW1Latch [] greEdges
  | 28 => nodeBytes (nodeW0 11 0 8 0 1 0 false) (nodeW1 0 1 0) [xtr 4 4 120] [edgeTo 0 0 32 true]
  | 29 => nodeBytes (nodeW0 12 1 8 2 6 2 false) (nodeW1 16 16 0) [xtr 4 4 120]
      [edgeTo 0x6558 0xFFFF 32 true, edgeTo 0x0800 0xFFFF 35 true, edgeTo 0x86DD 0xFFFF 36 true]
  | 32 => nodeBytes (nodeW0 1 0 14 0 1 0 false) (nodeW1 96 16 0) [xtr 0 12 64, xtr 12 2 78]
      (eq16 [0x8100, 0x88A8] 33 ++ innerL3Edges)
  | 33 => nodeBytes (nodeW0 2 0 4 0 1 0 false) (nodeW1 16 16 0) [xtr 0 2 76, xtr 2 2 78]
      (eq16 [0x8100, 0x88A8] 34 ++ innerL3Edges)
  | 34 => nodeBytes (nodeW0 2 0 4 0 1 0 false) (nodeW1 16 16 0) [xtr 2 2 78] (tagTrap ++ innerL3Edges)
  | 35 => nodeBytes (nodeW0 4 1 0 4 4 2 false) (nodeW1 72 8 0)
      [xtr 12 4 80, xtr 16 4 96, xtr 9 1 112, xtr 8 1 113] (ipv4Edges 40 39 38 35 36)
  | 36 => nodeBytes (nodeW0 5 0 40 0 1 0 false) (nodeW1 48 8 0)
      [xtr 8 16 80, xtr 24 16 96, xtr 6 1 112, xtr 7 1 113] (ipv6Edges 37 39 38 40 35 36)
  | 37 => nodeBytes (nodeW0 6 1 8 8 8 3 false) (nodeW1 0 8 0) [xtr 0 1 112] (ipv6Edges 37 39 38 40 35 36)
  | 38 => nodeBytes (nodeW0 8 0 8 0 1 0 false) (nodeW1 16 16 0) [xtr 0 4 114] udpEdges
  | 39 => nodeBytes (nodeW0 9 1 0 96 4 2 false) (nodeW1 0 1 0) [xtr 0 4 114] []
  | 40 => nodeBytes (nodeW0 10 0 8 0 1 0 false) (nodeW1 0 1 0) [xtr 0 2 114] []
  | n =>
    if 15 ≤ n ∧ n ≤ 22 then
      nodeBytes (nodeW0 3 0 4 0 1 0 false) (nodeW1 23 16 0) (if n = 15 then [xtr 0 4 124] else [])
        (if n = 22 then
          [edgeTrap 0 0x8000 1, edgeTo 0x8020 0x8078 7 false, edgeTo 0x8030 0x8078 8 false]
         else mplsEdges (n + 1) 7 8)
    else if 41 ≤ n ∧ n ≤ 48 then
      nodeBytes (nodeW0 3 0 4 0 1 0 false) (nodeW1 23 16 0) (if n = 41 then [xtr 0 4 124] else [])
        (if n = 48 then
          [edgeTrap 0 0x8000 1, edgeTo 0x8020 0x8078 35 false, edgeTo 0x8030 0x8078 36 false]
         else mplsEdges (n + 1) 35 36)
    else zeros 128

/-- The default profile: key profile 0 selects key-area bytes 0-63 and summary bytes 0-15; the others nothing. -/
def defaultKeyProfile (k : Nat) : Bytes :=
  if k = 0 then
    (List.range 64).map byte ++ (List.range 16).map (fun i => byte (0x80 + i)) ++ zeros 48
  else List.replicate 80 0xFF ++ zeros 48

end Sys2Proof.Machine
end

