-- ==== Sys2Proof/Machine/Assoc.lean ====
section
/-!
DEFINITION. Sparse data by a natural-number key, in one canonical form: keys strictly rising and no entry equal to
what an unlisted key reads as.  Memories (`Host.Cell` lists), the object dictionary and every table of
records of the model have this form.
-/
namespace Sys2Proof.Machine

/-- A list of key and value pairs. -/
abbrev Assoc (α : Type) := List (Nat × α)

/-- The value listed for a key. -/
def Assoc.find {α : Type} : Assoc α → Nat → Option α
  | [], _ => none
  | (k, v) :: l, j => if j = k then some v else Assoc.find l j

/-- The value a key reads as: the listed one, else the default. -/
def Assoc.getD {α : Type} (l : Assoc α) (dflt : Nat → α) (k : Nat) : α :=
  (l.find k).getD (dflt k)

/-- Put a value at a key, in place or in order. -/
def Assoc.put {α : Type} : Assoc α → Nat → α → Assoc α
  | [], j, w => [(j, w)]
  | (k, v) :: l, j, w =>
    if j < k then (j, w) :: (k, v) :: l
    else if j = k then (j, w) :: l
    else (k, v) :: Assoc.put l j w

/-- Remove every entry of a key. -/
def Assoc.drop {α : Type} : Assoc α → Nat → Assoc α
  | [], _ => []
  | (k, v) :: l, j => if j = k then Assoc.drop l j else (k, v) :: Assoc.drop l j

/-- Write a key: writing what an unlisted key reads as removes the entry. -/
def Assoc.set {α : Type} [DecidableEq α] (l : Assoc α) (dflt : Nat → α) (k : Nat) (v : α) : Assoc α :=
  if v = dflt k then l.drop k else l.put k v

/-- Keys strictly rising. -/
def Assoc.sorted {α : Type} : Assoc α → Bool
  | [] => true
  | [_] => true
  | (k, _) :: (j, w) :: l => decide (k < j) && Assoc.sorted ((j, w) :: l)

/-- The canonical form: keys strictly rising and no listed default. -/
def Assoc.wf {α : Type} [DecidableEq α] (l : Assoc α) (dflt : Nat → α) : Bool :=
  l.sorted && l.all (fun e => decide (e.2 ≠ dflt e.1))

/-- The listed keys. -/
def Assoc.keys {α : Type} (l : Assoc α) : List Nat := l.map Prod.fst

/-- The listed values. -/
def Assoc.vals {α : Type} (l : Assoc α) : List α := l.map Prod.snd

end Sys2Proof.Machine
end

