-- ==== Sys2Proof/Machine/Hash.lean ====
section
/-!
DEFINITION. Cyclic redundancy checks: the CRC-32C of R182 (RFC 3720: reflected, no final inversion, seed
given), and the CRC-32 of the Ethernet FCS and of structures that name it.
-/
namespace Sys2Proof.Machine

/-- `n` shifts of a reflected CRC register. -/
def crcShift (poly : Nat) : Nat → Nat → Nat
  | 0, r => r
  | n + 1, r => crcShift poly n (if r % 2 = 1 then (r / 2) ^^^ poly else r / 2)

/-- One byte into a reflected CRC register. -/
def crcByte (poly r : Nat) (b : Byte) : Nat := crcShift poly 8 (r ^^^ b.toNat)

/-- CRC-32C with a seed and no final inversion (R182). -/
def crc32c (seed : Nat) (b : Bytes) : Nat := b.foldl (crcByte 0x82F63B78) seed

/-- CRC-32 of IEEE 802.3, initialised to ones and inverted at the end. -/
def crc32 (b : Bytes) : Nat := (b.foldl (crcByte 0xEDB88320) 0xFFFFFFFF) ^^^ 0xFFFFFFFF

/-- The four FCS bytes of a frame in the order they are sent. -/
def fcsBytes (f : Bytes) : Bytes := leBytes 4 (crc32 f)

/-- The frame without its last four bytes. -/
def dropFcs (b : Bytes) : Bytes := b.take (b.length - 4)

/-- Whether the last four bytes are the FCS of those before them. -/
def fcsOk (b : Bytes) : Bool := decide (b.length ≥ 4) && decide (b.drop (b.length - 4) = fcsBytes (dropFcs b))

/-- One bit into the CRC-8 of Table 14-2, most significant first. -/
def crc8Bit (r : Nat) (b : Bool) : Nat :=
  let t := (r * 2) % 256
  if r.testBit 7 != b then t ^^^ 0x07 else t

/-- CRC-8 of the 56 bits of a fuse row's DATA (Table 14-2). -/
def crc8 (data : Nat) : Nat := (List.range 56).foldl (fun r i => crc8Bit r (data.testBit (55 - i))) 0xFF

/-- One byte into the same CRC-8, most significant bit first. -/
def crc8Byte (r : Nat) (b : Byte) : Nat := (List.range 8).foldl (fun r i => crc8Bit r (b.toNat.testBit (7 - i))) r

/-- The packet error code of an SMBus read: the CRC-8 of x^8 + x^2 + x + 1 from 0 over the address with its write bit, the command,
the address with its read bit, and the data (PRESUMED, the SMBus specification that R451 names, log entry 57). -/
def smbusPec (address command : Nat) (data : Bytes) : Byte :=
  byte (([byte (2 * address), byte command, byte (2 * address + 1)] ++ data).foldl crc8Byte 0)

/-- A fuse row: CHECK over DATA (Table 14-2). -/
def fuseWord (data : Nat) : Nat := crc8 data * 2 ^ 56 + data

/-- The DATA of row `i` of `n` rows that hold a value of `w` bits, most significant bits in the lowest row (R379); the
bits of the last row below the value are zero. -/
def fuseData (n w v i : Nat) : Nat := (v * 2 ^ (56 * n - w) / 2 ^ (56 * (n - 1 - i))) % 2 ^ 56

end Sys2Proof.Machine
end

