-- ==== Sys2Proof/Machine/Microcode.lean ====
section
/-!
DEFINITION. The packet engines' instruction words and datapath: microword (Table 7-5), nanoword
(Tables 7-7 to 7-15), ALU (Table 7-9, R209), header window (R205, R206), the rewrite descriptor (Table 7-16)
and the egress editor (R223, R224), as functions of plain values.
-/
namespace Sys2Proof.Machine

/-! ### Field extraction -/

/-- Table 7-5 NANO. -/
def mwNano (w : Nat) : Nat := bits w 47 36
/-- Table 7-5 TARGET. -/
def mwTarget (w : Nat) : Nat := bits w 35 22
/-- Table 7-5 CSEL. -/
def mwCsel (w : Nat) : Nat := bits w 21 18
/-- Table 7-5 SEQ. -/
def mwSeq (w : Nat) : Nat := bits w 17 15
/-- Table 7-5 DST. -/
def mwDst (w : Nat) : Nat := bits w 14 10
/-- Table 7-5 SRCA. -/
def mwSrcA (w : Nat) : Nat := bits w 9 5
/-- Table 7-5 SRCB. -/
def mwSrcB (w : Nat) : Nat := bits w 4 0

/-- Sequencing modes of Table 7-6. -/
inductive Seq where
  | next | jump | way2 | way4 | way16 | yield | call | stop
  deriving DecidableEq, Repr

/-- The mode of a code. -/
def Seq.ofCode (c : Nat) : Seq :=
  match c with
  | 0 => .next | 1 => .jump | 2 => .way2 | 3 => .way4 | 4 => .way16 | 5 => .yield | 6 => .call | _ => .stop

/-- Table 7-7 ALU_A. -/
def nwAluA (n : Nat) : Nat := bits n 255 224
/-- Table 7-7 ALU_B. -/
def nwAluB (n : Nat) : Nat := bits n 223 192
/-- Table 7-7 WINDOW. -/
def nwWindow (n : Nat) : Nat := bits n 191 144
/-- Table 7-7 LOOKUP. -/
def nwLookup (n : Nat) : Nat := bits n 143 112
/-- Table 7-7 ACTION. -/
def nwAction (n : Nat) : Nat := bits n 111 80
/-- Table 7-7 SIDE. -/
def nwSide (n : Nat) : Nat := bits n 79 48
/-- Table 7-7 IMMEDIATE. -/
def nwImm (n : Nat) : Nat := bits n 47 16

/-! ### ALU -/

/-- A 64-bit value modulo 2^64. -/
def w64 (v : Nat) : Nat := v % 2 ^ 64

/-- `a - b` modulo 2^64. -/
def sub64 (a b : Nat) : Nat := (a + 2 ^ 64 - b) % 2 ^ 64

/-- The number of 1 bits of a 64-bit value. -/
def popcount (v : Nat) : Nat := (setBits 64 v).length

/-- The value of an ALU operation (Table 7-9); `stat` is the lookup status RDSTAT reads. -/
def aluValue (op pos width a b stat : Nat) : Nat :=
  match op with
  | 0x00 => a
  | 0x01 => w64 (a + b)
  | 0x02 => sub64 a b
  | 0x03 => a &&& b
  | 0x04 => a ||| b
  | 0x05 => a ^^^ b
  | 0x06 => a &&& (2 ^ 64 - 1 - b)
  | 0x07 => w64 (a <<< pos)
  | 0x08 => a >>> pos
  | 0x09 => w64 (a <<< pos) ||| (a >>> (64 - pos))
  | 0x0A => (a >>> pos) % 2 ^ (width + 1)
  | 0x0B =>
    let n := min (width + 1) (64 - pos)
    let mask := (2 ^ n - 1) <<< pos
    (a &&& (2 ^ 64 - 1 - mask)) ||| ((b % 2 ^ n) <<< pos)
  | 0x0C => sub64 a b
  | 0x0D => a &&& b
  | 0x0E => min a b
  | 0x0F => max a b
  | 0x10 => let s := a % 65536 + b % 65536; s % 65536 + s / 65536
  | 0x11 => crc32c 0 (beBytes 8 a ++ beBytes 8 b)
  | 0x12 => beNat (leBytes 8 a)
  | 0x13 => popcount a
  | 0x14 => stat
  | _ => a

/-- The flag nibble of R209 in the order of Table 7-4: Z bit 0, C bit 1, N bit 2, V bit 3. -/
def aluFlags (op a b value : Nat) : Nat :=
  let sub := op == 0x02 || op == 0x0C
  let c := if op == 0x01 then decide (a + b ≥ 2 ^ 64) else if sub then decide (a < b) else false
  let sa := toSigned 64 a
  let sb := toSigned 64 b
  let exact : Int := if op == 0x01 then sa + sb else sa - sb
  let v := if op == 0x01 || sub then decide (exact ≠ toSigned 64 value) else false
  b2n (value == 0) + 2 * b2n c + 4 * b2n (bit value 63) + 8 * b2n v

/-- Whether an operation writes its destination register: CMP and TEST do not (R209). -/
def aluWrites (op : Nat) : Bool := op != 0x0C && op != 0x0D

/-! ### Header window -/

/-- The window and its edit extent. -/
structure Window where
  bytes : Bytes := []
  eIn : Nat := 0
  eOut : Nat := 0
  first : Nat := 0
  deriving DecidableEq, Repr

/-- WLEN: the number of valid window bytes; `first` is W of Table 7-2. -/
def Window.len (w : Window) : Nat := min 256 (w.eOut + w.first - w.eIn)

/-- Whether an operation at offset `q` touching `t` bytes with new extent change `n` fails (R205). -/
def Window.fails (w : Window) (q t : Nat) (insert : Nat) : Bool :=
  decide (q + t > w.len) || decide (max w.eOut (q + t) + insert > 256)

/-- The extent after covering up to `q + t`. -/
def Window.reach (w : Window) (q t : Nat) : Window :=
  let reach := max w.eOut (q + t)
  { w with eIn := w.eIn + (reach - w.eOut), eOut := reach }

/-- The window's bytes, at least 256 of them; original bytes that an INSERT moved beyond 256 stand behind. -/
def Window.padded (w : Window) : Bytes := w.bytes ++ zeros (256 - w.bytes.length)

/-- OVERWRITE of bytes at `q` (R206). -/
def Window.overwrite (w : Window) (q : Nat) (b : Bytes) : Window :=
  let w' := w.reach q b.length
  { w' with bytes := splice w.padded q b }

/-- INSERT of `n` zero bytes at `q`. -/
def Window.insert (w : Window) (q n : Nat) : Window :=
  let w' := w.reach q 0
  { w' with eOut := w'.eOut + n, bytes := w.padded.take q ++ zeros n ++ w.padded.drop q }

/-- DELETE of `n` bytes at `q`. -/
def Window.delete (w : Window) (q n : Nat) : Window :=
  let w' := w.reach q n
  { w' with eOut := w'.eOut - n, bytes := w.bytes.take q ++ w.bytes.drop (q + n) }

/-! ### The result of a thread (Table 7-16) -/

/-- Dispositions of Table 7-16. -/
inductive Disp where
  | forward | recirc | drop | trap
  deriving DecidableEq, Repr

/-- The rewrite descriptor with the window bytes that replace the head of the frame, and the cause of a drop that
the device itself decided (so that it is counted under it). -/
structure Result where
  disp : Disp := .forward
  port : Nat := 0xFF
  queue : Nat := 0
  mcast : Bool := false
  group : Nat := 0
  colour : Nat := 0
  cls : Nat := 0
  tenant : Nat := 0
  parity : Bool := false
  sthOp : Nat := 0
  sa : Option Nat := none
  meter : Option Nat := none
  torn : Bool := false
  domain : Nat := 0
  seq : Nat := 0
  reason : Nat := 0
  eIn : Nat := 0
  eOut : Nat := 0
  stopAddr : Nat := 0
  nextOd : Option Nat := none
  head : Bytes := []
  deriving DecidableEq, Repr

/-- The reason a TRAP carries (R212). -/
def trapReason (r : Nat) : Nat := if r = 0x06 ∨ r = 0x0B ∨ 0x80 ≤ r then r else 0x06

/-- Step 1 of R223: the window bytes, then the original from E_in. -/
def editHead (f : Bytes) (head : Bytes) (eIn : Nat) : Bytes := head ++ f.drop eIn

/-- An STH with zero flags (Table 4-7, R224). -/
def sthHeader (ethertype tenant cls : Nat) : Bytes :=
  beBytes 2 ethertype ++ beBytes 2 (low 12 tenant) ++ beBytes 4 (low 3 cls * 2 ^ 29)

/-- Whether bytes 12 and 13 hold the STH EtherType. -/
def hasSth (f : Bytes) (ethertype : Nat) : Bool := decide (f.length ≥ 14) && beAt f 12 2 == ethertype

/-- STH_OP on the frame left by step 1 (R224). -/
def applySth (op ethertype tenant cls : Nat) (f : Bytes) : Bytes :=
  let rewrite : Bytes :=
    let w := beAt f 12 8
    splice f 12 (beBytes 8
      (bits w 63 44 * 2 ^ 44 + low 12 tenant * 2 ^ 32 + low 3 cls * 2 ^ 29 + bits w 28 0))
  match op with
  | 1 => if tenant = 0 then f
         else if hasSth f ethertype then rewrite
         else f.take 12 ++ sthHeader ethertype tenant cls ++ f.drop 12
  | 2 => if hasSth f ethertype then f.take 12 ++ f.drop 20 else f
  | 3 => if tenant = 0 then f else if hasSth f ethertype then rewrite else f
  | _ => f

/-- Step 3 of R223: zero bytes to 60. -/
def pad60 (f : Bytes) : Bytes := f ++ zeros (60 - f.length)

/-- The edited frame before its FCS (R223). -/
def egressEdit (f : Bytes) (r : Result) (ethertype : Nat) : Bytes :=
  pad60 (applySth r.sthOp ethertype r.tenant r.cls (editHead f r.head r.eIn))

/-- The edited length with the FCS (R225). -/
def editedLength (f : Bytes) (r : Result) (ethertype : Nat) : Nat := (egressEdit f r ethertype).length + 4

/-! ### The loader's rules on an image (R207, R216) -/

/-- An ALU group (Tables 7-8, 7-9): its reserved bits are zero, and with EN 1 its operation is not reserved. -/
def aluGroupOk (g : Nat) (isA : Bool) : Bool :=
  (!isA || bits g 9 0 == 0) && (!bit g 31 || decide (bits g 30 26 ≤ 0x14))

/-- A WINDOW group (Table 7-10). -/
def windowGroupOk (g : Nat) : Bool := bits g 23 0 == 0 && decide (bits g 47 45 ≤ 5)

/-- A LOOKUP group (Table 7-11): its reserved bits are zero, and with EN 1 its fields are not reserved. -/
def lookupGroupOk (g : Nat) : Bool :=
  bits g 2 0 == 0
  && (!bit g 31
      || (decide (bits g 30 29 ≤ 2) && decide (bits g 18 17 ≤ 2) && decide (1 ≤ bits g 9 3) && decide (bits g 9 3 ≤ 80)
          && (bits g 30 29 != 2 || bits g 26 21 == 0)))

/-- The nanoword rules of R216. -/
def nanowordOk (n : Nat) : Bool :=
  aluGroupOk (nwAluA n) true && aluGroupOk (nwAluB n) false && windowGroupOk (nwWindow n)
  && lookupGroupOk (nwLookup n) && bits (nwAction n) 8 0 == 0 && bits (nwSide n) 19 0 == 0
  && decide (bits (nwSide n) 23 21 ≤ 4) && bits n 15 0 == 0

/-- The rules on a microword and the nanoword it drives: no bit above its 48, the WAY targets of R207, and VERIFY with SEQ
YIELD alone (R216). -/
def microwordOk (nano : List Nat) (w : Nat) : Bool :=
  decide (w < 2 ^ 48)
  && (match Seq.ofCode (mwSeq w) with
      | .way2 => mwTarget w % 2 == 0
      | .way4 => mwTarget w % 4 == 0
      | .way16 => mwTarget w % 16 == 0
      | _ => true)
  && (!bit (nwSide (nano.getD (mwNano w) 0)) 20 || mwSeq w == 5)

end Sys2Proof.Machine
end

