-- ==== Sys2Proof/Machine/State.lean ====
section
/-!
DEFINITION. The state of the block as plain data: the object dictionary, the service, and the state each
chapter of the spec gives its part of the device; the queue of waiting commands; and the state after reset.
Maps are `Assoc` lists in canonical form; a map of records has a default record, which an unlisted key reads as.
-/
namespace Sys2Proof.Machine

/-! ### The dictionary (chapters 02, 08) -/

/-- The values of the object dictionary.  A subindex is named `index * 256 + subindex`, a byte of a domain
`index * 2^32 + offset`.  `live` and `mem` hold what is not staged; the two storage copies of R236 hold the
staged subindices and the staged domains.  Unlisted keys read as the Default column (R8). -/
structure Dict where
  live : Assoc Nat := []
  copy0 : Assoc Nat := []
  copy1 : Assoc Nat := []
  mem : Assoc Byte := []
  mem0 : Assoc Byte := []
  mem1 : Assoc Byte := []
  deriving DecidableEq, Repr

/-- One island's copy of the generation pointer (R242): current parity, COPY_EVEN and COPY_ODD. -/
structure IslPtr where
  parity : Bool := false
  copyEven : Nat := 0
  copyOdd : Nat := 0
  deriving DecidableEq, Repr

/-- The working state of a front (Table 8-3), beside the objects of Table 8-7.  The census (R243): each island's cumulative
entries and leaves, keyed `island * 2 + parity`, and the final old-parity entry counts that acknowledgements have carried, keyed
by island. -/
structure Front where
  mask : Nat := 0
  boundUs : Nat := 0
  trap : Bool := false
  acks : List Nat := []
  stalled : Bool := false
  expiring : Bool := false
  expired : Nat := 0
  finalEntries : Nat := 0
  oldParity : Bool := false
  entries : Assoc Nat := []
  leaves : Assoc Nat := []
  finals : Assoc Nat := []
  deriving DecidableEq, Repr

/-! ### The Kaznu service (chapter 02) -/

/-- Where a request came from, and so where its response goes: a mailbox, a session's port and sender, or a tenant's
in-band frame with the port and class it came in and its bytes up to the EtherType. -/
inductive Source where
  | mailbox (fn : Nat)
  | session (n mport addr : Nat)
  | inband (tenant port cls : Nat) (head : Bytes)
  deriving DecidableEq, Repr

/-- A request waiting in the service: its source, the message bytes, and whether its response is to be discarded
(FLR or a closed session, Tables 2-16 and 8-5). -/
structure Waiting where
  src : Source
  msg : Bytes
  discard : Bool := false
  deriving DecidableEq, Repr

/-- A mailbox (Tables 2-13 to 2-16); a buffer shorter than its 4,096 bytes ends in zeros. -/
structure Mailbox where
  state : Nat := 0
  irqEn : Bool := false
  misuse : Nat := 0
  completions : Nat := 0
  request : Bytes := []
  response : Bytes := []
  deriving DecidableEq, Repr

/-- A management session (R75): the key held, the response kept, and the sequence number that is executing. -/
structure Session where
  key : Option Bytes := none
  kept : Option Bytes := none
  executing : Option Nat := none
  deriving DecidableEq, Repr

/-- The Kaznu service: waiting requests, the source served last (R52), a COMMIT whose response waits for the flip
(R59), the in-band token bucket (R77), per-master pool results (R293) and quotes, unresolved triplicated fields. -/
structure Svc where
  waiting : List Waiting := []
  lastServed : Nat := 48
  committing : Option Waiting := none
  mailboxes : Assoc Mailbox := []
  sessions : Assoc Session := []
  bucket : Nat := 64000000000
  bucketAt : Nat := 0
  authAt : Assoc Nat := []
  unresolved : List Nat := []
  poolResult : Assoc Nat := []
  poolQuery : Assoc Nat := []
  deriving DecidableEq, Repr

/-! ### Frost (chapter 03) -/

/-- The Frost of one function (Table 3-9): state code, when the request was taken, the soft deadline, and whether
its flush runs. -/
structure FrostFn where
  state : Nat := 0
  asked : Nat := 0
  deadline : Option Nat := none
  flushing : Bool := false
  deriving DecidableEq, Repr

/-! ### Frames and copies (chapters 05, 10) -/

/-- How a frame was identified. -/
inductive Tag where
  | none | stag | sth
  deriving DecidableEq, Repr

/-- Where a frame stands between the MAC and its consumer. -/
inductive Stage where
  | merge | injectWait | parser | decrypt | dispatchWait | thread | reorder | admitting | switched
  deriving DecidableEq, Repr

/-- A lookup slot of a frame (l0 to l3, Table 7-2). -/
structure Slot where
  pending : Bool := false
  word : Nat := 0
  status : Nat := 0
  deriving DecidableEq, Repr

/-- A frame in the device.  `bytes` are those before the FCS on its current pass; `port` is the port the pass
entered on and `origin` the port or ring the frame was received on. -/
structure Frame where
  bytes : Bytes := []
  port : Nat := 0
  origin : Nat := 0
  pg : Nat := 0
  tenant : Nat := 0
  cls : Nat := 0
  parity : Bool := false
  entered : Nat := 0
  pass : Nat := 1
  tag : Tag := .none
  stage : Stage := .merge
  since : Nat := 0
  mword : List Nat := List.replicate 8 0
  walked : Bool := false
  summary : List Nat := [0, 0, 0, 0]
  profile : Nat := 0
  key : Bytes := []
  slots : List Slot := List.replicate 4 {}
  secEnd : Nat := 0
  secOff : Nat := 0
  decrypted : Bool := false
  verdict : Option Bool := none
  verdictDue : Option Bool := none
  sa : Option Nat := none
  saNumber : Nat := 0
  nextOd : Option Nat := none
  reason : Nat := 0
  trapNode : Nat := 0
  trapOff : Nat := 0
  landed : Nat := 0
  domain : Nat := 0
  seq : Nat := 0
  result : Result := {}
  viaEngine : Bool := false
  denied : Bool := false
  cause : Nat := 0
  direct : Option (Nat × Nat) := none
  inband : Bool := false
  admitted : Nat := 0
  accounted : Nat := 0
  colour : Nat := 0
  expiredOnce : Bool := false
  deriving DecidableEq, Repr

/-- Where a copy stands: its cells being written, held by its resequencer, in its egress queue, or chosen. -/
inductive CopyStage where
  | transit | held | queued | chosen
  deriving DecidableEq, Repr

/-- A copy of an admitted frame (R299, R301); `released` once its chain reference has gone (R304). -/
structure Copy where
  frame : Nat := 0
  port : Nat := 0
  queue : Nat := 0
  cls : Nat := 0
  pg : Nat := 0
  seq : Nat := 0
  chain : Nat := 0
  cells : Nat := 0
  stage : CopyStage := .transit
  enqueued : Nat := 0
  out : Option Bytes := none
  needsCrypto : Bool := false
  released : Bool := false
  deriving DecidableEq, Repr

/-- A port group's queues of frame ids: the ingress merge (external frames in arrival order), the inject queue, the
four-wide pipeline stage, and the frames past it in dispatch order; which queue alternates next (R133), the
dispatcher's last cluster (R199), the admission slice pointer (R286), and each tenant's throttle credit (R349). -/
structure PgState where
  merge : List Nat := []
  inject : List Nat := []
  recircNext : Bool := false
  parser : List Nat := []
  keyq : List Nat := []
  admitting : List Nat := []
  lastCluster : Nat := 15
  slice : Nat := 0
  credit : Assoc Nat := []
  deriving DecidableEq, Repr

/-- The frame store. -/
structure Pkt where
  frames : Assoc Frame := []
  nextFrame : Nat := 0
  copies : Assoc Copy := []
  nextCopy : Nat := 0
  pgs : Assoc PgState := []
  graphErr : List Nat := []
  deriving DecidableEq, Repr

/-! ### Ports (chapter 04) -/

/-- A port's timers and holds (Tables 4-4 and 4-9). -/
structure PortState where
  timer : Nat := 0
  holdWindow : Nat := 0
  holdStale : Nat := 0
  tx : List Nat := []
  deriving DecidableEq, Repr

/-! ### Search (chapter 06) -/

/-- A ternary row (Tables 6-1 and 6-4) in the sequencer's golden copy: content, both validity bits, staged validity. -/
structure TcamRow where
  data : Nat := 0
  mask : Nat := 0
  prio : Nat := 0
  ad : Nat := 0
  even : Bool := false
  odd : Bool := false
  staged : Bool := false
  deriving DecidableEq, Repr

/-- A row of a tile (Table 6-1), its 80-bit column. -/
structure TileRow where
  data : Nat := 0
  mask : Nat := 0
  prio : Nat := 0
  odd : Bool := false
  even : Bool := false
  deriving DecidableEq, Repr

/-- A bucket way (Table 6-8). -/
structure Way where
  odd : Bool := false
  even : Bool := false
  sideValid : Bool := false
  sideParity : Bool := false
  fingerprint : Nat := 0
  record : Nat := 0
  sideRecord : Nat := 0
  deriving DecidableEq, Repr

/-- An exact-match record: key bytes 0-39 and associated data. -/
structure EmRecord where
  key : Nat := 0
  ad : Nat := 0
  deriving DecidableEq, Repr

/-- The kind of a staged exact-match operation (Table 6-9). -/
inductive EmOp where
  | insert | update | delete
  deriving DecidableEq, Repr

/-- A staged exact-match operation: table, way it will write, the new record, and whether it inserts again a key
that the same front deletes. -/
structure EmStaged where
  table : Nat
  op : EmOp
  key : Nat
  way : Nat
  record : Nat
  again : Bool
  deriving DecidableEq, Repr

/-- A lookup request waiting in a complex (R162, R170). -/
structure LookupReq where
  kind : Nat := 0
  table : Nat := 0
  key : Bytes := []
  vrf : Nat := 0
  vrfOk : Bool := true
  tenant : Nat := 0
  parity : Bool := false
  frame : Nat := 0
  pass : Nat := 0
  slot : Nat := 0
  deriving DecidableEq, Repr

/-- A result on its way to a slot. -/
structure LookupRes where
  frame : Nat
  pass : Nat
  slot : Nat
  word : Nat
  status : Nat
  deriving DecidableEq, Repr

/-- The SRH island: rows keyed `table * 2^17 + row`, ways keyed `table * 2^28 + bucket * 4 + way`, records keyed
`table * 2^29 + index`, routes keyed as `routeKey` says with one map per parity, staged operations, the
routes that the next front deletes and inserts again, queues, pending
batches and fills, the scrubber's address, failed stacks with the times of each one's last uncorrectable errors (R439), and a
cascade self-test that runs.  The tiles hold what the golden copy
gives them save the upset rows, keyed `(complex * 64 + tile) * 2048 + row` (R178); rows whose golden copy is lost (R192); and the
entries in error (R191), exact-match ones as `table * 2^320 + key` and routes by their keys. -/
structure Srh where
  rows : Assoc TcamRow := []
  ways : Assoc Way := []
  records : Assoc EmRecord := []
  emStaged : List EmStaged := []
  routesEven : Assoc Nat := []
  routesOdd : Assoc Nat := []
  lpmStaged : Assoc (Option Nat) := []
  lpmAgain : List Nat := []
  queues : Assoc (List LookupReq) := []
  results : List LookupRes := []
  rotation : Assoc Nat := []
  fills : List Nat := []
  clears : List Nat := []
  emBatch : Option (Nat × Nat) := none
  lpmBatch : Option Nat := none
  scrubAt : Nat := 0
  upsets : Assoc TileRow := []
  goldenErrors : List Nat := []
  entryErrors : List Nat := []
  routeErrors : List Nat := []
  failedStacks : Nat := 0
  hbmErrors : Assoc (List Nat) := []
  selftest : Bool := false
  deriving DecidableEq, Repr

/-! ### Engines (chapter 07) -/

/-- A side effect issued by a thread, on its way to SWC. -/
inductive SideEffect where
  | count (tenant counter bytes : Nat) (parity : Bool)
  | pool (op pool arg tenant frame : Nat) (parity : Bool)
  deriving DecidableEq, Repr

/-- Thread states of Table 7-1; WAITING is READY with a microword that waits under R197. -/
inductive ThreadState where
  | ready | ending
  deriving DecidableEq, Repr

/-- A thread that owns a frame (Tables 7-2 to 7-4): its registers, window and flags, its yield count, the engine cycle
it was dispatched at and the one it may issue at, the microwords it issued and the cycles it waited, its result so far,
the side effects its channel has not accepted, and the time, address and tenant of a pending sample (R374). -/
structure Thread where
  frame : Nat := 0
  state : ThreadState := .ready
  g : List Nat := List.replicate 16 0
  m : List Nat := List.replicate 8 0
  cursor : Nat := 0
  window : Window := {}
  flagsA : Nat := 0
  flagsB : Nat := 0
  user : Nat := 0
  hwFault : Bool := false
  verified : Bool := false
  poolPending : Bool := false
  poolOut : Nat := 0
  callRet : Option Nat := none
  pc : Nat := 0
  yieldCount : Nat := 0
  nextIssue : Nat := 0
  tenant : Nat := 0
  result : Result := {}
  sides : List SideEffect := []
  start : Nat := 0
  issued : Nat := 0
  waited : Nat := 0
  sample : Option (Nat × Nat × Nat) := none
  deriving DecidableEq, Repr

/-- An image held in a slot (R227, Table 7-18). -/
structure Image where
  id : Nat := 0
  version : Nat := 0
  hash : Nat := 0
  yieldBound : Nat := 0
  entries : List Nat := []
  micro : List Nat := []
  nano : List Nat := []
  deriving DecidableEq, Repr

/-- A cluster's load (Table 7-19), beside LOAD_STATE, and, while it is stopped, when it stopped, the AGE its mirror copies had
then (R55; 0xFFFF where none was captured since the reset), those copies by their objects' keys (R50), and MODE and SELECT0 to
SELECT7 of its bank as it last took them (R368). -/
structure Cluster where
  slot : Nat := 0
  wasActive : Bool := false
  resetPending : Bool := false
  autoPending : Bool := false
  image : Image := {}
  storeErrors : List Nat := []
  stoppedAt : Nat := 0
  stoppedAge : Nat := 0xFFFF
  mirror : Assoc Nat := []
  setting : List Nat := List.replicate 9 0
  deriving DecidableEq, Repr

/-- A small control store (Table 7-17). -/
structure SmallStore where
  micro : List Nat := []
  nano : List Nat := []
  pc : Nat := 0
  deriving DecidableEq, Repr

/-- The engine array: threads keyed `(cluster * 64 + engine) * 16 + thread`, the thread each engine issued last and
its cycle count, spent and returning credits keyed `pg * 16 + cluster`, order-domain counters, clusters, image slots,
small stores, the side effects each cluster's channel has accepted, and the switch core's answers to pool operations on their
way back, oldest first: the thread that asked, its code and its handle. -/
structure Eng where
  threads : Assoc Thread := []
  last : Assoc Nat := []
  cycle : Assoc Nat := []
  spent : Assoc Nat := []
  returning : Assoc Nat := []
  odSeq : Assoc Nat := []
  clusters : Assoc Cluster := []
  images : Assoc Image := []
  small : Assoc SmallStore := []
  channel : Assoc (List (Nat × SideEffect)) := []
  poolAnswers : List (Nat × Nat × Nat) := []
  deriving DecidableEq, Repr

/-! ### Crypto (chapter 09) -/

/-- The dynamic state of an SA (Table 9-3), its replay marks (R258), a delivered epoch that waits for its flip, and the
threshold of its KEY_SERIAL with whether event 513 has fired (R266, R282). -/
structure SaState where
  isSealed : Bool := false
  exhausted : Bool := false
  epoch : Nat := 0
  tx : Nat := 0
  rxHigh : Nat := 0
  serial : Nat := 0
  accepted : List Nat := []
  waiting : List Nat := []
  pendingEpoch : Option Nat := none
  mark : Nat := 0
  warned : Bool := false
  deriving DecidableEq, Repr

/-- Where a job came from: a ring, or a sector frame with its tenant, its class and the handle by which the job sequencer keeps
it (Table 9-10). -/
inductive JobSource where
  | ring (r : Nat)
  | sector (frame : Bytes) (tenant cls handle : Nat)
  deriving DecidableEq, Repr

/-- A sector job (Table 9-6 or 9-9) and, once started, what its context holds (Table 9-10): the byte it has reached and the
input that its reads find up to there; `forced` is the status a flush or a changed key gives it (R275, R278), and `waited` says that it has counted
in SQUALL_WAITS; `slot` is the slot of its ring that its descriptor stood in. -/
structure Job where
  source : JobSource := .ring 0
  src : Nat := 0
  dst : Nat := 0
  dun : Nat := 0
  length : Nat := 0
  sa : Nat := 0
  decrypt : Bool := false
  sealing : Bool := false
  cls : Nat := 0
  unit : Nat := 512
  cookie : Nat := 0
  data : Bytes := []
  serial : Option Nat := none
  loaded : Bytes := []
  keys : Bytes := []
  position : Nat := 0
  preemptions : Nat := 0
  master : Nat := 0
  forced : Option Nat := none
  waited : Bool := false
  slot : Nat := 0
  deriving DecidableEq, Repr

/-- The CRY island: SA states, those that old-parity frames began under while a front drains (R253), waiting jobs (oldest
first), suspended jobs, the job each engine runs, the source served last (R276), and waiting key deliveries.  The pipelines
(R262): the CRY cycle until which each is held, the frames and the copies that ask for one in arrival order, and whether the
last one went to ingress. -/
structure Cry where
  sas : Assoc SaState := []
  oldSas : Assoc SaState := []
  queue : List Job := []
  suspended : List Job := []
  running : Assoc Job := []
  lastSource : Nat := 16
  deliveries : List (Bytes × Nat × Nat) := []
  pipes : Assoc Nat := []
  inbound : List Nat := []
  outbound : List Nat := []
  inboundLast : Bool := false
  deriving DecidableEq, Repr

/-! ### Switch core (chapter 10) -/

/-- A chain by its head cell (Tables 10-1 and 10-2): the head record, its cells in order, the bytes
written into them (FILL), the thread that holds it, whether a flush releases it when that thread ends (R294), and the
(port, class) its cells are charged to as ingress. -/
structure Chain where
  allocated : Bool := false
  pool : Nat := 0
  refs : Nat := 0
  owner : Nat := 0
  cells : List Nat := []
  frame : Bool := false
  stored : Nat := 0
  holder : Option Nat := none
  doomed : Bool := false
  charge : Option (Nat × Nat) := none
  deriving DecidableEq, Repr

/-- An order domain of the engine reorder stage (R295): NEXT, the held results, and when NEXT last advanced. -/
structure OrderDomain where
  next : Nat := 0
  held : Assoc Nat := []
  since : Nat := 0
  deriving DecidableEq, Repr

/-- A stream of an output resequencer (R302): the next number to assign, NEXT, the held items (`none` a marker) and
the hole timer's start. -/
structure Stream where
  assign : Nat := 0
  next : Nat := 0
  held : Assoc (Option Nat) := []
  hole : Nat := 0
  deriving DecidableEq, Repr

/-- What has been served in a cycle: the cycle, the rank of the last one served in that cycle's order, and how often it was. -/
structure Turn where
  cycle : Nat := 0
  rank : Nat := 0
  count : Nat := 0
  deriving DecidableEq, Repr

/-- The SWC island: results waiting for the reorder stage per port group, order domains, chains keyed by head,
markers travelling (stream and number), streams keyed `(port * 4 + pg) * 8 + class`, the cells that hold an uncorrectable
error (R306), and what the admission pipelines have done in the present SWC cycle (R297, R317): the cycle, the place in its
order of the pipeline that acted last, and how many frames that one took; and the same for each pool slice's requesters (R290).  Releases of chain references that wait for their place in
their slice's order, oldest first: requester, tenant and head.  The cycle of the last meter update, and the time that all updates
of that cycle share (R317). -/
structure Swc where
  results : Assoc (List Nat) := []
  domains : Assoc OrderDomain := []
  chains : Assoc Chain := []
  markers : List (Nat × Nat) := []
  streams : Assoc Stream := []
  badCells : List Nat := []
  admTurn : Turn := {}
  poolTurns : Assoc Turn := []
  releases : List (Nat × Nat × Nat) := []
  meterNow : Option (Nat × Nat) := none
  deriving DecidableEq, Repr

/-! ### Traffic manager (chapter 11) -/

/-- A meter's buckets (Table 11-2). -/
structure MeterState where
  t1 : Nat := 0
  t2 : Nat := 0
  last : Nat := 0
  mode : Nat := 0
  deriving DecidableEq, Repr

/-- A scheduler node: its parent, its active children in list order, its own deficit and FRESH flag in its parent's
list, and its shaper: bucket (none: full at its burst), last update, and the rate and burst of the copy that governed
it. -/
structure SchedNode where
  parent : Nat := 0
  list : List Nat := []
  deficit : Int := 0
  fresh : Bool := true
  bucket : Option Int := none
  last : Nat := 0
  rate : Nat := 0
  burst : Nat := 0
  deriving DecidableEq, Repr

/-- The traffic manager: meters, nodes keyed by `Ops.nodeKey`, queues of copy ids, and sampling: the time of the last round
start, the round's number, the queues whose time in the round is not over and the part of the first's that is (in 16,000ths),
and the ring's PHASE. -/
structure Tm where
  meters : Assoc MeterState := []
  nodes : Assoc SchedNode := []
  queues : Assoc (List Nat) := []
  sampleAt : Nat := 0
  round : Nat := 0
  roundLeft : List Nat := []
  roundPart : Nat := 0
  phase : Bool := true
  deriving DecidableEq, Repr

/-! ### Barometer (chapter 12) -/

/-- A tick that an island has closed: the boundary's number, the counts and those of frames that throttling dropped, keyed
`category * 4096 + tenant`. -/
structure TickReport where
  boundary : Nat
  counts : List (Nat × Nat)
  thrown : List (Nat × Nat)
  deriving DecidableEq, Repr

/-- Barometer's working state, beside the objects of Tables 12-8 to 12-11: the islands' open-tick activity keyed
`(island * 10 + category) * 4096 + tenant` (lane bits in quarter bits) and the lane bits among it of frames that
admission throttling dropped; both as received by MGT for the open tick, keyed `category * 4096 + tenant`; the accounts
in µJ, their remainders in quarter fJ (account 4096 is STATIC, 4097 the device), the last 100 ticks of each tenant's
account and planning account and the last 1,024 of the device (newest first, quarter fJ); admission fractions, the
tenants over share, per-tenant drops keyed `tenant * 4 + kind`, the counts of Table 12-6, the end of the last closed
tick, the reports that islands have closed and MGT has not received, oldest first, the last export instant, and the objects of
group 11 as Barometer took them at its last tick (R239).  Lane bits that no frame has taken yet (R336): those counted in the open
tick less those of frames, in 10⁻⁶ quarter bits, keyed `island * 4 + category`, and for each port that is not OFF the time on
its island up to which its lanes' bits are counted. -/
structure Baro where
  activity : Assoc Nat := []
  thrown : Assoc Nat := []
  received : Assoc Nat := []
  receivedThrown : Assoc Nat := []
  accounts : Assoc Nat := []
  remainders : Assoc Nat := []
  history : Assoc (List Nat) := []
  planHist : Assoc (List Nat) := []
  device : List Nat := []
  admitFrac : Assoc Nat := []
  overShare : List Nat := []
  drops : Assoc Nat := []
  overCount : Nat := 0
  underCount : Nat := 0
  sinceK : Nat := 0
  lastClose : Nat := 0
  reports : Assoc (List TickReport) := []
  exportAt : Nat := 0
  settings : Assoc Nat := []
  lanes : Assoc Int := []
  lit : Assoc Nat := []
  deriving DecidableEq, Repr

/-! ### Events, counters and sampling (chapter 13) -/

/-- An occurrence on its way to the event unit (R355), and in it with the number of its arrival. -/
structure Occurrence where
  source : Nat
  inst : Nat
  isl : Nat
  time : Nat
  detail : Nat
  detail2 : Nat
  arrived : Nat := 0
  deriving DecidableEq, Repr

/-- A pending slot of a limiter key (R357): what it counts, the last occurrence's fields and arrival, and whether the
occurrence that triggers a limited key's record is in it (R356). -/
structure Pending where
  count : Nat := 0
  arrived : Nat := 0
  triggered : Bool := false
  isl : Nat := 0
  time : Nat := 0
  detail : Nat := 0
  detail2 : Nat := 0
  deriving DecidableEq, Repr

/-- An event ring's producer state (R362). -/
structure EvRing where
  phase : Bool := true
  seq : Nat := 0
  deriving DecidableEq, Repr

/-- An MSI-X vector (R364): its mask and pending bits, when its last message went, and a moderated message. -/
structure MsixVec where
  masked : Bool := true
  waiting : Bool := false
  lastAt : Option Nat := none
  due : Option Nat := none
  deriving DecidableEq, Repr

/-- A cluster's completed sample records, oldest first (Table 13-8), its count of microwords and the LFSR (R374). -/
structure Sampler where
  buffer : List Bytes := []
  count : Nat := 0
  lfsr : Nat := 0xACE1
  deriving DecidableEq, Repr

/-- The event unit, the counter banks and the samplers.  Occurrences on their way are kept by island, with the count of those
that have arrived; the MGT cycle of the record written last (R358); pending slots and
last-record times by limiter key; counters and snapshots as `bank * 512 + n`, with the cycle at which a bank last cleared,
the wraps not yet noted in OVERFLOW, and each cluster's last drain; `logged` is the counter-change log (R430). -/
structure Ev where
  flight : Assoc (List Occurrence) := []
  queue : List Occurrence := []
  arrivals : Nat := 0
  writtenAt : Option Nat := none
  pending : Assoc Pending := []
  lastRecord : Assoc Nat := []
  fromQueue : Bool := true
  rings : Assoc EvRing := []
  vectors : Assoc MsixVec := []
  fnMasked : List Nat := []
  counters : Assoc Nat := []
  snaps : Assoc Nat := []
  snapCycles : Assoc Nat := []
  cycleMark : Assoc Nat := []
  wraps : List (Nat × Nat) := []
  samplers : Assoc Sampler := []
  sringPhase : Bool := true
  drainAt : Assoc Nat := []
  logged : List (Nat × Nat) := []
  deriving DecidableEq, Repr

/-! ### Security (chapter 14) -/

/-- What a fuse burn in progress is for. -/
inductive BurnKind where
  | ownerKey (slot : Nat) | ownerRevoke (slot : Nat) | rollback (target : Nat) | lifecycle (target : Nat)
  deriving DecidableEq, Repr

/-- A burn in progress (R381): its purpose and the rows left, each with the word to burn. -/
structure Burn where
  kind : BurnKind
  rows : List (Nat × Nat)
  deriving DecidableEq, Repr

/-- A quote in progress or ready (R392): the request, GENERATION as read before the digest is computed, how many attempts a
flip has spanned (R394), and, once done, the quote's bytes. -/
structure Quote where
  status : Nat := 0
  request : Bytes := []
  gen : Nat := 0
  tries : Nat := 0
  body : Bytes := []
  deriving DecidableEq, Repr

/-- The security controller: a burn in progress and whether it is cut short (R382), the fuses as the last start scanned
them (R379), the keys of R391, whether the running bundle has RMA_AUTH, quotes by master, what LOADING waits for, and the
images an accepted update installs. -/
structure Sec where
  burn : Option Burn := none
  burnCut : Bool := false
  scan : Assoc Nat := []
  identityKey : Bytes := []
  aliasSeed : Bytes := []
  aliasCert : Bytes := []
  kemSeed : Bytes := []
  rmaAuth : Bool := false
  quotes : Assoc Quote := []
  hbmDone : Bool := false
  serdesDone : Bool := false
  installs : List (Nat × Image) := []
  deriving DecidableEq, Repr

/-! ### Host interface (chapter 15) -/

/-- A host ring: indices, phase, what has been taken and not completed, the last accepted values of its doorbell and of its
completion doorbell (R402), the completions written since it was enabled, and those of them not consumed (R405). -/
structure Ring where
  head : Nat := 0
  tail : Nat := 0
  chead : Nat := 0
  ctail : Nat := 0
  phase : Bool := true
  taken : Nat := 0
  doorbell : Nat := 0
  compDoorbell : Nat := 0
  done : Nat := 0
  unread : Nat := 0
  deriving DecidableEq, Repr

/-- The host interface: link, configuration space fields (the functions with Bus Master Enable and with Enable Relaxed
Ordering set), rings keyed 0-143, the policer's bucket, and the inject rings that wait for room with the target each waits
for, and the ring served last at each target (R404). -/
structure HostIf where
  inL0 : Bool := false
  everL0 : Bool := false
  numVfs : Nat := 0
  vfEnable : Bool := false
  busMaster : List Nat := []
  relaxed : List Nat := List.range 32
  injectWaits : List (Nat × Nat) := []
  injectLast : Assoc Nat := []
  rings : Assoc Ring := []
  policer : Nat := 0
  policerAt : Nat := 0
  policerFull : Bool := true
  deriving DecidableEq, Repr

/-! ### Start-up, resets, supplies, pins (chapters 16, 17) -/

/-- The pins (true is high), SMBus address and TEST_MODE as sampled; the islands' cycle counters, clock settings, the
setting that the cycle in progress runs at (R17), the settings Barometer calls for and when each last changed; temperatures in m°C; a warm reset that is scheduled; the management
restart, the COMMIT it interrupted and the time of the last one; the last thermal evaluation; the TAP's instruction (0 BYPASS,
1 IDCODE, 2 SAMPLE/PRELOAD, 3 EXTEST, 4 EXTEST_PULSE, 5 EXTEST_TRAIN, 6 debug), its bypass bit and boundary-scan latches;
whether a thermal trip has put the HBM stacks in self-refresh (R435); the
last accepted PPS edge, the last write of TOD_OFFSET, and the moment of the whole second that PPS_OUT last pulsed for. -/
structure Sys where
  porN : Bool := true
  warmRstN : Bool := true
  pfailN : Bool := true
  perstN : Bool := true
  trstN : Bool := true
  intN : Bool := true
  thermtripN : Bool := true
  hbmSelfRefresh : Bool := false
  ppsOut : Bool := false
  ppsOutUntil : Nat := 0
  ppsSecond : Option Nat := none
  testMode : Bool := false
  smbAddr : Nat := 0
  cycles : Assoc Nat := []
  subCycle : Assoc Nat := []
  clock : Assoc Nat := []
  running : Assoc Nat := []
  baroK : Assoc Nat := []
  clockAt : Assoc Nat := []
  temps : List Int := List.replicate 25 25000
  warmDue : Bool := false
  restarting : Bool := false
  restartRequest : Option Waiting := none
  lastRestart : Option Nat := none
  lastThermal : Nat := 0
  jtagIr : Nat := 1
  bypass : Bool := false
  bscan : Nat := 0
  ppsInAt : Option Nat := none
  todAt : Nat := 0
  deriving DecidableEq, Repr

/-- What leaves the device: a Kaznu datagram, a frame on a port (FCS included), a DMA write with its Relaxed Ordering
attribute (R406), an MSI-X message, an SMBus answer of the slave's address (its data, and the PEC byte for a master that reads one byte
beyond them) or its refusal of a command byte, a bit or register on TDO, what a
boundary-scan test drives on the AC-coupled lanes (a pulse or a train), an answer to a neighbour query. -/
inductive Output where
  | kaznu (mport addr : Nat) (msg : Bytes)
  | frame (port : Nat) (bytes : Bytes)
  | dma (fn addr : Nat) (data : Bytes) (relaxed : Bool)
  | msix (fn vector : Nat)
  | smbus (address command : Nat) (data : Bytes) (pec : Byte)
  | smbusNack (address command : Nat)
  | tdo (value : Nat)
  | lanes (train : Bool) (latches : Nat)
  | neighbour (mport addr target : Nat) (mac : Nat)
  deriving DecidableEq, Repr

/-- The device: everything but its fuses and the queue of commands. -/
structure Device where
  now : Nat := 0
  free : Nat := 0
  out : List Output := []
  dict : Dict := {}
  ptrs : Assoc IslPtr := []
  front : Front := {}
  svc : Svc := {}
  frost : Assoc FrostFn := []
  pkt : Pkt := {}
  ports : Assoc PortState := []
  srh : Srh := {}
  eng : Eng := {}
  cry : Cry := {}
  swc : Swc := {}
  tm : Tm := {}
  baro : Baro := {}
  ev : Ev := {}
  sec : Sec := {}
  host : HostIf := {}
  sys : Sys := {}
  deriving DecidableEq, Repr

/-! ### The machine -/

/-- Why the machine stops with a fault.  Every fault the spec names (Table 16-12) leaves the device in a state it
describes, so no command of this model stops the machine: the type has no constructor. -/
inductive Fault where
  deriving DecidableEq, Repr

/-- Why a command has no meaning. -/
inductive Refusal where
  /-- A command this model gives no meaning, named by its mnemonic: raised by an arm of `exec`. Safe. -/
  | notModelled (mnemonic : String)
  deriving DecidableEq, Repr

/-- The block: the device, its one-time fuses (64-bit rows, unlisted rows BLANK; they outlive every reset), and the
commands that are waiting, first in, first out. -/
structure State where
  d : Device := {}
  fuses : Assoc Nat := []
  pending : List Instr := []
  deriving DecidableEq, Repr

/-- The fuse rows of a manufactured device whose lifecycle is BLANK (Table 14-3): the manufacture rows are VALID and
every other row is BLANK.  The values are the model's (DESIGN CHOICE, log entry 4). -/
def manufacturedFuses : Assoc Nat :=
  (List.range 3).map (fun i => (i, fuseWord (fuseData 3 128 0x0102030405060708090A0B0C0D0E0F10 i)))
  ++ (List.range 5).map (fun i => (3 + i, fuseWord (fuseData 5 256
      0x1112131415161718191A1B1C1D1E1F202122232425262728292A2B2C2D2E2F30 i)))
  ++ [(8, fuseWord 750)]
  ++ (List.range 6).map (fun i => (9 + i, fuseWord (fuseData 6 320
      0x000003E8000007D000000BB800000FA0000013880000177000001B5800001F400000232800002710 i)))
  ++ (List.range 5).map (fun i => (16 + i, fuseWord (fuseData 5 256
      0x3132333435363738393A3B3C3D3E3F404142434445464748494A4B4C4D4E4F50 i)))
  ++ (List.range 5).map (fun i => (21 + i, fuseWord (fuseData 5 256
      0x5152535455565758595A5B5C5D5E5F606162636465666768696A6B6C6D6E6F70 i)))

/-- The machine right after a cold reset (R414, R423, R441): every object at its default, DEVICE_STATE BOOT and
BOOT_PHASE WAIT_BUNDLE after a fuse scan that found no INVALID row, nothing in the device, no command waiting. -/
def State.reset : State := { d := { sec := { scan := manufacturedFuses } }, fuses := manufacturedFuses }

end Sys2Proof.Machine
end

