-- ==== Sys2Proof/Machine/Ops.lean ====
section
/-!
DEFINITION. The named operations over the state: reading and writing objects and domain bytes in their storage
copies (R57, R236, R239), counters (R65, R130), events in flight (R355), bank and energy counts (R336, R366), Frost states
(Table 3-9), access rights (R89, R92), free values, outputs, frames and copies.
-/
namespace Sys2Proof.Machine

/-! ### Object rows and defaults -/

/-- The row of a subindex `key = index * 256 + subindex`. -/
def rowOf (key : Nat) : Option ObjRow :=
  let idx := key / 256
  let sub := key % 256
  (objRows (idx / 4096)).find? (fun r =>
    decide (r.first ≤ idx) && decide (idx < r.first + r.count) && decide (r.subLo ≤ sub) && decide (sub ≤ r.subHi))

/-- The instance of a subindex within its row. -/
def rowInstance (r : ObjRow) (key : Nat) : Nat := key / 256 - r.first

/-- The strobe group of an index (Table 2-4), by the block its range names (Table 2-1). -/
def groupOf (idx : Nat) : Nat :=
  if idx < 0x1100 then 0
  else if idx < 0x2000 then 13
  else if idx < 0x3000 then 1
  else if idx < 0x4000 then 2
  else if idx < 0x4400 then 3
  else if idx < 0x4600 then 4
  else if idx < 0x5000 then 5
  else if idx < 0x6000 then 6
  else if idx < 0x7000 then 7
  else if idx < 0x8000 then 8
  else if idx < 0x9000 then 9
  else if idx < 0xA000 then 11
  else if idx < 0xB000 then 12
  else if idx < 0xC000 then 14
  else if idx < 0xE000 then 15
  else if idx < 0xE300 then 1
  else if idx < 0xE400 then 2
  else if idx < 0xE500 then 3
  else if idx < 0xE600 then 4
  else if idx < 0xE700 then 5
  else if idx < 0xE800 then 7
  else if idx < 0xE900 then 8
  else if idx < 0xE910 then 10
  else if idx < 0xEA00 then 9
  else if idx < 0xEC00 then 14
  else 15

/-- The strobe-group map of Table 2-4 as R51 records it: bit n of group g is set when range 0xn000 holds staged
subindices of g. -/
def strobeMap (g : Nat) : Nat :=
  (List.range 16).foldl (fun a n =>
    if (objRows n).any (fun r => r.group == some g) then a + 2 ^ n else a) 0

/-- The resource range of an access-table target (Table 3-4). -/
def targetRange (t : Nat) : Nat × Nat :=
  match t with
  | 0 => (0, 0xFFFF) | 1 => (0, 65535) | 2 => (0xE000, 0xEFFF) | 3 => (0, 31)
  | 4 => (0, 4095) | 5 => (0, 4095) | 6 => (0, 127) | _ => (0, 15)

/-- An access-table entry (Table 3-6). -/
def accessEntry (valid : Bool) (cls hi lo resHi resLo : Nat) : Nat :=
  b2n valid * 2 ^ 63 + cls * 2 ^ 58 + hi * 2 ^ 45 + lo * 2 ^ 32 + resHi * 2 ^ 16 + resLo

/-- The default of a subindex (R8), where it depends on the instance; else its row's Default column. -/
def objDefault (key : Nat) : Nat :=
  let idx := key / 256
  let sub := key % 256
  if 0xA000 ≤ idx ∧ idx < 0xB000 then
    let t := idx - 0xA000
    match sub with
    | 1 => if t = 0 then 2 ^ 128 - 1 else 0
    | 2 => t
    | 5 => 0xFFFF
    | 10 => 0xFFFF
    | _ => 0
  else if 0x1100 ≤ idx ∧ idx < 0x1108 then
    if sub = 1 then
      let r := targetRange (idx - 0x1100)
      accessEntry true 0 4096 4096 r.2 r.1
    else if sub = 0x41 then 0x3FFF
    else 0
  else if idx = 0x1003 then strobeMap (sub - 1)
  else if 0x7010 ≤ idx ∧ idx < 0x7030 then
    if (sub = 1 ∨ sub = 2 ∨ sub = 5) ∧ idx = 0x7010 then 1572864 else 0
  else match rowOf key with
    | some r => r.dflt
    | none => 0

/-- The byte a domain holds by default at an offset: the vendor graph and profile (R150, R155), the admission limits
(Table 10-19), the internal queues' quantum (R318), the event configuration (Table 13-6), the ledger's admission fraction
(Table 12-3); else zero. -/
def domDefault (key : Nat) : Byte :=
  let dom := key / 2 ^ 32
  let off := key % 2 ^ 32
  match dom with
  | 0xE300 => (defaultNode (off / 128)).getD (off % 128) 0
  | 0xE301 => (defaultKeyProfile (off / 128)).getD (off % 128) 0
  | 0xE800 => (beBytes 4 16384 ++ beBytes 4 16384).getD (off % 16) 0
  | 0xE910 => if off / 16 ≥ 65472 then (beBytes 8 10240).getD (off % 16) 0 else 0
  | 0xEB00 => if off % 4 = 0 then 0x80 else 0
  | 0xEA00 => if off % 32 = 12 then 4 else 0
  | _ => 0

/-! ### Counters' widths -/

/-- The width in bits of a subindex's value. -/
def objWidth (key : Nat) : Nat :=
  match rowOf key with
  | some r => match r.ty with
    | .bool => 1 | .u8 => 8 | .u16 => 16 | .u32 => 32 | .u64 => 64 | .i32 => 32 | .i64 => 64 | .time => 64
    | .bits w => w | .octets n => 8 * n | .text n => 8 * n | .domain _ _ => 64
  | none => 64

/-- Counters that saturate (R65, R66 and the objects whose Default column says so); the others wrap. -/
def saturates (key : Nat) : Bool :=
  let idx := key / 256
  idx == 0x1001 || idx == 0x1002 || key == Obj.forcedCount || (idx / 0x100 == 0x50 && key % 256 == 8)
  || key == Obj.frontFrontsExpired || key == Obj.frontStalls || key == Obj.warmResets || key == Obj.pfailGlitches
  || key == Obj.ppsInRejects || (decide (0x1010 ≤ idx) && decide (idx < 0x1020))

/-! ### Objects and domain bytes -/

/-- The value of an object that is not staged. -/
def Device.get (d : Device) (k : Nat) : Nat := d.dict.live.getD objDefault k

/-- Set an object that is not staged. -/
def Device.put (d : Device) (k v : Nat) : Device :=
  { d with dict := { d.dict with live := d.dict.live.set objDefault k v } }

/-- Advance a counter by `n`, wrapping at its width or saturating as the spec says. -/
def Device.bumpBy (d : Device) (k n : Nat) : Device :=
  let w := objWidth k
  d.put k (if saturates k then satAdd w (d.get k) n else wrapAdd w (d.get k) n)

/-- Advance a counter by one. -/
def Device.bump (d : Device) (k : Nat) : Device := d.bumpBy k 1

/-- The staged value of a storage copy (R236). -/
def Device.copyGet (d : Device) (c : Bool) (k : Nat) : Nat :=
  (if c then d.dict.copy1 else d.dict.copy0).getD objDefault k

/-- Set the staged value of a storage copy. -/
def Device.copyPut (d : Device) (c : Bool) (k v : Nat) : Device :=
  if c then { d with dict := { d.dict with copy1 := d.dict.copy1.set objDefault k v } }
  else { d with dict := { d.dict with copy0 := d.dict.copy0.set objDefault k v } }

/-- The key of a domain byte. -/
def domKey (dom off : Nat) : Nat := dom * 2 ^ 32 + off

/-- A byte of a domain that is not staged. -/
def Device.memByte (d : Device) (dom off : Nat) : Byte := d.dict.mem.getD domDefault (domKey dom off)

/-- A byte of a staged domain in a storage copy. -/
def Device.copyByte (d : Device) (c : Bool) (dom off : Nat) : Byte :=
  (if c then d.dict.mem1 else d.dict.mem0).getD domDefault (domKey dom off)

/-- `n` bytes of a domain that is not staged. -/
def Device.memRead (d : Device) (dom off n : Nat) : Bytes := (List.range n).map (fun i => d.memByte dom (off + i))

/-- `n` bytes of a staged domain in a storage copy. -/
def Device.copyRead (d : Device) (c : Bool) (dom off n : Nat) : Bytes :=
  (List.range n).map (fun i => d.copyByte c dom (off + i))

/-- Write bytes into an `Assoc` of bytes from a key upwards. -/
def putBytes (l : Assoc Byte) : Nat → Bytes → Assoc Byte
  | _, [] => l
  | k, b :: bs => putBytes (l.set domDefault k b) (k + 1) bs

/-- Write bytes of a domain that is not staged. -/
def Device.memWrite (d : Device) (dom off : Nat) (b : Bytes) : Device :=
  { d with dict := { d.dict with mem := putBytes d.dict.mem (domKey dom off) b } }

/-- Write bytes of a staged domain in a storage copy. -/
def Device.copyWrite (d : Device) (c : Bool) (dom off : Nat) (b : Bytes) : Device :=
  if c then { d with dict := { d.dict with mem1 := putBytes d.dict.mem1 (domKey dom off) b } }
  else { d with dict := { d.dict with mem0 := putBytes d.dict.mem0 (domKey dom off) b } }

/-- Add to a big-endian counter of a domain, wrapping. -/
def Device.memBump (d : Device) (dom off n by_ : Nat) : Device :=
  d.memWrite dom off (beBytes n (beNat (d.memRead dom off n) + by_))

/-! ### Islands and the generation pointer (R236 to R242) -/

/-- Island numbers of Table 2-6 class 0x07. -/
def islPG (n : Nat) : Nat := 16 + n
/-- SWC. -/
def islSWC : Nat := 20
/-- SRH. -/
def islSRH : Nat := 21
/-- CRY. -/
def islCRY : Nat := 22
/-- MEM. -/
def islMEM : Nat := 23
/-- MGT. -/
def islMGT : Nat := 24

/-- An island's copy of the generation pointer. -/
def Device.ptr (d : Device) (isl : Nat) : IslPtr := d.ptrs.getD (fun _ => {}) isl

/-- The storage copy that serves a parity for a group, as an island's pointer says (R236). -/
def IslPtr.copy (p : IslPtr) (parity : Bool) (g : Nat) : Bool := (if parity then p.copyOdd else p.copyEven).testBit g

/-- A staged object consulted for a frame: the copy of the frame's parity, through the island's pointer (R239). -/
def Device.cfg (d : Device) (isl : Nat) (parity : Bool) (k : Nat) : Nat :=
  d.copyGet ((d.ptr isl).copy parity (groupOf (k / 256))) k

/-- A staged object taken on arrival: the copy of the island's current parity (R239). -/
def Device.arr (d : Device) (isl k : Nat) : Nat := d.cfg isl (d.ptr isl).parity k

/-- Bytes of a staged domain consulted for a frame. -/
def Device.cfgRead (d : Device) (isl : Nat) (parity : Bool) (dom off n : Nat) : Bytes :=
  d.copyRead ((d.ptr isl).copy parity (groupOf dom)) dom off n

/-- Bytes of a staged domain taken on arrival. -/
def Device.arrRead (d : Device) (isl dom off n : Nat) : Bytes := d.cfgRead isl (d.ptr isl).parity dom off n

/-- Whether a group has no shadow because a front that names it drains (R57, R236). -/
def Device.noShadow (d : Device) (g : Nat) : Bool :=
  let p := d.ptr islMGT
  p.copyEven.testBit g != p.copyOdd.testBit g

/-- The storage copy of the active values of a group (R57). -/
def Device.activeCopy (d : Device) (g : Nat) : Bool := (d.ptr islMGT).copy (d.ptr islMGT).parity g

/-- The storage copy of the shadow of a group; while it has none, the active copy (R236). -/
def Device.shadowCopy (d : Device) (g : Nat) : Bool :=
  if d.noShadow g then d.activeCopy g else !d.activeCopy g

/-- The active value of a staged object. -/
def Device.active (d : Device) (k : Nat) : Nat := d.copyGet (d.activeCopy (groupOf (k / 256))) k

/-- The shadow value of a staged object. -/
def Device.shadow (d : Device) (k : Nat) : Nat := d.copyGet (d.shadowCopy (groupOf (k / 256))) k

/-- A staged write (R57). -/
def Device.stage (d : Device) (k v : Nat) : Device := d.copyPut (d.shadowCopy (groupOf (k / 256))) k v

/-- Bytes of a staged domain's shadow. -/
def Device.shadowRead (d : Device) (dom off n : Nat) : Bytes := d.copyRead (d.shadowCopy (groupOf dom)) dom off n

/-- Bytes of a staged domain's active copy. -/
def Device.activeRead (d : Device) (dom off n : Nat) : Bytes := d.copyRead (d.activeCopy (groupOf dom)) dom off n

/-- A staged write of domain bytes. -/
def Device.stageBytes (d : Device) (dom off : Nat) (b : Bytes) : Device :=
  d.copyWrite (d.shadowCopy (groupOf dom)) dom off b

/-- The current parity as MGT holds it. -/
def Device.parity (d : Device) : Bool := (d.ptr islMGT).parity

/-! ### Device states (Table 2-11) -/

/-- DEVICE_STATE (R39). -/
def Device.devState (d : Device) : Nat := d.get Obj.deviceState

/-- RESET of Table 2-11. -/
def stRESET : Nat := 0
/-- BOOT. -/
def stBOOT : Nat := 1
/-- INIT. -/
def stINIT : Nat := 2
/-- SERVICE. -/
def stSERVICE : Nat := 3
/-- TEST. -/
def stTEST : Nat := 4
/-- RECOVERY. -/
def stRECOVERY : Nat := 5
/-- HALT. -/
def stHALT : Nat := 6

/-- States in which the data plane forwards (Table 1-10). -/
def Device.forwards (d : Device) : Bool :=
  d.devState == stINIT || d.devState == stSERVICE || d.devState == stRECOVERY

/-- States in which the data plane runs at all (Table 1-10). -/
def Device.dataRuns (d : Device) : Bool := d.forwards || d.devState == stTEST

/-! ### Free values, outputs, time -/

/-- Take the next free value. -/
def Device.takeFree (d : Device) : Nat × Device := (Config.freeNat d.free, { d with free := d.free + 1 })

/-- Something leaves the device. -/
def Device.emit (d : Device) (o : Output) : Device := { d with out := d.out ++ [o] }

/-- Microseconds as nanoseconds. -/
def us (n : Nat) : Nat := n * 1000

/-- The time on an island's copy of the timestamp counter: within 20 ns of the MGT counter, which MGT holds itself (R25); the
offset of an island does not change while the device runs (DESIGN CHOICE, log entry 49). -/
def Device.timeAt (d : Device) (isl : Nat) : Nat :=
  if isl = islMGT then d.now else d.now + Config.timeOffset isl % 41 - 20

/-! ### Low-speed pins (R447, R452) -/

/-- Whether the TAP drives the pins from its boundary-scan latches: in EXTEST, and, as IEEE 1149.6 has it, in EXTEST_PULSE and
EXTEST_TRAIN (PRESUMED, log entry 57). -/
def Device.extest (d : Device) : Bool := decide (3 ≤ d.sys.jtagIr) && decide (d.sys.jtagIr ≤ 5)

/-- The level that a boundary-scan latch sets. -/
def Device.scanLevel (d : Device) (p : Config.ScanPin) : Bool := d.sys.bscan.testBit (Config.scanCell p)

/-- The level of INT_N at its pin. -/
def Device.pinIntN (d : Device) : Bool := if d.extest then d.scanLevel .intN else d.sys.intN

/-- The level of THERMTRIP_N at its pin. -/
def Device.pinThermtripN (d : Device) : Bool := if d.extest then d.scanLevel .thermtripN else d.sys.thermtripN

/-- The level of PPS_OUT at its pin. -/
def Device.pinPpsOut (d : Device) : Bool := if d.extest then d.scanLevel .ppsOut else d.sys.ppsOut

/-- The bits of sixteen flags. -/
def bits16 (f : Nat → Bool) : Nat := ((List.range 16).map (fun n => if f n then 2 ^ n else 0)).sum

/-- The GPIO pins that the device drives: those of GPIO_DIR, or those that the boundary-scan latches name. -/
def Device.gpioDriven (d : Device) : Nat :=
  if d.extest then bits16 (fun n => d.scanLevel (.gpioDrive n)) else d.get Obj.gpioDir

/-- The level of each GPIO pin where the device drives it. -/
def Device.gpioLevel (d : Device) : Nat :=
  if d.extest then bits16 (fun n => d.scanLevel (.gpio n)) else d.get Obj.gpioOut

/-- A posted DMA write: payload carries Relaxed Ordering where its function allows it, a publishing write never does (R406). -/
def Device.dmaWrite (d : Device) (fn addr : Nat) (b : Bytes) (payload : Bool) : Device :=
  d.emit (.dma fn addr b (payload && d.host.relaxed.contains fn))

/-! ### Events in flight (R355) -/

/-- An occurrence of a source, met by an island, for an instance of its limiter key (R356). -/
def Device.fireOf (d : Device) (isl source inst detail detail2 : Nat) : Device :=
  let o : Occurrence := ⟨source, inst, isl, d.timeAt isl, detail, detail2, 0⟩
  { d with ev := { d.ev with flight := d.ev.flight.put isl (d.ev.flight.getD (fun _ => []) isl ++ [o]) } }

/-- An occurrence whose key is its source. -/
def Device.fire (d : Device) (isl source detail : Nat) : Device := d.fireOf isl source 0 detail 0

/-! ### Bank counters (R366, R367) and energy counts (R335) -/

/-- Advance a 48-bit bank counter; a wrap is logged for COUNTER_WRAP (R369). -/
def Device.bankAdd (d : Device) (bank n by_ : Nat) : Device :=
  let k := bank * 512 + n
  let v := d.ev.counters.getD (fun _ => 0) k + by_
  let wraps := if v < 2 ^ 48 ∨ d.ev.wraps.contains (bank, n) then d.ev.wraps else (bank, n) :: d.ev.wraps
  { d with ev := { d.ev with counters := d.ev.counters.set (fun _ => 0) k (v % 2 ^ 48), wraps := wraps } }

/-- Whether a SELECT word counts a unit of an event for a tenant (R367). -/
def selectCounts (sel code tenant : Nat) (attributable : Bool) : Bool :=
  bits sel 7 0 == code && (if bit sel 31 then attributable && bits sel 27 16 == tenant else true)

/-- Count `n` units of a bank event (Table 13-5): in EVENT mode in counter `code`; in PROGRAMMABLE mode in each counter
that selects it, an EC bank's per engine `eng`. -/
def Device.tallyAt (d : Device) (bank code n tenant : Nat) (attributable : Bool) (eng : Nat) : Device :=
  if d.arr bank (Obj.bankMode bank) = 0 then d.bankAdd bank code n
  else
    (List.range (if bank < 16 then 8 else 4)).foldl (fun d j =>
      if selectCounts (d.arr bank (Obj.bankSelect0 bank j)) code tenant attributable then
        d.bankAdd bank (if bank < 16 then 8 * eng + j else j) n
      else d) d

/-- Count units of an attributable event. -/
def Device.tally (d : Device) (bank code n tenant : Nat) : Device := d.tallyAt bank code n tenant true 0

/-- Count units of an event no frame is charged with. -/
def Device.tallyPlain (d : Device) (bank code n : Nat) : Device := d.tallyAt bank code n 0 false 0

/-- Energy categories of Table 12-1: 0-3 lane bits, 4 MICROWORD, 5 AES_BLOCK, 6 TILE_SEARCH, 7 HBM_BURST,
8 CELL_ACCESS, 9 RECIRC. -/
def Device.spend (d : Device) (isl cat tenant n : Nat) : Device :=
  let k := (isl * 10 + cat) * 4096 + tenant
  { d with baro := { d.baro with
      activity := d.baro.activity.set (fun _ => 0) k (d.baro.activity.getD (fun _ => 0) k + n) } }

/-! ### Frost (Table 3-9, R87, R103) -/

/-- The key of a Frost function. -/
def frostKey (cls inst : Nat) : Nat := cls * 2 ^ 16 + inst

/-- A function's Frost after reset (R103): tenants other than 0 DISABLED, the rest ACTIVE. -/
def frostDefault (k : Nat) : FrostFn :=
  if k / 2 ^ 16 = 1 ∧ k % 2 ^ 16 ≠ 0 then { state := 3 } else {}

/-- The Frost of a function. -/
def Device.frostFn (d : Device) (cls inst : Nat) : FrostFn := d.frost.getD frostDefault (frostKey cls inst)

/-- The Frost state code of a function; tenant 0 reads ACTIVE (R87). -/
def Device.frostState (d : Device) (cls inst : Nat) : Nat :=
  if cls = 1 ∧ inst = 0 then 0 else (d.frostFn cls inst).state

/-- Set the Frost of a function. -/
def Device.setFrost (d : Device) (cls inst : Nat) (f : FrostFn) : Device :=
  { d with frost := d.frost.set frostDefault (frostKey cls inst) f }

/-! ### Access rights (R83, R89, R92) -/

/-- Bits of the rights mask (Table 3-5). -/
def rREAD : Nat := 0
/-- WRITE. -/
def rWRITE : Nat := 1
/-- ALLOC. -/
def rALLOC : Nat := 2
/-- RELEASE. -/
def rRELEASE : Nat := 3
/-- FREE. -/
def rFREE : Nat := 4
/-- SHARE. -/
def rSHARE : Nat := 5
/-- KEY_USE. -/
def rKEYUSE : Nat := 6
/-- KEY_LOAD. -/
def rKEYLOAD : Nat := 7
/-- COUNTER_READ. -/
def rCOUNTERREAD : Nat := 8
/-- LEDGER_READ. -/
def rLEDGERREAD : Nat := 9
/-- COMMIT. -/
def rCOMMIT : Nat := 10
/-- TRAP. -/
def rTRAP : Nat := 11
/-- INJECT. -/
def rINJECT : Nat := 12
/-- ATTEST. -/
def rATTEST : Nat := 13

/-- The rights mask of master `m` on resource `x` of a target in a storage copy (R89). -/
def Device.rightsMask (d : Device) (c : Bool) (target m x : Nat) : Nat :=
  let entries := (List.range 64).map (fun i => (i, d.copyGet c (Obj.accEntry target i)))
  match entries.find? (fun e =>
      bit e.2 63 && decide (bits e.2 44 32 ≤ m) && decide (m ≤ bits e.2 57 45)
      && decide (bits e.2 15 0 ≤ x) && decide (x ≤ bits e.2 31 16)) with
  | some e =>
    if d.svc.unresolved.contains (0x01 * 2 ^ 24 + target * 64 + e.1)
        || d.svc.unresolved.contains (0x08 * 2 ^ 24 + target * 32 + bits e.2 62 58) then 0
    else d.copyGet c (Obj.accClassMask target (bits e.2 62 58))
  | none => 0

/-- Whether an internal master's fixed rights stand (R83). -/
def fixedMaster (m : Nat) : Bool := decide (4144 ≤ m) && decide (m ≤ 4164)

/-- A right of a master other than a frame's, at the current entries of the target's island (Table 8-2, group 13). -/
def Device.mayNow (d : Device) (isl target m x right : Nat) : Bool :=
  fixedMaster m || (d.rightsMask ((d.ptr isl).copy (d.ptr isl).parity 13) target m x).testBit right

/-- A right asked for a frame, at the frame's parity. -/
def Device.mayFrame (d : Device) (isl : Nat) (parity : Bool) (target m x right : Nat) : Bool :=
  (d.rightsMask ((d.ptr isl).copy parity 13) target m x).testBit right

/-- A denial is recorded (R92). -/
def Device.deny (d : Device) (target m x : Nat) : Device :=
  ((d.bump (Obj.accDenyCount target)).put (Obj.accLastDeniedMaster target) m).put (Obj.accLastDeniedResource target) x

/-! ### Records of the maps -/

/-- A frame by id. -/
def Device.frame (d : Device) (i : Nat) : Frame := d.pkt.frames.getD (fun _ => {}) i
/-- Whether a frame id is in the device. -/
def Device.hasFrame (d : Device) (i : Nat) : Bool := (d.pkt.frames.find i).isSome
/-- Put a frame back. -/
def Device.setFrame (d : Device) (i : Nat) (f : Frame) : Device :=
  { d with pkt := { d.pkt with frames := d.pkt.frames.put i f } }
/-- A copy by id. -/
def Device.copyRec (d : Device) (i : Nat) : Copy := d.pkt.copies.getD (fun _ => {}) i
/-- Put a copy back. -/
def Device.setCopy (d : Device) (i : Nat) (c : Copy) : Device :=
  { d with pkt := { d.pkt with copies := d.pkt.copies.put i c } }
/-- A port group. -/
def Device.pgs (d : Device) (n : Nat) : PgState := d.pkt.pgs.getD (fun _ => {}) n
/-- Set a port group. -/
def Device.setPg (d : Device) (n : Nat) (p : PgState) : Device :=
  { d with pkt := { d.pkt with pgs := d.pkt.pgs.set (fun _ => {}) n p } }
/-- A port. -/
def Device.port (d : Device) (p : Nat) : PortState := d.ports.getD (fun _ => {}) p
/-- Set a port. -/
def Device.setPort (d : Device) (p : Nat) (s : PortState) : Device :=
  { d with ports := d.ports.set (fun _ => {}) p s }
/-- The key of a thread. -/
def threadKey (c e t : Nat) : Nat := (c * 64 + e) * 16 + t
/-- A thread that owns a frame. -/
def Device.thread? (d : Device) (k : Nat) : Option Thread := d.eng.threads.find k
/-- Set a thread. -/
def Device.setThread (d : Device) (k : Nat) (t : Thread) : Device :=
  { d with eng := { d.eng with threads := d.eng.threads.put k t } }
/-- A chain by head cell. -/
def Device.chain (d : Device) (h : Nat) : Chain := d.swc.chains.getD (fun _ => {}) h
/-- Set a chain. -/
def Device.setChain (d : Device) (h : Nat) (c : Chain) : Device :=
  { d with swc := { d.swc with chains := d.swc.chains.put h c } }
/-- A stream key (R301). -/
def streamKey (port pg cls : Nat) : Nat := (port * 4 + pg) * 8 + cls
/-- A stream. -/
def Device.stream (d : Device) (k : Nat) : Stream := d.swc.streams.getD (fun _ => {}) k
/-- Set a stream. -/
def Device.setStream (d : Device) (k : Nat) (s : Stream) : Device :=
  { d with swc := { d.swc with streams := d.swc.streams.set (fun _ => {}) k s } }
/-- A cluster. -/
def Device.cluster (d : Device) (c : Nat) : Cluster := d.eng.clusters.getD (fun _ => {}) c
/-- Set a cluster. -/
def Device.setCluster (d : Device) (c : Nat) (x : Cluster) : Device :=
  { d with eng := { d.eng with clusters := d.eng.clusters.set (fun _ => {}) c x } }
/-- An SA's state. -/
def Device.saState (d : Device) (s : Nat) : SaState := d.cry.sas.getD (fun _ => {}) s
/-- Set an SA's state. -/
def Device.setSa (d : Device) (s : Nat) (x : SaState) : Device :=
  { d with cry := { d.cry with sas := d.cry.sas.set (fun _ => {}) s x } }
/-- The lists of a queue. -/
def Device.queueOf (d : Device) (q : Nat) : List Nat := d.tm.queues.getD (fun _ => []) q
/-- Set a queue. -/
def Device.setQueue (d : Device) (q : Nat) (l : List Nat) : Device :=
  { d with tm := { d.tm with queues := d.tm.queues.set (fun _ => []) q l } }
/-- A host ring. -/
def Device.ring (d : Device) (g : Nat) : Ring := d.host.rings.getD (fun _ => {}) g
/-- Set a host ring. -/
def Device.setRing (d : Device) (g : Nat) (r : Ring) : Device :=
  { d with host := { d.host with rings := d.host.rings.set (fun _ => {}) g r } }
/-- A session. -/
def Device.session (d : Device) (n : Nat) : Session := d.svc.sessions.getD (fun _ => {}) n
/-- Set a session. -/
def Device.setSession (d : Device) (n : Nat) (x : Session) : Device :=
  { d with svc := { d.svc with sessions := d.svc.sessions.set (fun _ => {}) n x } }
/-- A mailbox. -/
def Device.mailbox (d : Device) (n : Nat) : Mailbox := d.svc.mailboxes.getD (fun _ => {}) n
/-- Set a mailbox. -/
def Device.setMailbox (d : Device) (n : Nat) (x : Mailbox) : Device :=
  { d with svc := { d.svc with mailboxes := d.svc.mailboxes.set (fun _ => {}) n x } }

/-- Whether a PCIe function exists: the PF, and VF n while NumVFs covers it and VF Enable is 1 (R399). -/
def Device.fnExists (d : Device) (fn : Nat) : Bool := fn == 0 || (d.host.vfEnable && decide (fn ≤ d.host.numVfs))

/-- Whether a function issues DMA: it exists, its Bus Master Enable is 1 (R399), the link is up (R398) and the device is not
in RESET (R421). -/
def Device.dmaOk (d : Device) (fn : Nat) : Bool :=
  d.fnExists fn && d.host.busMaster.contains fn && d.host.inL0 && d.devState != stRESET

/-- The clock setting k of an island (R16). -/
def Device.clockK (d : Device) (isl : Nat) : Nat := d.sys.clock.getD (fun _ => 16) isl

/-! ### The census (R243) -/

/-- The key of an island's census counts of a parity. -/
def censusKey (isl : Nat) (p : Bool) : Nat := 2 * isl + b2n p

/-- An island's entries of a parity. -/
def Device.entriesAt (d : Device) (isl : Nat) (p : Bool) : Nat := d.front.entries.getD (fun _ => 0) (censusKey isl p)

/-- An island's leaves of a parity. -/
def Device.leavesAt (d : Device) (isl : Nat) (p : Bool) : Nat := d.front.leaves.getD (fun _ => 0) (censusKey isl p)

/-- A frame of a parity enters the census in an island, whose 64-bit count advances. -/
def Device.censusIn (d : Device) (isl : Nat) (p : Bool) : Device :=
  { d with front := { d.front with
      entries := d.front.entries.set (fun _ => 0) (censusKey isl p) (wrapAdd 64 (d.entriesAt isl p) 1) } }

/-- A frame of a parity leaves the census in an island. -/
def Device.censusOut (d : Device) (isl : Nat) (p : Bool) : Device :=
  { d with front := { d.front with
      leaves := d.front.leaves.set (fun _ => 0) (censusKey isl p) (wrapAdd 64 (d.leavesAt isl p) 1) } }

/-- The islands that stamp frames (R243). -/
def stampers : List Nat := [islPG 0, islPG 1, islPG 2, islPG 3, islSWC]

/-- An island's final old-parity entries as its acknowledgement carried them; until then its count. -/
def Device.finalOf (d : Device) (isl : Nat) : Nat := (d.front.finals.find isl).getD (d.entriesAt isl d.front.oldParity)

/-- The frames of the old parity still in the device (OLD_PARITY_RESIDENT, R243): the final entries less the leaves. -/
def Device.oldResident (d : Device) : Nat :=
  let gone := ((List.range 25).map (fun i => d.leavesAt i d.front.oldParity)).sum
  (stampers.map (fun i => d.finalOf i)).sum - gone

/-! ### Tenant counters -/

/-- ISOLATION_DROPS of a tenant advances (R85). -/
def Device.isolation (d : Device) (t : Nat) : Device := d.bump (Obj.tenIsolationDrops t)

/-- FROST_DROPS of a tenant advances (R101, R102). -/
def Device.frostDrop (d : Device) (t : Nat) : Device := d.bump (Obj.tenFrostDrops t)

/-- A committed field of a tenant context at a frame's parity, in an island (R85). -/
def Device.ctx (d : Device) (isl : Nat) (parity : Bool) (k : Nat) : Nat := d.cfg isl parity k

/-- Whether a port bit is set in PORTS_ALLOWED of a tenant at a parity; tenant 0 is not checked (R86). -/
def Device.portAllowed (d : Device) (isl : Nat) (parity : Bool) (t p : Nat) : Bool :=
  decide (t = 0) || (d.cfg isl parity (Obj.tenPortsAllowed t)).testBit p

/-- Whether a flush of a tenant runs: every stage removes each frame of it that it holds or that reaches it (R101). -/
def Device.flushedTenant (d : Device) (t : Nat) : Bool := t != 0 && (d.frostFn 1 t).flushing

/-- A cycle counter of an island. -/
def Device.cycleOf (d : Device) (isl : Nat) : Nat := d.sys.cycles.getD (fun _ => 0) isl

/-- Whether an island is stopped: a cluster UNLOADED, LOADING or TESTING (R242). -/
def Device.stopped (d : Device) (isl : Nat) : Bool :=
  decide (isl < 16) && (d.get (Obj.clLoadState isl) != 4 && d.get (Obj.clLoadState isl) != 1)

/-- CYCLES of a bank: the island's cycles since it last cleared, in PROGRAMMABLE mode (R366). -/
def Device.bankCyclesOf (d : Device) (b : Nat) : Nat :=
  if d.arr b (Obj.bankMode b) = 0 then 0 else (d.cycleOf b - d.ev.cycleMark.getD (fun _ => 0) b) % 2 ^ 64

/-- Whether one of rank `r` may still be served in a cycle in which it may be served `most` times. -/
def Turn.allows (x : Turn) (cycle r most : Nat) : Bool :=
  x.cycle != cycle || decide (x.rank < r) || (x.rank == r && decide (x.count < most))

/-- One of rank `r` is served in a cycle. -/
def Turn.served (x : Turn) (cycle r : Nat) : Turn :=
  { cycle := cycle, rank := r, count := if x.cycle = cycle ∧ x.rank = r then x.count + 1 else 1 }

/-! ### Chapter-04 views -/

/-- LINK_STATE codes. -/
def lkOFF : Nat := 0
/-- TRAINING. -/
def lkTRAINING : Nat := 1
/-- ALIGNING. -/
def lkALIGNING : Nat := 2
/-- UP. -/
def lkUP : Nat := 3

/-- LINK_STATE of a port. -/
def Device.link (d : Device) (p : Nat) : Nat := d.get (Obj.linkState p)

/-- Whether a hold runs (HOLD_STATE). -/
def Device.holding (d : Device) (p : Nat) : Bool := d.get (Obj.pstHoldState p) = 1

/-- Lanes per port of a quad mode (Table 4-1), zero where the mode defines no ports. -/
def modeLanes (m : Nat) : Nat :=
  match m with
  | 1 => 4 | 2 => 2 | 3 => 1 | 4 => 4 | 5 => 2 | 6 => 1 | 7 => 4 | 8 => 1 | 9 => 1 | _ => 0

/-- Whether a quad mode defines port `p` (Table 4-1). -/
def modeDefines (m p : Nat) : Bool := modeLanes m != 0 && (p % 4) % modeLanes m == 0

/-- The energy category of a mode's lanes: 0 106G, 1 53G, 2 25G, 3 10G. -/
def modeCategory (m : Nat) : Nat := if m ≤ 3 then 0 else if m ≤ 6 then 1 else if m ≤ 8 then 2 else 3

/-- The lane rate of a mode in kb/s (Table 4-1). -/
def modeLaneKbps (m : Nat) : Nat :=
  if m = 0 then 0 else if m ≤ 3 then 106250000 else if m ≤ 6 then 53125000 else if m ≤ 8 then 25781250 else 10312500

/-- FEC values Table 4-1 allows for a mode, default first. -/
def modeFec (m : Nat) : List Nat :=
  if m = 0 then [] else if m ≤ 6 then [2] else if m = 7 then [1] else if m = 8 then [1, 0] else [0]

/-- The active mode of a port's quad, as its port group's island has taken it. -/
def Device.quadMode (d : Device) (p : Nat) : Nat := d.arr (islPG (p / 32)) (Obj.quadMode (p / 4))

/-- Whether the active quad mode defines an external port (R105). -/
def Device.defined (d : Device) (p : Nat) : Bool := decide (p < 128) && modeDefines (d.quadMode p) p

/-- Quarter lane bits of a frame of `b` bytes with FCS on a port's lanes (R336). -/
def laneQuarterBits (m b : Nat) : Nat := if m ≤ 6 then (b + 20) * 34 else (b + 20) * 33

/-- Charge a frame crossing a MAC to a tenant (R336). -/
def Device.chargeLane (d : Device) (p tenant b : Nat) : Device :=
  d.spend (islPG (p / 32)) (modeCategory (d.quadMode p)) tenant (laneQuarterBits (d.quadMode p) b)

/-- LINK_STATE fires with a cause (Table 4-5). -/
def Device.fireLink (d : Device) (p cause : Nat) : Device := d.fire (islPG (p / 32)) (64 + p) cause

/-- The bits that a port's lanes have sent and received since they were last counted are counted (R336): a lane counts while
its port is not OFF. -/
def Device.countLanes (d : Device) (p : Nat) : Device :=
  if d.link p = lkOFF then d
  else
    let now := d.timeAt (islPG (p / 32))
    let m := d.quadMode p
    let k := islPG (p / 32) * 4 + modeCategory m
    let bits : Int := modeLanes m * modeLaneKbps m * 8 * (now - d.baro.lit.getD (fun _ => 0) p)
    { d with baro := { d.baro with
        lit := d.baro.lit.put p now, lanes := d.baro.lanes.set (fun _ => 0) k (d.baro.lanes.getD (fun _ => 0) k + bits) } }

/-- Set LINK_STATE: the lanes' bits up to now are counted, and from now where the port was OFF. -/
def Device.setLink (d : Device) (p s : Nat) : Device :=
  let d : Device :=
    if d.link p = lkOFF then { d with baro := { d.baro with lit := d.baro.lit.put p (d.timeAt (islPG (p / 32))) } }
    else d.countLanes p
  d.put (Obj.linkState p) s

end Sys2Proof.Machine
end

