-- ==== Sys2Proof/Machine/Fuses.lean ====
section
/-!
DEFINITION. Reading the fuse array (R379, R380, R384, R385, Tables 14-2 to 14-4).
-/
namespace Sys2Proof.Machine

/-- The 64 bits of a fuse row. -/
def fuseRow (f : Assoc Nat) (r : Nat) : Nat := f.getD (fun _ => 0) r

/-- The class of a row's bits: 0 BLANK, 1 VALID, 2 INVALID (R379). -/
def rowClass (w : Nat) : Nat := if w = 0 then 0 else if bits w 63 56 = crc8 (bits w 55 0) then 1 else 2

/-- The class of a row. -/
def rowState (f : Assoc Nat) (r : Nat) : Nat := rowClass (fuseRow f r)

/-- The value of `w` bits held by `n` rows from `r`, if every one is VALID (R379). -/
def fuseValue (f : Assoc Nat) (r n w : Nat) : Option Nat :=
  if (List.range n).all (fun i => rowState f (r + i) == 1) then
    some ((List.range n).foldl (fun a i => a * 2 ^ 56 + bits (fuseRow f (r + i)) 55 0) 0 / 2 ^ (56 * n - w))
  else none

/-- DATA of a marker row (R379). -/
def markerData : Nat := 0x5A5A5A5A5A5A5A

/-- DEVICE_SERIAL. -/
def fuseSerial (f : Assoc Nat) : Option Nat := fuseValue f 0 3 128
/-- The unique device secret. -/
def fuseUds (f : Assoc Nat) : Option Nat := fuseValue f 3 5 256
/-- VCORE_REQUIRED_MV. -/
def fuseVcore (f : Assoc Nat) : Option Nat := (fuseValue f 8 1 56).map (fun v => v % 65536)
/-- VENDOR_ROOT_HASH. -/
def fuseVendorRoot (f : Assoc Nat) : Option Nat := fuseValue f 16 5 256
/-- IMAGE_KEK. -/
def fuseKek (f : Assoc Nat) : Option Nat := fuseValue f 21 5 256

/-- FUSED energy coefficient `j` (0 to 9) of ten 32-bit values; 0 when its rows are not all VALID (R380).  The value
lies in bits `319 - 32 j` down of the 320, most significant bits in row 9. -/
def fuseCoef (f : Assoc Nat) (j : Nat) : Nat :=
  let first := 32 * j / 56
  let last := (32 * j + 31) / 56
  if (List.range (last - first + 1)).all (fun i => rowState f (9 + first + i) == 1) then
    let v := (List.range 6).foldl (fun a i => a * 2 ^ 56 + bits (fuseRow f (9 + i)) 55 0) 0
    (v / 2 ^ (336 - 32 * (j + 1))) % 2 ^ 32
  else 0

/-- The boot values that must be VALID for the device to accept a bundle (R380). -/
def fusesBootable (f : Assoc Nat) : Bool :=
  (fuseSerial f).isSome && (fuseUds f).isSome && (fuseVcore f).isSome && (fuseVendorRoot f).isSome && (fuseKek f).isSome

/-- LIFECYCLE: 0 BLANK, 1 PROVISIONED, 2 OPERATIONAL, 3 RMA, by the highest marker row that is not BLANK. -/
def fuseLifecycle (f : Assoc Nat) : Nat :=
  if fuseRow f 130 ≠ 0 then 3 else if fuseRow f 129 ≠ 0 then 2 else if fuseRow f 128 ≠ 0 then 1 else 0

/-- ROLLBACK_COUNT (R385). -/
def fuseRollback (f : Assoc Nat) : Nat := ((List.range 64).filter (fun i => fuseRow f (64 + i) != 0)).length

/-- The hash of an owner slot, if its rows are VALID. -/
def ownerHash (f : Assoc Nat) (n : Nat) : Option Nat := fuseValue f (32 + 5 * n) 5 256

/-- Whether an owner slot is revoked: its revoke row is not BLANK. -/
def ownerRevoked (f : Assoc Nat) (n : Nat) : Bool := fuseRow f (52 + n) != 0

/-- Whether an owner slot is usable (R384). -/
def ownerUsable (f : Assoc Nat) (n : Nat) : Bool := (ownerHash f n).isSome && !ownerRevoked f n

/-- The usable owner slots. -/
def usableSlots (f : Assoc Nat) : List Nat := (List.range 4).filter (fun n => ownerUsable f n)

/-- Whether an owner slot's hash rows are written: one of them is not BLANK (R382, R384). -/
def ownerWritten (f : Assoc Nat) (n : Nat) : Bool := (List.range 5).any (fun i => fuseRow f (32 + 5 * n + i) != 0)

/-- SLOT_STATE: 0 BLANK, 1 VALID, 2 INVALID, 3 REVOKED. -/
def slotState (f : Assoc Nat) (n : Nat) : Nat :=
  if ownerRevoked f n then 3 else if !ownerWritten f n then 0 else if (ownerHash f n).isSome then 1 else 2

/-- OWNER_SLOTS: [3:0] usable, [7:4] revoked. -/
def ownerSlots (f : Assoc Nat) : Nat :=
  (List.range 4).foldl (fun a n => a + b2n (ownerUsable f n) * 2 ^ n + b2n (ownerRevoked f n) * 2 ^ (4 + n)) 0

/-- The INVALID rows, lowest first. -/
def tornRows (f : Assoc Nat) : List Nat := (List.range 256).filter (fun r => rowState f r == 2)

/-- FUSE_ROW_STATE: row r in bits [2r + 1:2r]. -/
def fuseRowStates (f : Assoc Nat) : Nat := (List.range 256).foldl (fun a r => a + rowState f r * 2 ^ (2 * r)) 0

end Sys2Proof.Machine
end

