-- ==== Sys2Proof/Machine/Tick.lean ====
section
/-!
DEFINITION. Time: the nanosecond timestamp counter and the islands' cycle counters (R16, R18, R25).
-/
namespace Sys2Proof.Machine

/-- The maximum clock of an island in MHz (Table 1-1). -/
def maxMHz (isl : Nat) : Nat :=
  if isl < 16 then 2000 else if isl < 20 then 1600 else if isl = 20 then 1500 else if isl = 21 then 1600
  else if isl = 22 then 1250 else if isl = 23 then 1200 else 500

/-- The setting that the cycle in progress runs at. -/
def Device.runningK (d : Device) (isl : Nat) : Nat := d.sys.running.getD (fun _ => 16) isl

/-- The 16,000ths of a cycle that an island has done after `n` nanoseconds.  A cycle in progress ends at the setting it
began at, and those after it run at the island's setting (R17): what is left of the time after the boundary is rescaled. -/
def Device.cycleParts (d : Device) (n isl : Nat) : Nat :=
  let old := d.sys.subCycle.getD (fun _ => 0) isl + n * maxMHz isl * d.runningK isl
  if old < 16000 then old else 16000 + (old - 16000) * d.clockK isl / d.runningK isl

/-- Advance one island's cycle counter by `n` nanoseconds at its clock, maximum × k/16 (R16, R17); parts of a cycle carry.  An
island that is stopped has no cycles. -/
def Device.runIsland (d : Device) (n isl : Nat) : Device :=
  let part := d.cycleParts n isl
  if d.stopped isl then d
  else { d with sys := { d.sys with
      cycles := d.sys.cycles.set (fun _ => 0) isl (d.sys.cycles.getD (fun _ => 0) isl + part / 16000)
      subCycle := d.sys.subCycle.set (fun _ => 0) isl (part % 16000)
      running := if part < 16000 then d.sys.running else d.sys.running.set (fun _ => 16) isl (d.clockK isl) } }

/-- Advance time by `n` nanoseconds: the timestamp counter, and every island's cycles. -/
def Device.elapse (d : Device) (n : Nat) : Device :=
  (List.range 25).foldl (fun d i => d.runIsland n i)
    { d with now := d.now + n, sys := { d.sys with ppsOut := decide (d.now + n < d.sys.ppsOutUntil) } }

end Sys2Proof.Machine
end

