-- ==== Sys2Proof/Machine/Barometer.lean ====
section
/-!
DEFINITION. Barometer (chapter 12): tick reports, the tick close with its accounts, forecast, planning levels and
admission fractions, clock settings, calibration and ledger export.  Energy is counted in quarters of a femtojoule.
-/
namespace Sys2Proof.Machine

/-! ### Clock settings (R350, R433, R436, R446) -/

/-- Barometer's setting of an island. -/
def Device.baroK (d : Device) (isl : Nat) : Nat := d.sys.baroK.getD (fun _ => 16) isl

/-- The setting called for: the lowest of Barometer's, and for every island but MGT of THERMAL_K and the limit that
VCORE_LOW sets. -/
def Device.wantK (d : Device) (isl : Nat) : Nat :=
  if isl = islMGT then d.baroK isl
  else min (d.baroK isl) (min (d.get Obj.thermalK) (if d.get Obj.vcoreLow = 1 then 12 else 16))

/-- Whether an island's clock setting is unresolved (Table 2-6, class 0x07). -/
def Device.clockStuck (d : Device) (isl : Nat) : Bool := d.svc.unresolved.contains (0x07 * 2 ^ 24 + isl)

/-- Whether 50 µs have passed since the last change of an island's k (R446). -/
def Device.clockFree (d : Device) (isl : Nat) : Bool :=
  match d.sys.clockAt.find isl with
  | some t => decide (t + 50000 ≤ d.now)
  | none => true

/-- Apply the setting called for, unless it is held back (R446) or the setting is unresolved. -/
def Device.applyClock (d : Device) (isl : Nat) : Device :=
  if d.wantK isl = d.clockK isl ∨ d.clockStuck isl ∨ !d.clockFree isl then d
  else { d with sys := { d.sys with
           clock := d.sys.clock.set (fun _ => 16) isl (d.wantK isl), clockAt := d.sys.clockAt.put isl d.now } }

/-- Apply the settings called for of every island. -/
def Device.applyClocks (d : Device) : Device := (List.range 25).foldl Device.applyClock d

/-- CLOCK_CHANGE_DEFERRED (R446): a change held back 50 µs after an earlier one is applied. -/
def execClockChangeDeferred (isl : Fin 25) (s : State) : Host.Outcome State Fault Refusal :=
  .next { s with d := s.d.applyClock isl }

/-- Islands whose Barometer setting becomes `f k`, and event 770 with STRETCH_CHANGES when any changes. -/
def Device.stretch (d : Device) (mask : Nat) (f : Nat → Nat) : Device :=
  let isls := (setBits 25 mask).filter (fun i => !d.clockStuck i && f (d.baroK i) != d.baroK i)
  match isls with
  | [] => d
  | i0 :: _ =>
    let k := f (d.baroK i0)
    let d : Device := isls.foldl (fun d i =>
      { d with sys := { d.sys with baroK := d.sys.baroK.set (fun _ => 16) i (f (d.baroK i)) } }) d
    let d : Device := { d with baro := { d.baro with sinceK := 0, underCount := 0 } }
    let d := (d.bump Obj.baroStretchChanges).fireOf islMGT 770 0 (isls.foldl (fun a i => a + 2 ^ i) 0) k
    d.applyClocks

/-! ### Tenants' standing -/

/-- ADMIT_FRACTION a_T. -/
def Device.admitFrac (d : Device) (t : Nat) : Nat := d.baro.admitFrac.getD (fun _ => 1024) t

/-- LEVEL. -/
def Device.level (d : Device) : Nat := d.get Obj.baroLevel

/-- Whether level 2 denies a tenant (R348). -/
def Device.denied (d : Device) (t : Nat) : Bool := decide (t ≠ 0) && decide (2 ≤ d.level) && d.baro.overShare.contains t

/-- A tenant's drop count: kind 0 THROTTLE_DROPS, 1 PASS_DENIALS, 2 BULK_REFUSALS. -/
def Device.baroDrops (d : Device) (t kind : Nat) : Nat := d.baro.drops.getD (fun _ => 0) (t * 4 + kind)

/-- Advance a tenant's drop count and the device's (R348, R349). -/
def Device.baroDrop (d : Device) (t kind key : Nat) : Device :=
  let v := d.baroDrops t kind
  let v' := if kind = 0 then wrapAdd 64 v 1 else satAdd 32 v 1
  let d : Device := { d with baro := { d.baro with drops := d.baro.drops.set (fun _ => 0) (t * 4 + kind) v' } }
  d.bump key

/-- PASS_DENIALS of a tenant and of the device advance. -/
def Device.passDenied (d : Device) (t : Nat) : Device := d.baroDrop t 1 Obj.baroPassDenials
/-- BULK_REFUSALS advance. -/
def Device.bulkRefused (d : Device) (t : Nat) : Device := d.baroDrop t 2 Obj.baroBulkRefusals
/-- THROTTLE_DROPS advance. -/
def Device.throttleDropped (d : Device) (t : Nat) : Device := d.baroDrop t 0 Obj.baroThrottleDrops

/-! ### Island reports (R336, R338) -/

/-- The bits of a port group's lanes are counted up to now (R336). -/
def Device.countIsland (d : Device) (isl : Nat) : Device :=
  if isl < 16 ∨ 20 ≤ isl then d else (List.range 32).foldl (fun d i => d.countLanes ((isl - 16) * 32 + i)) d

/-- The activity of an island, by category and tenant. -/
def islandPart (l : Assoc Nat) (isl : Nat) : List (Nat × Nat) :=
  (l.filter (fun e => e.1 / 4096 / 10 == isl)).map (fun e => (e.1 % (10 * 4096 * (isl + 1)) - isl * 10 * 4096, e.2))

/-- Add counts to an account map. -/
def addCounts (l : Assoc Nat) (xs : List (Nat × Nat)) : Assoc Nat :=
  xs.foldl (fun l e => l.set (fun _ => 0) e.1 (l.getD (fun _ => 0) e.1 + e.2)) l

/-- The lane bits of a category that no frame has taken, in 10⁻⁶ quarter bits; below zero where frames have been charged more
bits than their lanes have counted yet (log entry 8). -/
def Device.idleLeft (d : Device) (isl cat : Nat) (xs : List (Nat × Nat)) : Int :=
  d.baro.lanes.getD (fun _ => 0) (isl * 4 + cat)
    - 1000000 * ((xs.filter (fun e => e.1 / 4096 == cat)).map (fun e => e.2)).sum

/-- Lane bits that no frame took in a tick, charged to tenant 0 (R336). -/
def Device.idleLanes (d : Device) (isl : Nat) (xs : List (Nat × Nat)) : List (Nat × Nat) :=
  (List.range 4).map (fun cat => (cat * 4096, (d.idleLeft isl cat xs / 1000000).toNat))

/-- What a closed tick leaves of an island's lane bits: part of a quarter bit, or what frames were charged ahead. -/
def Device.lanesAfter (d : Device) (isl : Nat) (xs : List (Nat × Nat)) : Assoc Int :=
  (List.range 4).foldl (fun l cat =>
    let x := d.idleLeft isl cat xs
    l.set (fun _ => 0) (isl * 4 + cat) (if x < 0 then x else x % 1000000)) d.baro.lanes

/-- The reports that an island has closed and MGT has not received. -/
def Device.reportsOf (d : Device) (isl : Nat) : List TickReport := d.baro.reports.getD (fun _ => []) isl

/-- An island closes its open tick at a boundary: what it has counted, with the lane bits that no frame took, is its report. -/
def Device.islandClose (d : Device) (isl boundary : Nat) : Device :=
  let d := d.countIsland isl
  let xs := islandPart d.baro.activity isl
  let r : TickReport := ⟨boundary, xs ++ d.idleLanes isl xs, islandPart d.baro.thrown isl⟩
  { d with baro := { d.baro with
      activity := d.baro.activity.filter (fun e => e.1 / 4096 / 10 != isl)
      thrown := d.baro.thrown.filter (fun e => e.1 / 4096 / 10 != isl)
      lanes := d.lanesAfter isl xs
      reports := d.baro.reports.set (fun _ => []) isl (d.reportsOf isl ++ [r]) } }

/-- A report reaches MGT: its counts join the tick that is open, and one for a tick that MGT has closed is late. -/
def Device.takeReport (d : Device) (r : TickReport) : Device :=
  let d := if r.boundary * 10000 ≤ d.baro.lastClose then d.bump Obj.baroLateReports else d
  { d with baro := { d.baro with
      received := addCounts d.baro.received r.counts
      receivedThrown := addCounts d.baro.receivedThrown r.thrown } }

/-- Whether accounting runs: INIT, SERVICE, TEST and RECOVERY (R351). -/
def Device.accounts (d : Device) : Bool := d.dataRuns

/-- An island meets the multiples of 10 µs that its copy of the timestamp counter has passed since time `old` of it; a stopped
island closes nothing.  How often the HBM stacks refresh is open (log entry 1), and MEM counts it at its boundaries. -/
def Device.closeTicks (d : Device) (isl old : Nat) : Device :=
  if !d.accounts ∨ d.stopped isl then d
  else
    let b := old / 10000
    let d := (List.range (d.timeAt isl / 10000 - b)).foldl (fun d i => d.islandClose isl (b + i + 1)) d
    if isl = islMEM ∧ b < d.timeAt isl / 10000 ∧ !d.sys.hbmSelfRefresh then
      let r := d.takeFree
      r.2.tallyPlain islMEM 2 (r.1 % 2 ^ 48)
    else d

/-- ISLAND_TICK_REPORT (R338): the oldest report that an island has closed reaches MGT. -/
def execIslandTickReport (isl : Fin 25) (s : State) : Host.Outcome State Fault Refusal :=
  match s.d.accounts, s.d.reportsOf isl with
  | true, r :: rest =>
    let d : Device := { s.d with baro := { s.d.baro with reports := s.d.baro.reports.set (fun _ => []) isl rest } }
    .next { s with d := d.takeReport r }
  | _, _ => .next s

/-! ### Accounts (R339) -/

/-- An object of group 11 as Barometer took it at its last tick (R239). -/
def Device.setting (d : Device) (k : Nat) : Nat := d.baro.settings.getD objDefault k

/-- Barometer takes the objects of group 11: at each of its ticks, so from the first one after a flip (Table 8-2). -/
def Device.takeSettings (d : Device) : Device :=
  let ks := (List.range 10).map (fun i => Obj.baroPlanEnable + i) ++ (List.range 10).map Obj.coefOverride
  { d with baro := { d.baro with
      settings := ks.foldl (fun l k => l.set objDefault k (d.arr islMGT k)) d.baro.settings } }

/-- The coefficient in use of category `cat` (0 to 9) (R335). -/
def coefInUse (f : Assoc Nat) (d : Device) (cat : Nat) : Nat :=
  let o := d.setting (Obj.coefOverride cat)
  if o ≠ 0 then o else fuseCoef f cat

/-- The energy of a count in quarter fJ: lane bits are counted in quarters. -/
def quarterEnergy (f : Assoc Nat) (d : Device) (cat n : Nat) : Nat :=
  coefInUse f d cat * (if cat < 4 then n else 4 * n)

/-- Energy per tenant of counts keyed by category and tenant. -/
def energies (f : Assoc Nat) (d : Device) (l : Assoc Nat) : Assoc Nat :=
  addCounts [] (l.map (fun e => (e.1 % 4096, quarterEnergy f d (e.1 / 4096) e.2)))

/-- Quarter femtojoules in a microjoule. -/
def quartersPerUj : Nat := 4000000000

/-- Quarter femtojoules in a tick at 1 mW. -/
def quartersPerMwTick : Nat := 40000000

/-- An account after energy: the µJ total, which wraps at 2^64, and the carried remainder. -/
def Device.charges (d : Device) (account e : Nat) : Device :=
  let r := d.baro.remainders.getD (fun _ => 0) account + e
  { d with baro := { d.baro with
      accounts := d.baro.accounts.set (fun _ => 0) account
        (wrapAdd 64 (d.baro.accounts.getD (fun _ => 0) account) (r / quartersPerUj))
      remainders := d.baro.remainders.set (fun _ => 0) account (r % quartersPerUj) } }

/-- The account numbers of STATIC and of the device. -/
def acctStatic : Nat := 4096
/-- The device total. -/
def acctDevice : Nat := 4097

/-- Drop the zero ticks at the old end. -/
def trimTicks : List Nat → List Nat
  | [] => []
  | x :: xs => match x, trimTicks xs with
    | 0, [] => []
    | _, t => x :: t

/-- A tick's energy enters a history of `n` ticks. -/
def pushTick (n : Nat) (l : List Nat) (e : Nat) : List Nat := trimTicks ((e :: l).take n)

/-- Every history takes the tick's energy. -/
def pushAll (h : Assoc (List Nat)) (e : Assoc Nat) : Assoc (List Nat) :=
  let ks := (h.map Prod.fst ++ e.map Prod.fst).eraseDups
  ks.foldl (fun h k => h.set (fun _ => []) k (pushTick 100 (h.getD (fun _ => []) k) (e.getD (fun _ => 0) k))) h

/-- The average power of the last `n` ticks of a history in mW. -/
def avgMw (n : Nat) (l : List Nat) : Nat := (l.take n).sum / (n * quartersPerMwTick)

/-- The larger of the 100-tick and 10-tick averages (R346). -/
def forecastMw (l : List Nat) : Nat := max (avgMw 100 l) (avgMw 10 l)

/-! ### Planning (R347 to R351) -/

/-- A tenant's planning power P_T. -/
def Device.planMw (d : Device) (t : Nat) : Nat := forecastMw (d.baro.planHist.getD (fun _ => []) t)

/-- A tenant's share: the current-parity copy of ENERGY_SHARE. -/
def Device.share (d : Device) (t : Nat) : Nat := d.arr islMGT (Obj.tenEnergyShare t)

/-- A tenant's demand (R349). -/
def Device.demandMw (d : Device) (t : Nat) : Nat := d.planMw t * 1024 / d.admitFrac t

/-- The tenants over share. -/
def Device.overTenants (d : Device) : List Nat :=
  ((d.baro.planHist.map Prod.fst).filter (fun t => t != 0 && decide (d.demandMw t > d.share t)))

/-- One tenant's admission fraction at the new level (R349). -/
def Device.nextFrac (d : Device) (level t : Nat) (overs : Bool) : Nat :=
  let target :=
    if level ≥ 3 ∧ overs then max (d.setting Obj.baroAdmitFloor) (min 1024 (d.share t * 1024 / d.demandMw t)) else 1024
  let a := d.admitFrac t
  let st := d.setting Obj.baroAdmitStep
  if target < a then max target (a - st) else min target (a + st)

/-- Every fraction moves for the next tick. -/
def Device.moveFracs (d : Device) (overs : List Nat) : Device :=
  let ts := (overs ++ d.baro.admitFrac.map Prod.fst).eraseDups
  let new := ts.map (fun t => (t, d.nextFrac d.level t (overs.contains t)))
  { d with baro := { d.baro with
      admitFrac := new.foldl (fun l e => l.set (fun _ => 1024) e.1 e.2) d.baro.admitFrac } }

/-- Enter a level; both counts restart. -/
def Device.setLevel (d : Device) (n : Nat) : Device :=
  let d := d.put Obj.baroLevel n
  { d with baro := { d.baro with overCount := 0, underCount := 0 } }

/-- The release threshold. -/
def Device.releaseMw (d : Device) : Nat :=
  d.setting Obj.baroPowerCapMw * (1000 - d.setting Obj.baroReleaseMarginPm) / 1000

/-- One evaluation of Table 12-6 with forecast `f` and `over` tenants over share.  Barometer spaces its steps of k one every
fifth tick, upwards too (R446). -/
def Device.plan (d : Device) (f overs : Nat) : Device :=
  let cap := d.setting Obj.baroPowerCapMw
  let esc := d.setting Obj.baroEscalateTicks
  let rel := d.setting Obj.baroReleaseTicks
  let mask := d.setting Obj.baroStretchMask
  let minK := d.setting Obj.baroStretchMinK
  let d : Device := { d with baro := { d.baro with
    overCount := if f > cap then d.baro.overCount + 1 else 0
    underCount := if f ≤ d.releaseMw then d.baro.underCount + 1 else 0
    sinceK := d.baro.sinceK + 1 } }
  let up := decide (esc ≤ d.baro.overCount)
  let down := decide (rel ≤ d.baro.underCount)
  match d.level with
  | 0 => if f > cap then (d.setLevel 1).fire islMGT 768 f else d
  | 1 => if up then d.setLevel 2 else if down then (d.setLevel 0).fire islMGT 771 0 else d
  | 2 => if up then (d.setLevel 3).fire islMGT 769 overs else if down then d.setLevel 1 else d
  | 3 => if up then (d.setLevel 4).stretch mask (fun _ => max 15 minK) else if down then d.setLevel 2 else d
  | _ =>
    if f > cap ∧ 5 ≤ d.baro.sinceK then d.stretch mask (fun k => if k > minK then k - 1 else k)
    else if down then
      if (setBits 25 mask).any (fun i => decide (d.baroK i < 16)) then
        if 5 ≤ d.baro.sinceK then d.stretch mask (fun k => min 16 (k + 1)) else d
      else d.setLevel 3
    else d

/-- Every action ends at once (R351). -/
def Device.endPlanning (d : Device) : Device :=
  let d := if d.level = 0 then d else d.setLevel 0
  let d := d.stretch (2 ^ 25 - 1) (fun _ => 16)
  { d with baro := { d.baro with admitFrac := [] } }

/-- Whether Barometer plans (R351). -/
def Device.plans (d : Device) : Bool := d.forwards && d.setting Obj.baroPlanEnable == 1

/-! ### The ledger (Table 12-3) -/

/-- Byte 14 of a ledger entry. -/
def Device.ledgerFlags (d : Device) (t : Nat) : Nat :=
  b2n (d.baro.overShare.contains t) + 2 * b2n (d.denied t) + 4 * b2n (decide (d.admitFrac t < 1024))

/-- A tenant's ledger entry as it stands. -/
def Device.ledgerEntry (d : Device) (t : Nat) : Bytes :=
  beBytes 8 (d.baro.accounts.getD (fun _ => 0) t) ++ beBytes 4 (avgMw 100 (d.baro.history.getD (fun _ => []) t))
  ++ beBytes 2 (d.admitFrac t) ++ beBytes 1 (d.ledgerFlags t) ++ [0]
  ++ beBytes 8 (d.baroDrops t 0) ++ beBytes 4 (d.baroDrops t 1) ++ beBytes 4 (d.baroDrops t 2)

/-- The entries are captured at a tick close. -/
def Device.captureLedger (d : Device) (ts : List Nat) : Device :=
  ts.foldl (fun d t => d.memWrite Obj.domLedger (32 * t) (d.ledgerEntry t)) d

/-- TENANT of an SA in CRY's current copy (Table 9-1). -/
def Device.saOwner (d : Device) (s : Nat) : Nat :=
  bits (beAt (d.copyRead ((d.ptr islCRY).copy (d.ptr islCRY).parity 7) Obj.domSaTable (32 * s) 32) 0 8) 55 44

/-- Whether BULK deferral holds a job back: not one whose outcome is settled, nor a new one of a denied tenant, which the
sequencer takes (R348). -/
def Device.deferred (d : Device) (j : Job) : Bool :=
  j.cls == 0 && decide (1 ≤ d.level) && j.forced.isNone && !(j.serial.isNone && d.denied (d.saOwner j.sa))

/-- Whether a BULK job waits because of deferral (R348). -/
def Device.bulkWaits (d : Device) : Bool := (d.cry.queue ++ d.cry.suspended).any d.deferred

/-- The close of a tick at boundary time `t` (R339, R346 to R349), under the settings of this tick. -/
def Device.closeTick (f : Assoc Nat) (d : Device) (t : Nat) : Device :=
  let d := d.takeSettings
  let e := energies f d d.baro.received
  let thrown := energies f d d.baro.receivedThrown
  let st := d.get Obj.staticMw * quartersPerMwTick
  let total := (e.map (fun x => x.2)).sum + st
  let d := e.foldl (fun d x => d.charges x.1 x.2) d
  let d := (d.charges acctStatic st).charges acctDevice total
  let planned : Assoc Nat := e.map (fun x => (x.1, x.2 - thrown.getD (fun _ => 0) x.1))
  let d : Device := { d with baro := { d.baro with
    received := [], receivedThrown := []
    history := pushAll d.baro.history e
    planHist := pushAll d.baro.planHist planned
    device := (total :: d.baro.device).take 1024
    lastClose := t } }
  let d := (d.bump Obj.baroTicks).tallyPlain islMGT 5 1
  let fc := forecastMw d.baro.device
  let d := ((d.put Obj.baroForecastMw fc).put Obj.baroDevicePowerMw (avgMw 100 d.baro.device))
  let d := if fc > d.setting Obj.baroPowerCapMw then d.bump Obj.baroOverTicks else d
  let overs := d.overTenants
  let d := d.put Obj.baroTenantsOverShare overs.length
  let d : Device := { d with baro := { d.baro with overShare := overs } }
  let d := if d.plans then (d.plan fc overs.length).moveFracs overs else d.endPlanning
  let d := if d.bulkWaits then d.bump Obj.baroBulkDeferred else d
  let listed := (d.dict.mem.filter (fun (e : Nat × Byte) => e.1 / 2 ^ 32 == Obj.domLedger)).map (fun e => e.1 % 2 ^ 32 / 32)
  d.captureLedger ((d.baro.accounts.map Prod.fst ++ overs ++ d.baro.admitFrac.map Prod.fst ++ listed
    ++ d.baro.drops.map (fun (x : Nat × Nat) => x.1 / 4) ++ d.baro.history.map Prod.fst).eraseDups.filter (fun t => decide (t < 4096)))

/-- The boundary whose tick MGT closes next. -/
def Device.nextTick (d : Device) : Nat := d.baro.lastClose + 10000

/-- TICK_CLOSE (R338, R339): MGT closes a tick 5 µs after its boundary, in the states in which accounting runs. -/
def execTickClose (s : State) : Host.Outcome State Fault Refusal :=
  if s.d.accounts ∧ s.d.nextTick + 5000 ≤ s.d.now then
    .next { s with d := s.d.closeTick s.fuses s.d.nextTick }
  else .next s

/-! ### Calibration (R340, R341) -/

/-- RAIL_REPORT's START, END and POWER_MW are refused (R340). -/
def Device.railBad (d : Device) (b : Bytes) : Bool :=
  let st := beAt b 0 8
  let en := beAt b 8 8
  decide (en ≤ st) || decide (en - st < 100000) || decide (st + 10240000 < d.baro.lastClose)
  || decide (d.baro.lastClose < en)

/-- The modelled power over an interval in mW: each closed tick weighted by its overlap, truncated (log entry 9). -/
def Device.modelledMw (d : Device) (st en : Nat) : Nat :=
  let part := (List.range d.baro.device.length).map (fun i =>
    let hi := d.baro.lastClose - i * 10000
    let lo := hi - 10000
    d.baro.device.getD i 0 * (min hi en - max lo st))
  part.sum / (40000000 * (en - st))

/-- An accepted rail report (R341). -/
def Device.railReport (d : Device) (b : Bytes) : Device :=
  let e : Int := (beAt b 16 4 : Int) - d.modelledMw (beAt b 0 8) (beAt b 8 8)
  let sMw : Int := (d.get Obj.staticMw : Int) + tdiv e (2 ^ d.get Obj.calShift)
  let d := (d.put Obj.lastErrorMw (ofInt 32 e)).put Obj.staticMw (min 640000 sMw.toNat)
  let d := d.bump Obj.calReports
  if e.natAbs > d.get Obj.calAlarmMw then d.fire islMGT 772 (ofInt 64 e) else d

/-! ### Export (R343, R344) -/

/-- The export header of Table 12-4. -/
def Device.exportHeader (d : Device) (seq : Nat) : Bytes :=
  leBytes 8 seq ++ leBytes 8 d.baro.lastClose ++ leBytes 8 (d.baro.accounts.getD (fun _ => 0) acctDevice)
  ++ leBytes 8 (d.baro.accounts.getD (fun _ => 0) acctStatic) ++ leBytes 4 (d.get Obj.baroForecastMw)
  ++ leBytes 4 (d.setting Obj.baroPowerCapMw) ++ leBytes 1 d.level ++ zeros 23

/-- The tenant record of Table 12-5, from the entry captured at the last tick close. -/
def Device.exportRecord (d : Device) (t : Nat) : Bytes :=
  let e := d.memRead Obj.domLedger (32 * t) 16
  leBytes 8 (beAt e 0 8) ++ leBytes 4 (beAt e 8 4) ++ leBytes 2 (beAt e 12 2) ++ leBytes 2 (byteAt e 14)

/-- The 4,096 tenant records. -/
def Device.exportBody (d : Device) : Bytes := (List.range 4096).flatMap d.exportRecord

/-- One export, written by the PF's DMA or abandoned (R344); a PF that issues no DMA writes none, and the skip counts as an
export whose DMA fails (R399; DEDUCED, log entry 11). -/
def Device.exportLedger (d : Device) (instant : Nat) (written : Bool) : Device :=
  let d : Device := { d with baro := { d.baro with exportAt := instant } }
  if written ∧ d.dmaOk 0 then
    let n := d.get Obj.exportSequence + 1
    let base := d.get Obj.exportBase + (n % 2) * 0x11000
    let d := (d.dmaWrite 0 (base + 64) d.exportBody true).dmaWrite 0 base (d.exportHeader n) false
    (d.put Obj.exportSequence n).tallyPlain islMGT 2 2
  else (d.bump Obj.exportErrors).fire islMGT 773 0

/-- LEDGER_EXPORT (R343): a multiple of EXPORT_PERIOD_US has passed while EXPORT_ENABLE is 1; `written` says that the DMA does
not fail. -/
def execLedgerExport (written : Bool) (s : State) : Host.Outcome State Fault Refusal :=
  let n := s.d.now / us (s.d.get Obj.exportPeriodUs)
  if s.d.accounts ∧ s.d.get Obj.exportEnable = 1 ∧ s.d.baro.exportAt < n then
    .next { s with d := s.d.exportLedger n written }
  else .next s

end Sys2Proof.Machine
end

