-- ==== Sys2Proof/Machine/Sched.lean ====
section
/-!
DEFINITION. The egress queues and their scheduler: accounted length (R309 to R311), the hierarchy (R318, R319),
shapers (R312, R322), deficit round robin (R323), depth and sojourn (R326).
-/
namespace Sys2Proof.Machine

/-! ### The hierarchy -/

/-- Scheduler node keys: ports 0 to 131 and the roots of recirculation 132 to 135, then groups, tenant nodes and queues. -/
def groupNode (g : Nat) : Nat := 2 ^ 16 + g
/-- The node of a tenant node. -/
def tenantNode (n : Nat) : Nat := 2 * 2 ^ 16 + n
/-- The node of a queue. -/
def queueNode (q : Nat) : Nat := 3 * 2 ^ 16 + q
/-- The level of a node: 0 port, 1 group, 2 tenant node, 3 queue. -/
def nodeLevel (n : Nat) : Nat := n / 2 ^ 16
/-- The number of a node within its level. -/
def nodeNumber (n : Nat) : Nat := n % 2 ^ 16

/-- An entry of Table 11-4. -/
structure SchedEntry where
  enable : Bool := false
  parent : Nat := 0
  quantum : Nat := 0
  rate : Nat := 0
  burst : Nat := 0
  deriving DecidableEq, Repr

/-- The entry in 16 bytes. -/
def SchedEntry.ofBytes (b : Bytes) : SchedEntry :=
  let w0 := beAt b 0 8
  let w1 := beAt b 8 8
  { enable := bit w0 63, parent := bits w0 47 34, quantum := bits w0 19 0, rate := bits w1 63 34, burst := bits w1 23 0 }

/-- The reserved bits of an entry (Table 11-4). -/
def schedReserved (b : Bytes) : Bool := bits (beAt b 0 8) 62 48 != 0 || bits (beAt b 0 8) 33 20 != 0 || bits (beAt b 8 8) 33 24 != 0

/-- The domain of a level. -/
def levelDomain (lvl : Nat) : Nat :=
  if lvl = 1 then Obj.domSchedGroups else if lvl = 2 then Obj.domSchedTenantNodes else Obj.domSchedQueues

/-- A node's entry at a parity; a port's shaper is that of its port object (R322), an internal port has none. -/
def Device.entryOf (d : Device) (par : Bool) (n : Nat) : SchedEntry :=
  if nodeLevel n = 0 then
    if n < 128 then
      { enable := true, rate := d.cfg islSWC par (Obj.schedShapeRate n), burst := d.cfg islSWC par (Obj.schedShapeBurst n) }
    else { enable := true }
  else .ofBytes (d.cfgRead islSWC par (levelDomain (nodeLevel n)) (16 * nodeNumber n) 16)

/-- The root that drains a queue of Table 11-5: its internal port; the eight recirculation queues of port group `n` have
a root of their own, 132 + n, since that port group's parser drains them (DEDUCED, log entry 10). -/
def internalRoot (q : Nat) : Nat :=
  if q < 65480 then 128 else if q < 65512 then 132 + (q - 65480) / 8 else if q < 65520 then 130 else 131

/-- A node's parent at a parity (Table 11-4); the internal queues' parents are their ports. -/
def Device.parentOf (d : Device) (par : Bool) (n : Nat) : Nat :=
  match nodeLevel n with
  | 3 => if nodeNumber n ≥ 65472 then internalRoot (nodeNumber n) else tenantNode (d.entryOf par n).parent
  | 2 => groupNode (d.entryOf par n).parent
  | 1 => (d.entryOf par n).parent
  | _ => n

/-- A node's state. -/
def Device.node (d : Device) (n : Nat) : SchedNode := d.tm.nodes.getD (fun _ => {}) n

/-- Set a node's state. -/
def Device.setNode (d : Device) (n : Nat) (x : SchedNode) : Device :=
  { d with tm := { d.tm with nodes := d.tm.nodes.set (fun _ => {}) n x } }

/-- Check 10 (R319): the queue lies under the external port at a parity. -/
def Device.queueUnder (d : Device) (par : Bool) (q e : Nat) : Bool :=
  let eq := d.entryOf par (queueNode q)
  let en := d.entryOf par (tenantNode eq.parent)
  let eg := d.entryOf par (groupNode en.parent)
  decide (q < 65472) && eq.enable && en.enable && eg.enable && eg.parent == e

/-! ### Accounted length -/

/-- OVERHEAD of a profile as a signed number. -/
def Device.overhead (d : Device) (par : Bool) (a : Nat) : Int := toSigned 32 (d.cfg islSWC par (Obj.acctOverhead a))

/-- The accounted length A of `l` bytes under a profile (R310). -/
def Device.acct (d : Device) (par : Bool) (a l : Nat) : Int :=
  if d.devState = stSERVICE then (l : Int) + d.overhead par a else l

/-- The accounted length of a copy at its scheduler (R311); `accounted` of its frame is L (R309). -/
def Device.copyAcct (d : Device) (c : Copy) : Int :=
  let f := d.frame c.frame
  if c.port < 128 then d.acct f.parity (d.cfg islSWC f.parity (Obj.schedAcctProfile c.port)) f.accounted
  else f.accounted

/-! ### Shapers -/

/-- A bucket after a refill of `dt` nanoseconds at a rate in kb/s, limited to a burst in bytes (R312). -/
def refill (bucket : Option Int) (dt rate burst : Nat) : Int :=
  let cap : Int := burst * 8000000
  match bucket with
  | none => cap
  | some b => min cap (b + (min (dt * rate) (2 ^ 64 - 1) : Nat))

/-- Whether a node's shaper is eligible: unshaped, full, or at zero or more at its last update. -/
def SchedNode.eligible (x : SchedNode) : Bool :=
  x.rate == 0 || (match x.bucket with | none => true | some b => decide (0 ≤ b))

/-- Whether a node's shaper is eligible at an instant: as it was left, or its refill has reached zero since (R323). -/
def SchedNode.eligibleAt (x : SchedNode) (now : Nat) : Bool :=
  x.eligible || decide (0 ≤ refill x.bucket (now - x.last) x.rate x.burst)

/-- Update a node's shaper for a copy of a parity and charge `a` accounted bytes (R312, R322).  A node whose rate at the
copy is 0 has no shaper to charge, and starts full when it is shaped again (log entry 6). -/
def Device.charge (d : Device) (par : Bool) (a : Int) (n : Nat) : Device :=
  let e := d.entryOf par n
  let x := d.node n
  let b : Option Int :=
    if e.rate = 0 then none else some (refill x.bucket (d.now - x.last) x.rate e.burst - a * 8000000)
  d.setNode n { x with bucket := b, last := d.now, rate := e.rate, burst := e.burst }

/-! ### Lists of active children -/

/-- Whether a node has something to send. -/
def Device.nodeHas (d : Device) (n : Nat) : Bool :=
  if nodeLevel n = 3 then !(d.queueOf (nodeNumber n)).isEmpty else !(d.node n).list.isEmpty

/-- Bring a node's place in its parent's list up to date, and then its ancestors' (R323). -/
def Device.settle : Nat → Device → Nat → Device
  | 0, d, _ => d
  | fuel + 1, d, n =>
    if nodeLevel n = 0 then d
    else
      let x := d.node n
      let p := d.node x.parent
      let isIn := p.list.contains n
      let on := d.nodeHas n && x.eligibleAt d.now
      let d' :=
        if on && !isIn then
          (d.setNode n { x with deficit := 0, fresh := true }).setNode x.parent { p with list := p.list ++ [n] }
        else if !on && isIn then
          (d.setNode n { x with deficit := 0, fresh := true }).setNode x.parent { p with list := p.list.erase n }
        else d
      Device.settle fuel d' x.parent

/-- Record the ancestors of a queue at a parity. -/
def Device.link3 (d : Device) (par : Bool) (q : Nat) : Device :=
  let n := queueNode q
  let p := d.parentOf par n
  let d := d.setNode n { d.node n with parent := p }
  if nodeLevel p = 0 then d
  else
    let g := d.parentOf par p
    let d := d.setNode p { d.node p with parent := g }
    d.setNode g { d.node g with parent := d.parentOf par g }

/-! ### Depth and sojourn (R326) -/

/-- The offset of a queue's status entry. -/
def qsOff (q : Nat) : Nat := 32 * q

/-- The depth of a queue in cells. -/
def Device.queueDepth (d : Device) (q : Nat) : Nat := ((d.queueOf q).map (fun i => (d.copyRec i).cells)).sum

/-- The head-of-line sojourn of a queue. -/
def Device.headSojourn (d : Device) (q : Nat) : Nat :=
  match d.queueOf q with
  | [] => 0
  | i :: _ => d.now - (d.copyRec i).enqueued

/-- Raise a 32-bit maximum of a queue's status entry. -/
def Device.raiseQ (d : Device) (q off v : Nat) : Device :=
  let old := beNat (d.memRead Obj.domQueueStatus (qsOff q + off) 4)
  let v := min v 0xFFFFFFFF
  if old < v then d.memWrite Obj.domQueueStatus (qsOff q + off) (beBytes 4 v) else d

/-- A copy enters its queue. -/
def Device.enqueue (d : Device) (i : Nat) : Device :=
  let c := d.copyRec i
  let d := d.setCopy i { c with stage := .queued, enqueued := d.now }
  let d := d.setQueue c.queue (d.queueOf c.queue ++ [i])
  let d := d.raiseQ c.queue 8 (d.queueDepth c.queue)
  (d.link3 (d.frame c.frame).parity c.queue).settle 4 (queueNode c.queue)

/-- A copy leaves its queue without being chosen (R325). -/
def Device.unqueue (d : Device) (i : Nat) : Device :=
  let c := d.copyRec i
  (d.setQueue c.queue ((d.queueOf c.queue).erase i)).settle 4 (queueNode c.queue)

/-! ### The choice (R323) -/

/-- `next_copy` of a node, with its rotations committed; `fuel` bounds the rotations. -/
def Device.nextCopy : Nat → Device → Nat → Device × Option Nat
  | 0, d, _ => (d, none)
  | fuel + 1, d, n =>
    if nodeLevel n = 3 then (d, (d.queueOf (nodeNumber n)).head?)
    else
      match (d.node n).list with
      | [] => (d, none)
      | c :: rest =>
        match Device.nextCopy fuel d c with
        | (d, none) => (d, none)
        | (d, some i) =>
          let x := d.node c
          let cp := d.copyRec i
          let q : Int := (d.entryOf (d.frame cp.frame).parity c).quantum
          let x := if x.fresh then { x with deficit := x.deficit + q, fresh := false } else x
          if d.copyAcct cp ≤ x.deficit then (d.setNode c x, some i)
          else
            let d := (d.setNode c { x with fresh := true }).setNode n { d.node n with list := rest ++ [c] }
            Device.nextCopy fuel (d.bump Obj.tmSchedRotations) n

/-- The most rotations one choice takes. -/
def chooseFuel : Nat := 2 ^ 23

/-- The queue, tenant node and group of a copy that is charged. -/
def Device.copyNodes (d : Device) (c : Copy) : List Nat :=
  let q := queueNode c.queue
  let p := (d.node q).parent
  if nodeLevel p = 0 then [q] else [q, p, (d.node p).parent]

/-- A port's scheduler chooses its next copy: deficits and shapers are charged, the copy leaves its queue (R323, R326).
A port whose own shaper is negative chooses nothing. -/
def Device.chooseCopy (d : Device) (port : Nat) : Device × Option Nat :=
  if !(d.node port).eligibleAt d.now then (d, none)
  else
    match Device.nextCopy chooseFuel d port with
    | (d, none) => (d, none)
    | (d, some i) =>
      let c := d.copyRec i
      let f := d.frame c.frame
      let a := d.copyAcct c
      let ns := d.copyNodes c
      let d := ns.foldl (fun d n => d.setNode n { d.node n with deficit := (d.node n).deficit - a }) d
      let d := ns.foldl (fun d n => d.charge f.parity a n) d
      let d := d.charge f.parity a port
      let d := d.setQueue c.queue ((d.queueOf c.queue).erase i)
      let d := d.raiseQ c.queue 12 (d.now - c.enqueued)
      let d := (d.memBump Obj.domQueueStatus (qsOff c.queue + 16) 8 1).memBump Obj.domQueueStatus (qsOff c.queue + 24) 8 f.accounted
      let d := d.settle 4 (queueNode c.queue)
      let d := ns.foldl (fun d n => d.settle 4 n) d
      let d := d.tally islSWC 6 1 f.tenant
      (d.setCopy i { c with stage := .chosen }, some i)

end Sys2Proof.Machine
end

