-- ==== Sys2Proof/Machine/Pools.lean ====
section
/-!
DEFINITION. Cells, chains and pools (R286 to R294): the free counts, the taking of cells, and the pool operations of
R291, with the occupancy of the admission table (R300).
-/
namespace Sys2Proof.Machine

/-- The cells of the buffer. -/
def cellCount : Nat := 1572864

/-- The frames' own master (R288). -/
def masterFrames : Nat := 4161

/-! ### Free counts -/

/-- The chains that are allocated, with their heads. -/
def Device.liveChains (d : Device) : List (Nat × Chain) := d.swc.chains.filter (fun e => e.2.allocated)

/-- The cells in use. -/
def Device.cellsInUse (d : Device) : List Nat := d.liveChains.flatMap (fun e => e.2.cells)

/-- The cells allocated in a pool. -/
def Device.poolAllocated (d : Device) (p : Nat) : Nat :=
  ((d.liveChains.filter (fun e => e.2.pool == p)).map (fun e => e.2.cells.length)).sum

/-- A pool's free count (R289). -/
def Device.poolFree (d : Device) (p : Nat) : Nat := d.arr islSWC (Obj.poolSize p) - d.poolAllocated p

/-- FREE_CELLS as it reads: 0 while the pool is DISABLED (R294). -/
def Device.poolFreeRead (d : Device) (p : Nat) : Nat := if d.frostState 6 p = 3 then 0 else d.poolFree p

/-- DEVICE_FREE_CELLS. -/
def Device.deviceFree (d : Device) : Nat := cellCount - d.cellsInUse.length

/-! ### Taking cells (R286) -/

/-- The lowest free cell of a slice, if any, from the `k`-th on. -/
def freeInSlice (used : List Nat) (slice : Nat) : Nat → Nat → Option Nat
  | 0, _ => none
  | f + 1, k => if used.contains (8 * k + slice) then freeInSlice used slice f (k + 1) else some (8 * k + slice)

/-- A free cell of a slice, or of the next slice in ascending cyclic order that has one. -/
def freeCell (used : List Nat) : Nat → Nat → Option Nat
  | 0, _ => none
  | f + 1, slice =>
    match freeInSlice used (slice % 8) (min 196608 (used.length + 1)) 0 with
    | some c => some c
    | none => freeCell used f (slice + 1)

/-- `n` cells for a chain whose first is taken from slice `s`; the choice within a slice is the lowest free cell
(DESIGN CHOICE, log entry 7). -/
def takeCells : List Nat → Nat → Nat → List Nat
  | _, _, 0 => []
  | used, s, n + 1 =>
    match freeCell used 8 s with
    | some c => c :: takeCells (c :: used) (s + 1) n
    | none => []

/-! ### Occupancy (Table 10-20) -/

/-- The offset of (port, class) in the admission domains, per entry size. -/
def admOff (size p k : Nat) : Nat := size * (8 * p + k)

/-- ING_OCC. -/
def Device.ingOcc (d : Device) (p k : Nat) : Nat := beNat (d.memRead Obj.domAdmissionStatus (admOff 32 p k) 4)
/-- EG_OCC. -/
def Device.egOcc (d : Device) (p k : Nat) : Nat := beNat (d.memRead Obj.domAdmissionStatus (admOff 32 p k + 4) 4)
/-- Set ING_OCC. -/
def Device.setIngOcc (d : Device) (p k v : Nat) : Device := d.memWrite Obj.domAdmissionStatus (admOff 32 p k) (beBytes 4 v)
/-- Set EG_OCC, raising EG_PEAK. -/
def Device.setEgOcc (d : Device) (p k v : Nat) : Device :=
  let d := d.memWrite Obj.domAdmissionStatus (admOff 32 p k + 4) (beBytes 4 v)
  if beNat (d.memRead Obj.domAdmissionStatus (admOff 32 p k + 8) 4) < v then
    d.memWrite Obj.domAdmissionStatus (admOff 32 p k + 8) (beBytes 4 v)
  else d

/-! ### Pool operations (R291) -/

/-- The pool units' codes of an operation (Table 10-5). -/
inductive PoolStatus where
  | ok | empty | denied | notOwner | doubleFree | refLimit | badCount
  deriving DecidableEq, Repr

/-- The code of a status (Table 10-4). -/
def PoolStatus.code (s : PoolStatus) : Nat :=
  match s with
  | .ok => 0 | .empty => 1 | .denied => 2 | .notOwner => 3 | .doubleFree => 4 | .refLimit => 5 | .badCount => 6

/-- Who asks: the master, its rights on the pool by right number, the requester of Table 10-3, the slice its chain
starts at, the thread that holds it, and the tenant of the frame it is made for. -/
structure PoolAsk where
  master : Nat
  may : Nat → Bool
  requester : Nat
  slice : Nat := 0
  holder : Option Nat := none
  tenant : Option Nat := none

/-- Release a chain (R291): its record is kept, its cells are free, its ingress charge is returned (R300). -/
def Device.release (d : Device) (h : Nat) : Device :=
  let c := d.chain h
  let d := d.setChain h { c with allocated := false }
  match c.charge with
  | some (p, k) => d.setIngOcc p k (d.ingOcc p k - c.cells.length)
  | none => d

/-- A refused operation that names a handle (R292): 608 or 609 with the master and handle. -/
def Device.poolRefuse (d : Device) (counter event p m h : Nat) : Device :=
  (d.bump counter).fireOf islSWC event p (m * 2 ^ 48 + h) p

/-- ALLOC_CHAIN of `n` cells; cells written anew hold no error (R306). -/
def Device.poolAlloc (d : Device) (a : PoolAsk) (p n : Nat) : Device × PoolStatus × Nat :=
  if n = 0 then (d, .badCount, 0)
  else if a.master ≠ masterFrames ∧ !a.may rALLOC then ((d.bump (Obj.poolDenied p)).deny 3 a.master p, .denied, 0)
  else if d.frostState 6 p ≠ 0 ∨ d.poolFree p < n ∨ d.deviceFree < n then
    let d := d.bump (Obj.poolAllocFails p)
    (if d.frostState 6 p = 0 then d.fire islSWC (576 + p) (a.requester * 256 + n) else d, .empty, 0)
  else
    let cells := takeCells d.cellsInUse a.slice n
    match cells with
    | [] => (d, .empty, 0)
    | h :: _ =>
      let chains := d.swc.chains.filter (fun e => !cells.contains e.1)
      let c : Chain := { allocated := true, pool := p, refs := 1, owner := a.master, cells := cells,
                         frame := a.master == masterFrames, holder := a.holder }
      let d : Device := { d with swc := { d.swc with
        chains := Assoc.put chains h c, badCells := d.swc.badCells.filter (fun x => !cells.contains x) } }
      let d := d.bump (Obj.poolAllocs p)
      let free := d.poolFree p
      (if free < d.get (Obj.poolLowFree p) then d.put (Obj.poolLowFree p) free else d, .ok, h)

/-- The checks of R291 on a handle: `none` when the operation may go on. -/
def Device.poolHandle (d : Device) (a : PoolAsk) (p h : Nat) : Option PoolStatus :=
  match d.swc.chains.find h with
  | none => some .notOwner
  | some c =>
    if c.pool ≠ p ∨ (c.frame ∧ a.master ≠ masterFrames) then some .notOwner
    else if !c.allocated then some .doubleFree else none

/-- The counters and events of a status on a handle (R292). -/
def Device.poolCount (d : Device) (a : PoolAsk) (p h : Nat) (s : PoolStatus) : Device :=
  match s with
  | .notOwner => d.poolRefuse (Obj.poolNotOwnerCount p) 609 p a.master h
  | .doubleFree => d.poolRefuse (Obj.poolDoubleFrees p) 608 p a.master h
  | .denied => (d.bump (Obj.poolDenied p)).deny 3 a.master p
  | .refLimit => d.bump (Obj.poolRefLimits p)
  | _ => d

/-- INCREF of a handle. -/
def Device.poolIncrefOp (d : Device) (a : PoolAsk) (p h : Nat) : Device × PoolStatus :=
  let s : PoolStatus := match d.poolHandle a p h with
    | some s => s
    | none =>
      if a.master ≠ masterFrames ∧ !a.may rSHARE then .denied
      else if (d.chain h).refs = 255 then .refLimit else .ok
  if s = .ok then (d.setChain h { d.chain h with refs := (d.chain h).refs + 1 }, s)
  else (d.poolCount a p h s, s)

/-- DECREF of a handle. -/
def Device.poolDecrefOp (d : Device) (a : PoolAsk) (p h : Nat) : Device × PoolStatus :=
  let s : PoolStatus := match d.poolHandle a p h with
    | some s => s
    | none => if (d.chain h).owner ≠ a.master ∧ !a.may rRELEASE then .notOwner else .ok
  if s = .ok then
    let c := d.chain h
    let d := d.setChain h { c with refs := c.refs - 1 }
    (if c.refs ≤ 1 then d.release h else d, s)
  else (d.poolCount a p h s, s)

/-- FREE of a handle. -/
def Device.poolFreeOp (d : Device) (a : PoolAsk) (p h : Nat) : Device × PoolStatus :=
  let s : PoolStatus := match d.poolHandle a p h with
    | some s => s
    | none =>
      if (d.chain h).owner ≠ a.master then .notOwner
      else if a.master ≠ masterFrames ∧ !a.may rFREE then .denied else .ok
  if s = .ok then (d.release h, s) else (d.poolCount a p h s, s)

/-- A pool operation by its code (Table 10-5: 1 ALLOC_CHAIN to 4 FREE) with its argument; the head cell it names or made. -/
def Device.poolOp (d : Device) (a : PoolAsk) (op p arg : Nat) : Device × PoolStatus × Nat :=
  let d := match a.tenant with
    | some t => d.tally islSWC 7 1 t
    | none => d.tallyPlain islSWC 7 1
  match op with
  | 1 => d.poolAlloc a p (arg % 256)
  | 2 => let r := d.poolIncrefOp a p (arg % 2 ^ 21); (r.1, r.2, arg % 2 ^ 21)
  | 3 => let r := d.poolDecrefOp a p (arg % 2 ^ 21); (r.1, r.2, arg % 2 ^ 21)
  | _ => let r := d.poolFreeOp a p (arg % 2 ^ 21); (r.1, r.2, arg % 2 ^ 21)

/-- The head record of Table 10-2. -/
def headRecord (c : Chain) : Nat :=
  b2n c.allocated * 2 ^ 63 + c.pool * 2 ^ 58 + c.refs * 2 ^ 50 + c.owner * 2 ^ 37 + c.cells.length * 2 ^ 29
  + b2n c.frame * 2 ^ 28 + (match c.holder with | some t => 2 ^ 27 + t * 2 ^ 13 | none => 0)

/-- The switch core asks for itself (R288). -/
def ownAsk (requester slice : Nat) : PoolAsk :=
  { master := masterFrames, may := fun _ => true, requester := requester, slice := slice }

/-- The requester that releases a copy of a port (Table 10-3). -/
def releaseRequester (port : Nat) : Nat := if port < 128 then 20 + port / 32 else 24

/-! ### The order of a slice's requests (R290) -/

/-- The place of a requester in the order of the present SWC cycle, which starts at requester t mod 32. -/
def Device.poolRank (d : Device) (requester : Nat) : Nat := (requester + 32 - d.cycleOf islSWC % 32) % 32

/-- How many requests of a requester a slice takes in a cycle. -/
def poolQuota (requester : Nat) : Nat := if requester < 4 ∨ (20 ≤ requester ∧ requester < 26) then 4 else 1

/-- What a pool's slice has taken in its last cycle. -/
def Device.poolTurn (d : Device) (p : Nat) : Turn := d.swc.poolTurns.getD (fun _ => {}) (p % 8)

/-- Whether a pool's slice takes a request of a requester in the present SWC cycle. -/
def Device.poolOpen (d : Device) (p requester : Nat) : Bool :=
  (d.poolTurn p).allows (d.cycleOf islSWC) (d.poolRank requester) (poolQuota requester)

/-- A pool's slice has taken a request in the present cycle. -/
def Device.poolServed (d : Device) (p requester : Nat) : Device :=
  { d with swc := { d.swc with
      poolTurns := d.swc.poolTurns.set (fun _ => {}) (p % 8) ((d.poolTurn p).served (d.cycleOf islSWC) (d.poolRank requester)) } }

/-- Whether a waiting release is of a requester, for a slice. -/
def Device.releaseFor (d : Device) (slice requester : Nat) (x : Nat × Nat × Nat) : Bool :=
  x.1 == requester && (d.chain x.2.2).pool % 8 == slice

/-- A chain reference is released in its place (R304). -/
def Device.decrefNow (d : Device) (requester tenant h : Nat) : Device :=
  let p := (d.chain h).pool
  ((d.poolServed p requester).poolOp { ownAsk requester 0 with tenant := some tenant } 3 p h).1

/-- The releases of a requester that wait for a slice are executed, oldest first, as far as the present cycle takes them. -/
def Device.runReleasesOf : Nat → Device → Nat → Nat → Device
  | 0, d, _, _ => d
  | n + 1, d, slice, requester =>
    match d.swc.releases.find? (d.releaseFor slice requester) with
    | none => d
    | some x =>
      if d.poolOpen slice requester then
        Device.runReleasesOf n
          (Device.decrefNow { d with swc := { d.swc with releases := d.swc.releases.erase x } } requester x.2.1 x.2.2)
          slice requester
      else d

/-- The releases that wait for a slice are executed in requester order, those of the requesters before place `bound` of the
present cycle. -/
def Device.runReleases (d : Device) (slice bound : Nat) : Device :=
  if d.swc.releases.isEmpty then d
  else (List.range bound).foldl (fun d k => Device.runReleasesOf 4 d slice ((d.cycleOf islSWC + k) % 32)) d

/-- A pool's slice comes to a requester in the present cycle: the releases before it are executed, and it is served. -/
def Device.poolReach (d : Device) (p requester : Nat) : Device :=
  (d.runReleases (p % 8) (d.poolRank requester)).poolServed p requester

/-- A chain reference is released by the switch core (R304): at once where the slice has not passed the requester's place in the
present cycle, else in its place in a later one (R290). -/
def Device.decref (d : Device) (requester tenant h : Nat) : Device :=
  let p := (d.chain h).pool
  if d.poolOpen p requester ∧ !d.swc.releases.any (d.releaseFor (p % 8) requester) then
    (d.runReleases (p % 8) (d.poolRank requester)).decrefNow requester tenant h
  else { d with swc := { d.swc with releases := d.swc.releases ++ [(requester, tenant, h)] } }

/-- The present SWC cycle ends: every release that still has a place in it is executed. -/
def Device.closeSlices (d : Device) : Device :=
  if d.swc.releases.isEmpty then d else (List.range 8).foldl (fun d s => d.runReleases s 32) d

/-- `n` SWC cycles after the one numbered `from_` pass, with the releases that wait; the last one is left open. -/
def Device.passSlices (d : Device) (from_ n : Nat) : Device :=
  if d.swc.releases.isEmpty then d
  else
    let t := d.cycleOf islSWC
    let at_ := fun (d : Device) (c : Nat) =>
      ({ d with sys := { d.sys with cycles := d.sys.cycles.set (fun _ => 0) islSWC c } } : Device)
    at_ ((List.range (n - 1)).foldl (fun d i => (at_ d (from_ + i + 1)).closeSlices) d) t

end Sys2Proof.Machine
end

