-- ==== Sys2Proof/Machine/Frames.lean ====
section
/-!
DEFINITION. Frames and copies: entering and leaving the device and its census (R243), landing (R284), the removal of a
copy wherever it stands (R303, R304, Table 10-11), and what the expiry point does to one (R244, Table 8-4).
-/
namespace Sys2Proof.Machine

/-! ### Frames -/

/-- The island that counts a frame's leaving: its port group's until the switch core has it.  Only the sum over the islands is
observed (R243). -/
def Frame.island (f : Frame) : Nat :=
  match f.stage with
  | .reorder => islSWC
  | .admitting => islSWC
  | .switched => islSWC
  | _ => islPG f.pg

/-- A frame is kept under a new id. -/
def Device.putFrame (d : Device) (f : Frame) : Device × Nat :=
  let i := d.pkt.nextFrame
  ({ d with pkt := { d.pkt with frames := d.pkt.frames.put i f, nextFrame := i + 1 } }, i)

/-- A frame enters the device and the census of its parity in an island; its id. -/
def Device.newFrame (d : Device) (isl : Nat) (f : Frame) : Device × Nat := (d.censusIn isl f.parity).putFrame f

/-! ### The state of an SA for a frame, and verdicts (R253, R258, R260) -/

/-- Whether frames of a parity are those the draining front counts out. -/
def Device.isOld (d : Device) (par : Bool) : Bool := d.get Obj.draining == 1 && par == d.front.oldParity

/-- An SA's state for a frame of a parity: an old-parity frame keeps the state it began under (R253). -/
def Device.saFor (d : Device) (par : Bool) (s : Nat) : SaState :=
  if d.isOld par then (d.cry.oldSas.find s).getD (d.saState s) else d.saState s

/-- Set an SA's state for frames of a parity. -/
def Device.putSaFor (d : Device) (par : Bool) (s : Nat) (x : SaState) : Device :=
  if d.isOld par ∧ (d.cry.oldSas.find s).isSome then
    { d with cry := { d.cry with oldSas := d.cry.oldSas.put s x } }
  else d.setSa s x

/-- A verdict reaches a number's mark: on PASS it becomes accepted and RX_HIGHEST rises, on FAIL it is cleared (R258). -/
def SaState.settle (x : SaState) (n : Nat) (pass : Bool) : SaState :=
  let x := { x with waiting := x.waiting.erase n }
  if pass then
    let high := max x.rxHigh n
    { x with rxHigh := high, accepted := (n :: x.accepted).filter (fun m => decide (high < m + 1024)) }
  else x

/-- The verdict of a frame's ingress decryption leaves CRY (R260); a failure is counted whatever becomes of the frame (R279). -/
def Device.settleVerdict (d : Device) (i : Nat) : Device :=
  let f := d.frame i
  match f.verdictDue, f.sa with
  | some v, some s =>
    let d := (d.putSaFor f.parity s ((d.saFor f.parity s).settle f.saNumber v)).tally islCRY 5 1 f.tenant
    let d := if v then d
      else ((d.memBump Obj.domSaCounters (64 * s + 16) 8 1).bump Obj.cryAuthFails).fire islCRY 520 s
    d.setFrame i { f with verdict := some v, verdictDue := none }
  | _, _ => d

/-- Take a frame id out of every queue of a port group. -/
def PgState.forget (p : PgState) (i : Nat) : PgState :=
  { p with merge := p.merge.erase i, inject := p.inject.erase i, parser := p.parser.erase i,
           keyq := p.keyq.erase i, admitting := p.admitting.erase i }

/-- A frame is kept no longer, and lookup results on their way to it are lost. -/
def Device.removeFrame (d : Device) (i : Nat) : Device :=
  let f := d.frame i
  let d := d.setPg f.pg ((d.pgs f.pg).forget i)
  { d with
    pkt := { d.pkt with frames := d.pkt.frames.drop i }
    srh := { d.srh with results := d.srh.results.filter (fun r => r.frame != i) }
    swc := { d.swc with
      results := d.swc.results.set (fun _ => []) f.pg ((d.swc.results.getD (fun _ => []) f.pg).erase i) } }

/-- A frame leaves the device and the census of its parity. -/
def Device.leave (d : Device) (i : Nat) : Device :=
  let d := d.settleVerdict i
  let f := d.frame i
  (d.censusOut f.island f.parity).removeFrame i

/-- The copies of a frame. -/
def Device.copiesOf (d : Device) (i : Nat) : List Nat := (d.pkt.copies.filter (fun e => e.2.frame == i)).map Prod.fst

/-- A frame whose last copy has gone leaves. -/
def Device.leaveIfDone (d : Device) (i : Nat) : Device :=
  if d.hasFrame i && (d.copiesOf i).isEmpty then d.leave i else d

/-! ### Landing (R284, R285) -/

/-- The landing granules a frame of `n` bytes before its FCS takes. -/
def granules (n : Nat) : Nat := ceilDiv n 64

/-- LANDING_FREE of a port group's section. -/
def Device.landingFree (d : Device) (pg : Nat) : Nat :=
  65536 - ((d.pkt.frames.filter (fun e => e.2.pg == pg)).map (fun e => e.2.landed)).sum

/-- A frame lands in its port group's section. -/
def Device.land (d : Device) (i : Nat) : Device :=
  let f := d.frame i
  let d := d.setFrame i { f with landed := granules f.bytes.length }
  let free := d.landingFree f.pg
  if free < d.get (Obj.landingLow f.pg) then d.put (Obj.landingLow f.pg) free else d

/-- Whether a frame's section holds the granules it needs (R285). -/
def Device.roomToLand (d : Device) (i : Nat) : Bool :=
  decide (granules (d.frame i).bytes.length ≤ d.landingFree (d.frame i).pg)

/-- A frame that no engine takes lands and is handed to admission; while its section has no room it waits at the
dispatch input (R284, R285). -/
def Device.handToSwitch (d : Device) (i : Nat) : Device :=
  let f := d.frame i
  if d.roomToLand i then
    let d := (d.setFrame i { f with stage := .admitting }).land i
    d.setPg f.pg { d.pgs f.pg with admitting := (d.pgs f.pg).admitting ++ [i] }
  else
    let d := d.setFrame i { f with stage := .dispatchWait, since := d.now }
    d.setPg f.pg { d.pgs f.pg with keyq := (d.pgs f.pg).keyq ++ [i] }

/-! ### Skip markers (R303) -/

/-- A skip marker for a number of a stream sets out. -/
def Device.sendMarker (d : Device) (stream seq : Nat) : Device :=
  let d := (d.bump Obj.swcSkipMarkers).tallyPlain islSWC 4 1
  { d with swc := { d.swc with markers := d.swc.markers ++ [(stream, seq)] } }

/-! ### Copies -/

/-- A new copy; its id. -/
def Device.newCopy (d : Device) (c : Copy) : Device × Nat :=
  let i := d.pkt.nextCopy
  ({ d with pkt := { d.pkt with copies := d.pkt.copies.put i c, nextCopy := i + 1 } }, i)

/-- Take a copy out of wherever it stands, with its marker if it is in transit (Table 10-11). -/
def Device.detachCopy (d : Device) (i : Nat) : Device :=
  let c := d.copyRec i
  let k := streamKey c.port c.pg c.cls
  match c.stage with
  | .transit => d.sendMarker k c.seq
  | .held =>
    let s := d.stream k
    (d.setStream k { s with held := s.held.drop c.seq }).sendMarker k c.seq
  | .queued => d.unqueue i
  | .chosen =>
    d.setPort c.port { d.port c.port with tx := (d.port c.port).tx.erase i }

/-- A copy's record goes: its C returns to EG_OCC (R300), and its chain reference is released by a requester (R304). -/
def Device.dropRecord (d : Device) (requester i : Nat) : Device :=
  let c := d.copyRec i
  let d := d.setEgOcc c.port c.cls (d.egOcc c.port c.cls - c.cells)
  let d := if c.released then d else d.decref requester (d.frame c.frame).tenant c.chain
  { d with pkt := { d.pkt with copies := d.pkt.copies.drop i } }

/-- A copy ends, and the frame leaves with its last copy. -/
def Device.endCopy (d : Device) (requester i : Nat) : Device := (d.dropRecord requester i).leaveIfDone (d.copyRec i).frame

/-- A copy is dropped wherever it stands (requester 25). -/
def Device.dropCopy (d : Device) (i : Nat) : Device := (d.detachCopy i).endCopy 25 i

/-- A copy is taken by its consumer: transmitted, or handed over at an internal port (R304). -/
def Device.consumeCopy (d : Device) (i : Nat) : Device :=
  let c := d.copyRec i
  (d.detachCopy i).endCopy (releaseRequester c.port) i

/-! ### Expiry (R244) -/

/-- Whether a frame of a parity is one that the running expiry removes. -/
def Device.expires (d : Device) (parity : Bool) : Bool := d.front.expiring && parity == d.front.oldParity

/-- EXPIRED_FRAMES counts a frame once; the front keeps its own count for event 611. -/
def Device.countExpired (d : Device) (i : Nat) : Device :=
  let f := d.frame i
  if f.expiredOnce then d
  else
    let d := (d.bump Obj.frontExpiredFrames).setFrame i { f with expiredOnce := true }
    { d with front := { d.front with expired := d.front.expired + 1 } }

/-- SWC's current parity, with which it stamps (R243). -/
def Device.swcParity (d : Device) : Bool := (d.ptr islSWC).parity

/-- A result that sends a frame to the slow path for a reason. -/
def trapResult (f : Frame) (reason : Nat) : Result :=
  { disp := .trap, port := 128, cls := f.cls, tenant := f.tenant, parity := f.parity, reason := reason }

/-- The frame that expiry sends to the slow path, re-stamped by the switch core: reason 0x0A, and its parity the one SWC
stamps with.  One that has passed an engine keeps its edits, order domain and metadata (R298, Table 8-4). -/
def Device.restamped (d : Device) (f : Frame) : Frame :=
  let f := { f with parity := d.swcParity, reason := 0x0A, expiredOnce := false }
  if f.viaEngine then
    { f with result := { f.result with disp := .trap, mcast := false, reason := 0x0A, parity := f.parity } }
  else { f with result := trapResult f 0x0A }

/-- Whether a copy stands in a function that a flush empties: its frame's tenant, or its chain's pool (R101, R294). -/
def Device.copyFlushed (d : Device) (c : Copy) : Bool :=
  d.flushedTenant (d.frame c.frame).tenant || (!c.released && (d.frostFn 6 (d.chain c.chain).pool).flushing)

/-- A copy is expired: dropped; with EXPIRED_ACTION TRAP the first one of its frame keeps its chain as a copy of a
re-stamped frame queued to port 128 with reason 0x0A (Table 8-4); one whose reference went as the editor read it has none to keep
(R304). -/
def Device.expireCopy (d : Device) (i : Nat) : Device :=
  let c := d.copyRec i
  let f := d.frame c.frame
  let trap := d.front.trap && !f.expiredOnce
  let d := d.countExpired c.frame
  if !trap ∨ d.copyFlushed c then d.dropCopy i
  else
    let d := d.detachCopy i
    let d := d.setEgOcc c.port c.cls (d.egOcc c.port c.cls - c.cells)
    let r := d.newFrame islSWC { d.restamped f with direct := some (128, 65472 + c.cls), stage := .switched, landed := 0 }
    let d := r.1.setEgOcc 128 c.cls (r.1.egOcc 128 c.cls + c.cells)
    let d := d.setCopy i { c with frame := r.2, port := 128, queue := 65472 + c.cls, out := none, needsCrypto := false }
    (d.enqueue i).leaveIfDone c.frame

/-- A frame in the parser, at the key builder or at the dispatch input is expired (Table 8-4): dropped, or re-stamped, landed
(R284, R285) and handed to the switch core for port 128.  One that R85 has already given up is dropped under that cause.  A verdict still due settles under the parity that the frame began
with (R253). -/
def Device.expireFrame (d : Device) (i : Nat) : Device :=
  let f := d.frame i
  if f.denied then d.leave i
  else
    let d := d.countExpired i
    if !d.front.trap then d.leave i
    else
      let d := d.settleVerdict i
      let d := (d.censusOut f.island f.parity).censusIn islSWC d.swcParity
      let d := d.setPg f.pg ((d.pgs f.pg).forget i)
      (d.setFrame i { d.restamped f with direct := none }).handToSwitch i

/-- What a stage before the engines does with a frame that it holds or that reaches it while a flush of its tenant or expiry
runs (R101, R244): the frame is removed; `none` where neither concerns it. -/
def Device.sweep (d : Device) (i : Nat) : Option Device :=
  let f := d.frame i
  if d.flushedTenant f.tenant then some ((if f.denied then d else d.frostDrop f.tenant).leave i)
  else if d.expires f.parity then some (d.expireFrame i)
  else none

end Sys2Proof.Machine
end

