-- ==== Sys2Proof/Machine/Meter.lean ====
section
/-!
DEFINITION. Meters (R312 to R316, Tables 11-1 and 11-2).
-/
namespace Sys2Proof.Machine

/-- A meter entry (Table 11-1). -/
structure MeterCfg where
  mode : Nat := 0
  aware : Bool := false
  coupled : Bool := false
  redDrop : Bool := false
  profile : Nat := 0
  rate1 : Nat := 0
  burst1 : Nat := 0
  rate2 : Nat := 0
  burst2 : Nat := 0
  deriving DecidableEq, Repr

/-- The entry in 32 bytes. -/
def MeterCfg.ofBytes (b : Bytes) : MeterCfg :=
  let w0 := beAt b 0 8
  let w1 := beAt b 8 8
  let w2 := beAt b 16 8
  { mode := bits w0 63 62, aware := bit w0 61, coupled := bit w0 60, redDrop := bit w0 59, profile := bits w0 58 53,
    rate1 := bits w1 63 34, burst1 := bits w1 23 0, rate2 := bits w2 63 34, burst2 := bits w2 23 0 }

/-- The rules of R313 on an entry. -/
def meterOk (b : Bytes) : Bool :=
  let m := MeterCfg.ofBytes b
  let top := 800000000
  bits (beAt b 0 8) 52 0 == 0 && bits (beAt b 8 8) 33 24 == 0 && bits (beAt b 16 8) 33 24 == 0 && beAt b 24 8 == 0
  && (!m.coupled || m.mode == 3)
  && (m.mode == 0 || (decide (8 ≤ m.rate1) && decide (m.rate1 ≤ top)))
  && (m.mode != 2 || (decide (m.rate1 ≤ m.rate2) && decide (m.rate2 ≤ top)))
  && (m.mode != 3 || m.rate2 == 0 || (decide (8 ≤ m.rate2) && decide (m.rate2 ≤ top)))
  && (m.mode != 1 || m.rate2 == 0)

/-- The largest 64-bit value. -/
def max64 : Nat := 2 ^ 64 - 1

/-- Colours: 0 green, 1 yellow, 2 red; 3 is taken as red (R314). -/
def cGREEN : Nat := 0
/-- Yellow. -/
def cYELLOW : Nat := 1
/-- Red. -/
def cRED : Nat := 2

/-- Both buckets after the refill at `now` (R312, R314, R316). -/
def meterRefill (c : MeterCfg) (s : MeterState) (now : Nat) : MeterState :=
  let cap1 := c.burst1 * 8000000
  let cap2 := c.burst2 * 8000000
  let s := if c.mode ≠ s.mode then { s with t1 := cap1, t2 := cap2 } else s
  let dt := now - s.last
  let add1 := min (dt * c.rate1) max64
  let add2 := if c.mode = 1 then 0 else min (dt * c.rate2) max64
  let sum1 := min (s.t1 + add1) max64
  let spill := sum1 - min sum1 cap1
  let add2 := if c.mode = 1 ∨ (c.mode = 3 ∧ c.coupled) then min (add2 + spill) max64 else add2
  { t1 := min sum1 cap1, t2 := min (min (s.t2 + add2) max64) cap2, last := now, mode := c.mode }

/-- The colour of a frame of `b` micro-bits and the buckets it leaves (R314). -/
def meterColour (c : MeterCfg) (s : MeterState) (colourIn b : Nat) : MeterState × Nat :=
  let aware := c.aware
  if c.mode = 2 then
    if (aware ∧ colourIn = cRED) ∨ s.t2 < b then (s, cRED)
    else if (aware ∧ colourIn = cYELLOW) ∨ s.t1 < b then ({ s with t2 := s.t2 - b }, cYELLOW)
    else ({ s with t2 := s.t2 - b, t1 := s.t1 - b }, cGREEN)
  else
    if (¬aware ∨ colourIn = cGREEN) ∧ b ≤ s.t1 then ({ s with t1 := s.t1 - b }, cGREEN)
    else if (¬aware ∨ colourIn ≠ cRED) ∧ b ≤ s.t2 then ({ s with t2 := s.t2 - b }, cYELLOW)
    else (s, cRED)

/-- The SWC time of the meter updates of the present cycle: the first one's (R314, R317). -/
def Device.meterTime (d : Device) : Nat :=
  match d.swc.meterNow with
  | some (c, t) => if c = d.cycleOf islSWC then t else d.timeAt islSWC
  | none => d.timeAt islSWC

/-- One update of meter `i` for a frame of a parity, `l` bytes long (R314, R315): the device, the colour, and whether
the frame is dropped. -/
def Device.meter (d : Device) (i : Nat) (par : Bool) (colourIn l : Nat) : Device × Nat × Bool :=
  let c := MeterCfg.ofBytes (d.cfgRead islSWC par Obj.domMeters (32 * i) 32)
  if c.mode = 0 then (d.bump Obj.tmMeterOffFrames, colourIn, false)
  else
    let a := (d.acct par c.profile l).toNat
    let colourIn := if colourIn = 3 then cRED else colourIn
    let s0 := d.tm.meters.getD (fun _ => {}) i
    let r := meterColour c (meterRefill c s0 d.meterTime) colourIn (a * 8000000)
    let d : Device := { d with
      tm := { d.tm with meters := d.tm.meters.set (fun _ => {}) i r.1 }
      swc := { d.swc with meterNow := some (d.cycleOf islSWC, d.meterTime) } }
    let d := d.memBump Obj.domMeterCounters (32 * i + 8 * r.2) 8 a
    if r.2 = cRED ∧ c.redDrop then
      ((d.memBump Obj.domMeterCounters (32 * i + 24) 8 1).bump Obj.tmRedDrops, r.2, true)
    else (d, r.2, false)

/-- The state entry of Table 11-2. -/
def Device.meterStateBytes (d : Device) (i : Nat) : Bytes :=
  let s := d.tm.meters.getD (fun _ => {}) i
  beBytes 8 s.t1 ++ beBytes 8 s.t2 ++ beBytes 8 s.last ++ beBytes 1 s.mode ++ zeros 7

end Sys2Proof.Machine
end

