-- ==== Sys2Proof/Machine/SwitchCore.lean ====
section
/-!
DEFINITION. The switch core (chapter 10): engine reorder stage, admission, output resequencers, engine pool operations
and counter side effects.
-/
namespace Sys2Proof.Machine

/-! ### Isolation (R85) -/

/-- A check of Table 3-3 fails for a frame that acts as tenant `t`: tenant 0 is not checked; a frame is counted once, at
its first failure, and is dropped after the reorder stage. -/
def Device.failScope (d : Device) (i t : Nat) : Device :=
  let f := d.frame i
  if t = 0 ∨ f.denied ∨ !d.hasFrame i then d else (d.isolation t).setFrame i { f with denied := true }

/-! ### Engine reorder stage (R295, R296) -/

/-- Why a frame's result is a drop. -/
def dropFLUSH : Nat := 1
/-- A verify yield failed (R261). -/
def dropVERIFY : Nat := 2
/-- Expiry (R244). -/
def dropEXPIRED : Nat := 3

/-- A fetch met an uncorrectable store error: the trap stands although the cluster is flushed for it (R230). -/
def trapSTORE : Nat := 4

/-- A result of a frame whose tenant is being flushed becomes a DROP, counted once (R101). -/
def Device.flushResult (d : Device) (i : Nat) : Device :=
  let f := d.frame i
  if f.result.disp = .drop then d
  else
    let d := if f.denied then d else d.frostDrop f.tenant
    d.setFrame i { d.frame i with cause := dropFLUSH, result := { f.result with disp := .drop } }

/-- A result passes the stage: one of disposition DROP, or of a frame that expiry drops, goes no further (R203, R244); one that
expiry traps is re-stamped at admission (Table 8-4). -/
def Device.passResult (d : Device) (i : Nat) : Device :=
  let d := if d.flushedTenant (d.frame i).tenant then d.flushResult i else d
  let f := d.frame i
  let d := if f.result.torn then d.bump Obj.resultTorn else d
  let old := d.expires f.parity && !f.denied
  if old && (f.cause == dropEXPIRED || f.result.disp != .drop) && !d.front.trap then (d.countExpired i).leave i
  else if f.result.disp = .drop ∧ ¬(old ∧ f.cause = dropEXPIRED) then (d.bump Obj.resultDrop).leave i
  else
    let d := d.setFrame i { f with stage := .admitting }
    d.setPg f.pg { d.pgs f.pg with admitting := (d.pgs f.pg).admitting ++ [i] }

/-- An order domain's state. -/
def Device.orderDomain (d : Device) (n : Nat) : OrderDomain := d.swc.domains.getD (fun _ => {}) n

/-- Set an order domain's state. -/
def Device.setOrderDomain (d : Device) (n : Nat) (x : OrderDomain) : Device :=
  { d with swc := { d.swc with domains := d.swc.domains.set (fun _ => {}) n x } }

/-- Held results pass while they equal NEXT. -/
def Device.releaseHeld : Nat → Device → Nat → Device
  | 0, d, _ => d
  | fuel + 1, d, n =>
    let x := d.orderDomain n
    match x.held.find x.next with
    | none => d
    | some i =>
      let d := d.setOrderDomain n { x with held := x.held.drop x.next, next := (x.next + 1) % 65536, since := d.now }
      Device.releaseHeld fuel (d.passResult i) n

/-- A result of a domain and sequence number reaches the stage (R295). -/
def Device.reorder (d : Device) (i : Nat) : Device :=
  let f := d.frame i
  let x := d.orderDomain f.domain
  let dist := (f.seq + 65536 - x.next) % 65536
  if dist = 0 then
    let d := d.setOrderDomain f.domain { x with next := (x.next + 1) % 65536, since := d.now }
    (d.passResult i).releaseHeld (x.held.length + 1) f.domain
  else if dist < 32768 then
    d.setOrderDomain f.domain
      { x with held := x.held.put f.seq i, since := if x.held.isEmpty then d.now else x.since }
  else (d.bump Obj.swcReorderLateDrops).leave i

/-- Whether a frame's thread has asked a pool operation that the switch core has not executed yet: a frame that one denies is
dropped after the reorder stage and before a sequence number is assigned (R85), so its result waits for it. -/
def Device.poolAsked (d : Device) (i : Nat) : Bool :=
  d.eng.channel.any (fun e => e.2.any (fun x => match x.2 with
    | .pool _ _ _ _ j _ => j == i
    | .count _ _ _ _ => false))

/-- REORDER_RESULT (R295): the oldest engine result of a port group reaches the reorder stage. -/
def execReorderResult (pg : Fin 4) (s : State) : Host.Outcome State Fault Refusal :=
  match s.d.swc.results.getD (fun _ => []) pg with
  | [] => .next s
  | i :: rest =>
    if !s.d.dataRuns ∨ s.d.poolAsked i then .next s
    else
      let d : Device := { s.d with swc := { s.d.swc with results := s.d.swc.results.set (fun _ => []) pg rest } }
      .next { s with d := d.reorder i }

/-- The held sequence number nearest ahead of NEXT. -/
def lowestHeld (modulus next : Nat) : List Nat → Option Nat
  | [] => none
  | k :: ks =>
    match lowestHeld modulus next ks with
    | none => some k
    | some j => if (k + modulus - next) % modulus < (j + modulus - next) % modulus then some k else some j

/-- A domain has held a result for REORDER_HOLD_US without NEXT advancing (R296). -/
def Device.reorderTimeout (d : Device) (n : Nat) : Device :=
  let x := d.orderDomain n
  match lowestHeld 65536 x.next (x.held.map Prod.fst) with
  | none => d
  | some k =>
    if d.now < x.since + us (d.arr islSWC Obj.swcReorderHoldUs) then d
    else
      let d := (d.bumpBy Obj.swcReorderTimeouts ((k + 65536 - x.next) % 65536)).fire islSWC 612 n
      (d.setOrderDomain n { x with next := k, since := d.now }).releaseHeld (x.held.length + 1) n

/-- REORDER_TIMEOUT (R296). -/
def execReorderTimeout (dom : Fin 65536) (s : State) : Host.Outcome State Fault Refusal :=
  if s.d.dataRuns then .next { s with d := s.d.reorderTimeout dom } else .next s

/-! ### Admission (R297 to R301) -/

/-- Whether an engine result names port 129: RECIRC, or FORWARD to it (R32). -/
def Frame.recirculates (f : Frame) : Bool :=
  f.direct.isNone
  && (f.result.disp == .recirc || (f.result.disp == .forward && !f.result.mcast && f.result.port == 129))

/-- A port's STH EtherType at a parity in the switch core. -/
def Device.sthType (d : Device) (par : Bool) : Nat := d.cfg islSWC par Obj.sthEthertype

/-- A destination: port and queue. -/
abbrev Dest := Nat × Nat

/-- The valid members of a multicast group, in order (R299). -/
def Device.members (d : Device) (par : Bool) (g : Nat) : List Dest :=
  ((List.range 256).map (fun j => beNat (d.cfgRead islSWC par Obj.domMcastMembers (1024 * g + 4 * j) 4))).filterMap
    (fun m => if bit m 31 then some (bits m 30 24, bits m 23 8) else none)

/-- A multicast group's header. -/
def Device.groupHeader (d : Device) (par : Bool) (g : Nat) : Nat :=
  beNat (d.cfgRead islSWC par Obj.domMcastGroups (8 * g) 8)

/-- The destinations a frame's result names, before any check. -/
def Device.destinations (d : Device) (f : Frame) : List Dest :=
  match f.direct with
  | some x => [x]
  | none =>
    match f.result.disp with
    | .trap => [(128, 0)]
    | .recirc => [(129, 0)]
    | .drop => []
    | .forward => if f.result.mcast then d.members f.parity f.result.group else [(f.result.port, f.result.queue)]

/-- The queue a copy takes: internal ports take the queues of Table 11-5. -/
def queueTaken (pg cls port queue : Nat) : Nat :=
  match port with
  | 128 => 65472 + cls
  | 129 => 65480 + 8 * pg + cls
  | 130 => 65512 + cls
  | 131 => 65520 + cls
  | _ => queue

/-- Reasons set by the device or the parser, which need no TRAP right (Table 3-3). -/
def deviceReason (r : Nat) : Bool := (decide (1 ≤ r) && decide (r ≤ 5)) || (decide (7 ≤ r) && decide (r ≤ 10))

/-- A right bit of a tenant's context at a parity. -/
def Device.tenantRight (d : Device) (isl : Nat) (par : Bool) (t r : Nat) : Bool :=
  (d.cfg isl par (Obj.tenRights t)).testBit r

/-- Check 6 (Table 3-3, R85): the scope of a copy.  Of job output, JOB_PORT must be set in PORTS_ALLOWED, which names the
external ports alone (R274). -/
def Device.scopeOk (d : Device) (f : Frame) (x : Dest) : Bool :=
  let t := f.tenant
  if t = 0 then true
  else if x.1 < 128 then
    d.portAllowed islSWC f.parity t x.1
    && d.frostState 1 t != 3
    && (d.entryOf f.parity (queueNode x.2)).parent == d.cfg islSWC f.parity (Obj.tenQueueNode t)
  else if f.direct.isSome ∧ f.port = 130 then false
  else if x.1 = 128 then deviceReason f.reason || d.tenantRight islSWC f.parity t rTRAP
  else if x.1 = 130 then d.cfg islSWC f.parity (Obj.tenKeyCount t) != 0
  else true

/-- The tenants whose QUEUE_NODE is a tenant node at a parity. -/
def Device.nodeTenants (d : Device) (par : Bool) (n : Nat) : List Nat :=
  let c := (d.ptr islSWC).copy par 12
  ((if c then d.dict.copy1 else d.dict.copy0).filter (fun e =>
      decide (0xA000 ≤ e.1 / 256) && decide (e.1 / 256 < 0xB000) && e.1 % 256 == 5 && e.2 == n)).map
    (fun e => e.1 / 256 - 0xA000)

/-- Whether a tenant involved admits a frame that entered at a time (R102). -/
def Device.frostAdmits (d : Device) (t entered : Nat) : Bool :=
  let x := d.frostFn 1 t
  match d.frostState 1 t with
  | 0 => true
  | 1 => decide (entered < x.asked) && !x.flushing
  | _ => false

/-- Check 7 (R102). -/
def Device.frostOk (d : Device) (f : Frame) (x : Dest) : Bool :=
  let holders := if x.1 < 128 then d.nodeTenants f.parity (d.entryOf f.parity (queueNode x.2)).parent else []
  ((f.tenant :: holders).all (fun t => t == 0 || d.frostAdmits t f.entered))
  && (decide (128 ≤ x.1) || d.frostState 2 x.1 == 0)

/-- The edited length L of a frame (R225, R309). -/
def Device.edited (d : Device) (f : Frame) : Nat := editedLength f.bytes f.result (d.sthType f.parity)

/-- The outcome of checks 6 to 10 on a copy: the counter that advances and the tenant's, or `none`. -/
def Device.copyCheck (d : Device) (f : Frame) (x : Dest) : Option Nat :=
  if !d.scopeOk f x then some 6
  else if !d.frostOk f x then some 7
  else if x.1 < 128 ∧ d.link x.1 ≠ lkUP ∧ !d.holding x.1 then some 8
  else if x.1 < 128 ∧ d.cfg islSWC f.parity (Obj.portMaxFrame x.1) < d.edited f then some 9
  else if x.1 < 128 ∧ !d.queueUnder f.parity x.2 x.1 then some 10
  else none

/-- What a failed copy check counts (Table 10-6); the counters of a port that the active quad mode does not define do not advance
(R130). -/
def Device.countCheck (d : Device) (f : Frame) (x : Dest) (check : Nat) : Device :=
  let d := d.tally islSWC 3 1 f.tenant
  match check with
  | 6 => d.isolation f.tenant
  | 7 => (d.frostDrop f.tenant).bump Obj.swcFrostAdmitDrops
  | 8 => if d.defined x.1 then d.bump (Obj.pstDownAdmitDrops x.1) else d
  | 9 => d.bump Obj.resultOversize
  | _ => d.bump Obj.swcBadQueueDrops

/-- A frame fails a check of scope "frame": it is dropped, and its counter advances. -/
def Device.admitDrop (d : Device) (i : Nat) : Device := (d.tally islSWC 3 1 (d.frame i).tenant).leave i

/-- The admission entry of (port, class), taken on arrival (Table 10-19): ING_LIMIT, EG_LIMIT, POOL. -/
def Device.admEntry (d : Device) (p k : Nat) : Nat × Nat × Nat :=
  let b := d.arrRead islSWC Obj.domAdmissionTable (admOff 16 p k) 16
  (beAt b 0 4, beAt b 4 4, bits (byteAt b 8) 4 0)

/-- Check 12 over the copies in order: those admitted, with EG_OCC raised (R300). -/
def Device.egressLimit (d : Device) (f : Frame) (k c : Nat) : List Dest → Device × List Dest
  | [] => (d, [])
  | x :: xs =>
    if d.egOcc x.1 k + c ≤ (d.admEntry x.1 k).2.1 then
      let r := Device.egressLimit (d.setEgOcc x.1 k (d.egOcc x.1 k + c)) f k c xs
      (r.1, x :: r.2)
    else
      let d := d.memBump Obj.domAdmissionStatus (admOff 32 x.1 k + 24) 8 1
      Device.egressLimit (d.tally islSWC 3 1 f.tenant) f k c xs

/-- Return the EG_OCC of copies that a later check drops. -/
def Device.returnEgress (d : Device) (k c : Nat) (xs : List Dest) : Device :=
  xs.foldl (fun d x => d.setEgOcc x.1 k (d.egOcc x.1 k - c)) d

/-- A copy of an admitted frame takes the next number of its stream (R301). -/
def Device.addCopy (d : Device) (i : Nat) (k c chain : Nat) (x : Dest) : Device :=
  let f := d.frame i
  let st := d.stream (streamKey x.1 f.pg k)
  let d := d.setStream (streamKey x.1 f.pg k) { st with assign := (st.assign + 1) % 2 ^ 24 }
  (d.newCopy { frame := i, port := x.1, queue := queueTaken f.pg k x.1 x.2, cls := k, pg := f.pg, seq := st.assign,
               chain := chain, cells := c }).1

/-- The two chains of a frame admitted with h = 2, split from the chain allocated; with h = 1 the chain itself
(R299).  The chain carries the frame's bytes, its references and its ingress charge. -/
def Device.frameChains (d : Device) (h c s port k n : Nat) : Device × Nat × Nat :=
  let x := d.chain h
  let x1 := { x with cells := x.cells.take c, stored := s, refs := min n 255, charge := some (port, k) }
  let d := d.setChain h x1
  match x.cells.drop c with
  | [] => (d, h, h)
  | h2 :: _ => (d.setChain h2 { x1 with cells := x.cells.drop c, refs := n - 255 }, h, h2)

/-- Checks 13 and 14 and what follows them: cells, sequence numbers, copies (R298 to R301). -/
def Device.admitCopies (d : Device) (pipe i : Nat) (k c : Nat) (xs : List Dest) : Device :=
  let f := d.frame i
  let h := ceilDiv xs.length 255
  let a := d.admEntry f.port f.cls
  if d.ingOcc f.port f.cls + h * c > a.1 then
    let d := d.memBump Obj.domAdmissionStatus (admOff 32 f.port f.cls + 16) 8 1
    (d.returnEgress k c xs).admitDrop i
  else
    match (d.poolReach a.2.2 pipe).poolOp { ownAsk pipe (d.pgs pipe).slice with tenant := some f.tenant } 1 a.2.2 (h * c) with
    | (d, .ok, head) =>
      let d := d.setPg pipe { d.pgs pipe with slice := ((d.pgs pipe).slice + h * c) % 8 }
      let d := d.setIngOcc f.port f.cls (d.ingOcc f.port f.cls + h * c)
      let s := (editHead f.bytes f.result.head f.result.eIn).length
      let r := d.frameChains head c s f.port f.cls xs.length
      let d := if h = 2 then r.1.bump Obj.swcMcastSecondChains else r.1
      let d := (d.spend islSWC 8 f.tenant (h * c)).tally islSWC 0 (h * c) f.tenant
      let d := d.tally islSWC 2 1 f.tenant
      let d := if f.recirculates then d.spend islSWC 9 f.tenant 1 else d
      let d := d.setFrame i { f with stage := .switched, landed := 0, accounted := d.edited f, admitted := d.now }
      let d := (xs.take 255).foldl (fun d x => d.addCopy i k c r.2.1 x) d
      (xs.drop 255).foldl (fun d x => d.addCopy i k c r.2.2 x) d
    | (d, _, _) => ((d.bump (Obj.poolAdmitPoolDrops a.2.2)).returnEgress k c xs).admitDrop i

/-- Checks 6 to 14 on a frame with its destinations. -/
def Device.admitTo (d : Device) (pipe i : Nat) (xs : List Dest) : Device :=
  let f := d.frame i
  let d := xs.foldl (fun d x => match d.copyCheck f x with
    | some n => d.countCheck f x n
    | none => d) d
  let ok := xs.filter (fun x => (d.copyCheck f x).isNone)
  if ok.isEmpty then d.leave i
  else
    let m : Device × Nat × Bool := match f.result.meter with
      | some j => d.meter j f.parity f.result.colour (d.edited f)
      | none => (d, f.result.colour, false)
    let d := m.1.setFrame i { m.1.frame i with colour := m.2.1 }
    if m.2.2 then d.admitDrop i
    else
      let k := if f.viaEngine then f.result.cls else f.cls
      let c := ceilDiv (editHead f.bytes f.result.head f.result.eIn).length 128
      let r := d.egressLimit f k c ok
      if r.2.isEmpty then r.1.leave i else r.1.admitCopies pipe i k c r.2

/-- Checks 3 to 5 on a frame, then the copies'. -/
def Device.admitChecked (d : Device) (pipe i : Nat) : Device :=
  let f := d.frame i
  let xs := d.destinations f
  let forward := f.direct.isNone && f.result.disp == .forward
  let mcast := forward && f.result.mcast
  let hdr := d.groupHeader f.parity f.result.group
  if !mcast ∧ xs.any (fun x => x.1 != 0xFF && (decide (131 < x.1) || (decide (x.1 < 128) && !d.defined x.1))) then
    (d.bump Obj.swcInvalidPortDrops).admitDrop i
  else if forward ∧ (if mcast then !bit hdr 63 || xs.isEmpty else f.result.port == 0xFF) then
    (d.bump Obj.resultNoDest).admitDrop i
  else if mcast ∧ f.tenant ≠ 0 ∧ bits hdr 59 48 ≠ f.tenant then (d.isolation f.tenant).admitDrop i
  else d.admitTo pipe i xs

/-- A frame becomes TRAP 0x07 to port 128 (check 2). -/
def Device.recircTrap (d : Device) (i : Nat) : Device :=
  let f := d.frame i
  let d := d.bump (Obj.pgRecircLimitCount f.pg)
  d.setFrame i { f with reason := 0x07, result := { f.result with disp := .trap, mcast := false } }

/-- PASS_LIMIT of the profile a frame's tenant names (R158). -/
def Device.passLimit (d : Device) (f : Frame) : Nat :=
  d.cfg (islPG f.pg) f.parity (Obj.profPassLimit (d.cfg (islPG f.pg) f.parity (Obj.tenParseProfile f.tenant)))

/-- The reason a frame bears at the slow path: a program's TRAP, or a FORWARD to port 128 (R212). -/
def Frame.withReason (f : Frame) : Frame :=
  match f.result.disp with
  | .trap => if f.reason = 0 then { f with reason := trapReason f.result.reason } else f
  | .forward => if f.result.port = 128 ∧ !f.result.mcast then { f with reason := 0x06 } else f
  | _ => f

/-- An admission pipeline takes a frame (Table 10-6).  One that R85 has given up is dropped under that cause; one that expires is
dropped, or re-stamped here (Table 8-4).  A frame that bypassed the merge takes the time of its admission (R102). -/
def Device.admission (d : Device) (pipe i : Nat) : Device :=
  let f := if (d.frame i).direct.isSome ∧ !(d.frame i).inband then { d.frame i with entered := d.timeAt islSWC } else d.frame i
  let d := d.setFrame i f
  if f.denied then d.admitDrop i
  else if d.expires f.parity then
    let d := d.countExpired i
    if d.front.trap then
      let d := (d.censusOut islSWC f.parity).censusIn islSWC d.swcParity
      (d.setFrame i { d.restamped (d.frame i) with direct := none }).admitChecked pipe i
    else d.leave i
  else if f.viaEngine then
    let d := d.setFrame i f.withReason
    if f.recirculates then
      if d.passLimit f ≤ f.pass then (d.recircTrap i).admitChecked pipe i
      else if d.denied f.tenant then
        let d := d.passDenied f.tenant
        if d.setting Obj.baroDenyAction = 1 then (d.recircTrap i).admitChecked pipe i else d.admitDrop i
      else d.admitChecked pipe i
    else d.admitChecked pipe i
  else d.admitChecked pipe i

/-- The place of a pipeline in the order of the present SWC cycle: PG t mod 4 first, then ascending cyclic (R317). -/
def Device.admRank (d : Device) (pg : Nat) : Nat := (pg + 4 - d.cycleOf islSWC % 4) % 4

/-- The pool of the frame next at a pipeline (R300). -/
def Device.nextPool (d : Device) (pg : Nat) : Nat :=
  let f := d.frame ((d.pgs pg).admitting.headD 0)
  (d.admEntry f.port f.cls).2.2

/-- Whether a pipeline may take a frame in the present SWC cycle: up to four, in the order of R317 (R297), while the slice of the
pool that the frame would take its cells from has not passed the pipeline's place (R290). -/
def Device.admOpen (d : Device) (pg : Nat) : Bool :=
  d.swc.admTurn.allows (d.cycleOf islSWC) (d.admRank pg) 4 && d.poolOpen (d.nextPool pg) pg

/-- The next frame that has reached a pipeline is taken by it. -/
def Device.admitNext (d : Device) (pg i : Nat) : Device :=
  let p := d.pgs pg
  let d : Device := { d.setPg pg { p with admitting := p.admitting.drop 1 } with
    swc := { d.swc with admTurn := d.swc.admTurn.served (d.cycleOf islSWC) (d.admRank pg) } }
  d.admission pg i

/-- ADMISSION (R297): an admission pipeline takes the next frame that has reached it.  In a cycle in which it has taken four, or a
pipeline after it in the order has taken one, it takes none. -/
def execAdmission (pg : Fin 4) (s : State) : Host.Outcome State Fault Refusal :=
  match (s.d.pgs pg).admitting with
  | [] => .next s
  | i :: _ => if s.d.dataRuns ∧ s.d.admOpen pg then .next { s with d := s.d.admitNext pg i } else .next s

/-! ### Output resequencers (R302, R303) -/

/-- An item with the stream's NEXT number is released. -/
def Device.releaseItem (d : Device) (item : Option Nat) : Device :=
  match item with
  | some i => d.enqueue i
  | none => d

/-- Held items are released while they follow without a gap; the hole timer restarts. -/
def Device.releaseStream : Nat → Device → Nat → Device
  | 0, d, _ => d
  | fuel + 1, d, k =>
    let x := d.stream k
    match x.held.find x.next with
    | none => d
    | some item =>
      let d := d.setStream k { x with held := x.held.drop x.next, next := (x.next + 1) % 2 ^ 24, hole := d.now }
      Device.releaseStream fuel (d.releaseItem item) k

/-- A stream's NEXT passes its hole to the lowest held number, with event 610 and a cause (Table 10-10). -/
def Device.skipHole (d : Device) (k cause : Nat) : Device :=
  let x := d.stream k
  match lowestHeld (2 ^ 24) x.next (x.held.map Prod.fst) with
  | none => d
  | some n =>
    let port := k / 32
    let d := d.bumpBy (Obj.rsqHolesTimedOut port) ((n + 2 ^ 24 - x.next) % 2 ^ 24)
    let d := d.fireOf islSWC 610 port (cause * 2 ^ 56 + (k / 8 % 4) * 2 ^ 40 + port * 2 ^ 32 + k % 8) 0
    (d.setStream k { x with next := n, hole := d.now }).releaseStream (x.held.length + 1) k

/-- The streams of a port with held items. -/
def Device.heldStreams (d : Device) (port : Nat) : List (Nat × Stream) :=
  d.swc.streams.filter (fun e => e.1 / 32 == port && !e.2.held.isEmpty)

/-- HELD_ITEMS of a port. -/
def Device.heldItems (d : Device) (port : Nat) : Nat := ((d.heldStreams port).map (fun e => e.2.held.length)).sum

/-- The port's stream with the oldest hole. -/
def oldestHole : List (Nat × Stream) → Option (Nat × Stream)
  | [] => none
  | e :: es => match oldestHole es with
    | none => some e
    | some x => if x.2.hole < e.2.hole then some x else some e

/-- A ready copy or a marker of a stream and number is taken by its stream (Table 10-10). -/
def Device.takeItem (d : Device) (k seq : Nat) (item : Option Nat) : Device :=
  let x := d.stream k
  let dist := (seq + 2 ^ 24 - x.next) % 2 ^ 24
  if dist = 0 then
    let d := d.setStream k { x with next := (x.next + 1) % 2 ^ 24, hole := d.now }
    (d.releaseItem item).releaseStream (x.held.length + 1) k
  else if dist < 2 ^ 23 then
    let d := d.setStream k { x with held := x.held.put seq item, hole := if x.held.isEmpty then d.now else x.hole }
    let d := d.tallyPlain islSWC 5 1
    match item with
    | some i => d.setCopy i { d.copyRec i with stage := .held }
    | none => d
  else
    match item with
    | some i => (d.bump (Obj.rsqReseqLateDrops (k / 32))).endCopy 25 i
    | none => d

/-- Whether an item of a stream and number would be held (Table 10-10). -/
def Device.itemAhead (d : Device) (k seq : Nat) : Bool :=
  let dist := (seq + 2 ^ 24 - (d.stream k).next) % 2 ^ 24
  dist != 0 && decide (dist < 2 ^ 23)

/-- An item reaches the resequencer; when it would make the port's held items exceed 16,384, the port's stream with the
oldest hole skips that hole first (Table 10-10, row FULL). -/
def Device.resequence (d : Device) (k seq : Nat) (item : Option Nat) : Device :=
  let d :=
    if d.itemAhead k seq ∧ 16384 ≤ d.heldItems (k / 32) then
      match oldestHole (d.heldStreams (k / 32)) with
      | some e => (d.bump (Obj.rsqReseqFull (k / 32))).skipHole e.1 2
      | none => d
    else d
  d.takeItem k seq item

/-- COPY_READY (R302): a copy whose cells are all written reaches its resequencer. -/
def execCopyReady (copy : Nat) (s : State) : Host.Outcome State Fault Refusal :=
  let c := s.d.copyRec copy
  if s.d.dataRuns ∧ (s.d.pkt.copies.find copy).isSome ∧ c.stage = .transit then
    .next { s with d := s.d.resequence (streamKey c.port c.pg c.cls) c.seq (some copy) }
  else .next s

/-- The oldest marker on its way to a port, and the others. -/
def takeMarker (port : Nat) : List (Nat × Nat) → Option ((Nat × Nat) × List (Nat × Nat))
  | [] => none
  | m :: ms => if m.1 / 32 = port then some (m, ms)
    else match takeMarker port ms with
      | some (x, r) => some (x, m :: r)
      | none => none

/-- SKIP_MARKER (R303): the oldest marker on its way to a port reaches the resequencer. -/
def execSkipMarker (p : Fin 132) (s : State) : Host.Outcome State Fault Refusal :=
  match takeMarker p s.d.swc.markers with
  | none => .next s
  | some (m, rest) =>
    if s.d.dataRuns then
      let d : Device := { s.d with swc := { s.d.swc with markers := rest } }
      .next { s with d := d.resequence m.1 m.2 none }
    else .next s

/-- RESEQ_TIMEOUT (Table 10-10): a stream's hole timer has reached RESEQ_TIMEOUT_US. -/
def execReseqTimeout (p : Fin 132) (pg : Fin 4) (cls : Fin 8) (s : State) : Host.Outcome State Fault Refusal :=
  let k := streamKey p pg cls
  let x := s.d.stream k
  if s.d.dataRuns ∧ !x.held.isEmpty ∧ x.hole + us (s.d.arr islSWC (Obj.rsqReseqTimeoutUs p)) ≤ s.d.now then
    .next { s with d := s.d.skipHole k 1 }
  else .next s

/-! ### Side effects of the engines (R214, R215, R371) -/

/-- The side effect at the head of a cluster's channel to the switch core. -/
def Device.channelHead (d : Device) (c : Nat) : Option (Nat × SideEffect) := (d.eng.channel.getD (fun _ => []) c).head?

/-- The channel without its head. -/
def Device.popChannel (d : Device) (c : Nat) : Device :=
  { d with eng := { d.eng with channel := d.eng.channel.set (fun _ => []) c ((d.eng.channel.getD (fun _ => []) c).drop 1) } }

/-- A counter that changed enters the change log (R430). -/
def Device.logCounter (d : Device) (page i : Nat) : Device :=
  if d.ev.logged.contains (page, i) then d
  else if d.ev.logged.length < 4096 then { d with ev := { d.ev with logged := d.ev.logged ++ [(page, i)] } }
  else d.put Obj.logOverflow 1

/-- A counter side effect is counted (R371). -/
def Device.countSide (d : Device) (tenant counter bytes : Nat) (par : Bool) : Device :=
  let page := d.cfg islSWC par (Obj.tenCounterPage tenant)
  if page ≥ 4096 ∨ 256 ≤ counter then d.bump Obj.uncounted
  else
    let o := 4096 * page + 16 * counter
    ((d.memBump Obj.domCounterPages o 8 1).memBump Obj.domCounterPages (o + 8) 8 bytes).logCounter page counter

/-- COUNTER_SIDE_EFFECT (R371): a counter side effect at the head of a cluster's channel reaches SWC. -/
def execCounterSideEffect (c : Fin 16) (s : State) : Host.Outcome State Fault Refusal :=
  match s.d.channelHead c with
  | some (_, .count t n b par) =>
    if s.d.dataRuns then .next { s with d := (s.d.popChannel c).countSide t n b par } else .next s
  | _ => .next s

/-- The engine pool operation at the head of a cluster's channel is executed in its turn, and its answer sets out (R215,
R290). -/
def Device.enginePool (d : Device) (c op : Nat) : Device :=
  match d.channelHead c with
  | some (k, .pool o p arg t i par) =>
    if o ≠ op ∨ !d.dataRuns ∨ !d.poolOpen p (4 + c) then d
    else
      let d := (d.popChannel c).poolReach p (4 + c)
      let owns := match d.thread? k with
        | some x => x.frame == i && x.poolPending
        | none => false
      let ask : PoolAsk :=
        { master := t, may := fun r => d.mayFrame islSWC par 3 t p r, requester := 4 + c,
          holder := if owns then some k else none, tenant := some t }
      let r := d.poolOp ask o p arg
      let d := if r.2.1 = .denied then r.1.failScope i t else r.1
      if owns then { d with eng := { d.eng with poolAnswers := d.eng.poolAnswers ++ [(k, r.2.1.code, r.2.2)] } } else d
  | _ => d

end Sys2Proof.Machine
end

