-- ==== Sys2Proof/Machine/Ports.lean ====
section
/-!
DEFINITION. Ports and links (chapter 04): the link state machine, Lull, port reset, tenant identification at the MAC,
admission throttling and the MAC's transmission.
-/
namespace Sys2Proof.Machine

/-! ### The frame in transmission -/

/-- The copy a port's MAC is sending: the first one chosen, once it needs no more encryption, while the link is UP. -/
def Device.transmitting (d : Device) (p : Nat) : Option Nat :=
  if d.link p = lkUP then
    match (d.port p).tx with
    | i :: _ => if (d.copyRec i).needsCrypto then none else some i
    | [] => none
  else none

/-- The frame in transmission is cut short (R114). -/
def Device.abortTx (d : Device) (p : Nat) : Device :=
  match d.transmitting p with
  | some i => (d.bump (Obj.pstTxAborted p)).consumeCopy i
  | none => d

/-! ### Training -/

/-- The island of a port. -/
def portIsl (p : Nat) : Nat := islPG (p / 32)

/-- ALIGNING, with its 50 ms timer (Table 4-4). -/
def Device.align (d : Device) (p : Nat) : Device :=
  (d.setLink p lkALIGNING).setPort p { d.port p with timer := d.now + 50000000 }

/-- Training starts or restarts: the training timer runs (R111).  With TRAINING = 0 the port has nothing to train, so it goes
on to ALIGNING by the row of Table 4-4 that stands above the timeout's (R10, R110, R112). -/
def Device.train (d : Device) (p : Nat) : Device :=
  if d.arr (portIsl p) (Obj.portTraining p) = 0 then d.align p
  else
    (d.setLink p lkTRAINING).setPort p
      { d.port p with timer := d.now + 1000000 * d.arr (portIsl p) Obj.trainTimeoutMs }

/-- A defined port in OFF with ENABLE = 1 trains in INIT, SERVICE, TEST and RECOVERY (Table 4-4); a port that is
DISABLED under Frost stays down (Table 3-10, log entry 13). -/
def Device.startLink (d : Device) (p : Nat) : Device :=
  if d.defined p ∧ d.link p = lkOFF ∧ d.get (Obj.portEnable p) = 1 ∧ d.dataRuns ∧ d.frostState 2 p ≠ 3 then d.train p
  else d

/-- A port leaves UP, or any other state, for a state: the frame in transmission is cut short and cause DOWN fires from
UP. -/
def Device.leaveTo (d : Device) (p next : Nat) : Device :=
  if d.link p = lkUP then ((d.abortTx p).fireLink p 2).setLink p next else d.setLink p next

/-! ### Lull (R123 to R128) -/

/-- The copies of a port that a hold covers: in transit, held by the resequencer, queued, or chosen and not being sent. -/
def Device.heldCopies (d : Device) (p : Nat) : List Nat :=
  ((d.pkt.copies.filter (fun e => e.2.port == p)).map Prod.fst).filter (fun i => d.transmitting p != some i)

/-- The markers sent since a point are applied to their streams at once (R127). -/
def Device.applyMarkers (d : Device) (from_ : Nat) : Device :=
  let ms := d.swc.markers.drop from_
  let d : Device := { d with swc := { d.swc with markers := d.swc.markers.take from_ } }
  ms.foldl (fun d m => d.resequence m.1 m.2 none) d

/-- Copies dropped with a counter, and the resequencer cleared of their numbers (R125 to R127). -/
def Device.lullDrop (d : Device) (counter : Nat) (ids : List Nat) : Device :=
  let n := d.swc.markers.length
  (ids.foldl (fun d i => (d.bump counter).dropCopy i) d).applyMarkers n

/-- A flush of a port (R126). -/
def Device.flushPort (d : Device) (p : Nat) : Device := d.lullDrop (Obj.pstLullFlushDrops p) (d.heldCopies p)

/-- A stale purge of a port (R125): the frames whose age since admission exceeds the stale age. -/
def Device.stalePurge (d : Device) (p : Nat) : Device :=
  d.lullDrop (Obj.pstLullStaleDrops p) ((d.heldCopies p).filter (fun i =>
    decide (us (d.port p).holdStale < d.now - (d.frame (d.copyRec i).frame).admitted)))

/-- HOLD_STATE returns to 0. -/
def Device.holdOver (d : Device) (p : Nat) : Device := d.put (Obj.pstHoldState p) 0

/-- A hold that runs ends by flush, with cause LULL_FLUSHED (Table 4-9). -/
def Device.holdFlush (d : Device) (p : Nat) : Device :=
  if d.holding p then ((d.holdOver p).flushPort p).fireLink p 4 else d

/-- A port has left UP for TRAINING, other than by PORT_RESET 2 (Table 4-9, state NONE).  HOLD_START is the time of the port
group's copy of the timestamp counter (R25). -/
def Device.holdStart (d : Device) (p : Nat) : Device :=
  let w := d.arr (portIsl p) (Obj.portLullWindowUs p)
  if w = 0 then (d.flushPort p).fireLink p 4
  else
    let d := d.setPort p { d.port p with holdWindow := w, holdStale := d.arr (portIsl p) (Obj.portStaleAgeUs p) }
    ((d.put (Obj.pstHoldState p) 1).put (Obj.pstHoldStart p) (d.timeAt (portIsl p))).bump (Obj.pstHolds p)

/-! ### Commands of the link -/

/-- The lanes of a defined port. -/
def Device.lanes (d : Device) (p : Nat) : List Nat := (List.range (modeLanes (d.quadMode p))).map (fun i => p + i)

/-- RX_SIGNAL of a port's lanes. -/
def Device.setSignal (d : Device) (p v : Nat) : Device := (d.lanes p).foldl (fun d l => d.put (Obj.laneRxSignal l) v) d

/-- TRAINING_COMPLETE (Table 4-4): all lanes trained, or TRAINING = 0. -/
def execTrainingComplete (p : Fin 128) (s : State) : Host.Outcome State Fault Refusal :=
  if s.d.link p = lkTRAINING then .next { s with d := (s.d.setSignal p 1).align p } else .next s

/-- The training timer of a port in TRAINING has run out. -/
def Device.trainingOver (d : Device) (p : Nat) : Device :=
  if d.arr (portIsl p) (Obj.portTraining p) = 0 then d.align p
  else ((d.bump (Obj.pstTrainFails p)).fireLink p 5).train p

/-- TRAINING_TIMEOUT (R111): the training timer has expired. -/
def execTrainingTimeout (p : Fin 128) (s : State) : Host.Outcome State Fault Refusal :=
  if s.d.link p = lkTRAINING ∧ (s.d.port p).timer ≤ s.d.now then
    .next { s with d := s.d.trainingOver p }
  else .next s

/-- The link reaches UP (Table 4-4), and a hold that runs resumes (Table 4-9, R125).  The purge comes before transmission can
start, so it covers a copy chosen before the link fell. -/
def Device.linkUp (d : Device) (p : Nat) : Device :=
  let holds := d.holding p
  let d := if holds then d.stalePurge p else d
  let d := (((d.setSignal p 1).setLink p lkUP).bump (Obj.pstLinkUps p)).fireLink p 1
  if holds then (d.holdOver p).fireLink p 3 else d

/-- ALIGNMENT_LOCK (Table 4-4). -/
def execAlignmentLock (p : Fin 128) (s : State) : Host.Outcome State Fault Refusal :=
  if s.d.link p = lkALIGNING then .next { s with d := s.d.linkUp p } else .next s

/-- ALIGNMENT_TIMEOUT (Table 4-4): the 50 ms timer has expired. -/
def execAlignmentTimeout (p : Fin 128) (s : State) : Host.Outcome State Fault Refusal :=
  if s.d.link p = lkALIGNING ∧ (s.d.port p).timer ≤ s.d.now then .next { s with d := s.d.train p } else .next s

/-- A down condition has lasted (R113); `lost` has a bit for each lane whose signal is lost. -/
def Device.linkDown (d : Device) (p lost : Nat) : Device :=
  let d := ((d.lanes p).filter (fun l => lost.testBit (l - p))).foldl (fun d l => d.put (Obj.laneRxSignal l) 0) d
  (((d.leaveTo p lkTRAINING).bump (Obj.pstLinkDowns p)).train p).holdStart p

/-- LINK_DOWN (R113). -/
def execLinkDown (p : Fin 128) (lostLanes : Nat) (s : State) : Host.Outcome State Fault Refusal :=
  if s.d.link p = lkUP then .next { s with d := s.d.linkDown p lostLanes } else .next s

/-- The hold's window has passed (R124). -/
def Device.windowOver (d : Device) (p : Nat) : Bool :=
  d.holding p && decide (d.get (Obj.pstHoldStart p) + us (d.port p).holdWindow ≤ d.timeAt (portIsl p))

/-- LULL_WINDOW_EXPIRY (Table 4-9). -/
def execLullWindowExpiry (p : Fin 128) (s : State) : Host.Outcome State Fault Refusal :=
  if s.d.windowOver p then .next { s with d := (s.d.bump (Obj.pstLullExpired p)).holdFlush p } else .next s

/-! ### Effects of writes (R107, R115, R129) -/

/-- Whether a quad's mode may be written (R107): its active mode is OFF, or every port it defines is DISABLED. -/
def Device.quadFree (d : Device) (q : Nat) : Bool :=
  let m := d.active (Obj.quadMode q)
  m == 0 || ((List.range 4).map (fun i => 4 * q + i)).all (fun p => !modeDefines m p || d.frostState 2 p == 3)

/-- An accepted QUAD_MODE write: the shadow mode, and the shadow FEC of the new mode's ports (R107). -/
def Device.quadWrite (d : Device) (q m : Nat) : Device :=
  (((List.range 4).map (fun i => 4 * q + i)).filter (fun p => modeDefines m p)).foldl
    (fun d p => d.stage (Obj.portFec p) ((modeFec m).headD 0)) (d.stage (Obj.quadMode q) m)

/-- Whether a staged QUAD_MODE of a port's quad differs from the active one (R107). -/
def Device.quadStaged (d : Device) (p : Nat) : Bool := d.shadow (Obj.quadMode (p / 4)) != d.active (Obj.quadMode (p / 4))

/-- The FEC values a port's shadow mode allows (R108). -/
def Device.fecAllowed (d : Device) (p v : Nat) : Bool :=
  let m := d.shadow (Obj.quadMode (p / 4))
  modeDefines m p && (modeFec m).contains v

/-- ENABLE is cleared: the link goes to OFF and the port flushes (R115).  Where no hold runs the flush fires no LULL_FLUSHED:
R115 calls it one "as if a hold of zero length had ended" and Table 4-9 has that event only of a hold that runs (DESIGN CHOICE,
log entry 50). -/
def Device.portOff (d : Device) (p : Nat) : Device :=
  let d := d.leaveTo p lkOFF
  if d.holding p then d.holdFlush p else d.flushPort p

/-- A write of ENABLE. -/
def Device.portEnableWrite (d : Device) (p v : Nat) : Device :=
  let d := d.put (Obj.portEnable p) v
  if v = 1 then d.startLink p else d.portOff p

/-- PORT_RESET 1 (Table 4-11). -/
def Device.portRetrain (d : Device) (p : Nat) : Device :=
  if d.link p = lkUP then (((d.leaveTo p lkTRAINING).bump (Obj.pstLinkDowns p)).train p).holdStart p
  else if d.link p = lkOFF then d
  else d.train p

/-- PORT_RESET 2 (Table 4-11): a link that is not OFF trains again, and the port flushes, which ends a hold that runs, that of a
port DISABLED under Frost too (R129). -/
def Device.portResetAll (d : Device) (p : Nat) : Device :=
  let d := if d.link p = lkUP then (d.leaveTo p lkTRAINING).bump (Obj.pstLinkDowns p) else d
  let d := if d.link p = lkOFF then d else d.train p
  if d.holding p then d.holdFlush p else d.flushPort p

/-- A front has made a quad mode active: the ports of the old mode cease to exist, and those of the new one start in
OFF. -/
def Device.quadTaken (d : Device) (q : Nat) : Device :=
  let ps := (List.range 4).map (fun i => 4 * q + i)
  let d := ps.foldl (fun d p => (d.leaveTo p lkOFF).holdOver p) d
  ps.foldl (fun d p => d.startLink p) d

/-- The data plane stops: every link goes to OFF with no hold and no LINK_DOWNS (Table 4-4, first row). -/
def Device.linksOff (d : Device) : Device :=
  (List.range 128).foldl (fun d p => if d.link p = lkOFF then d else d.leaveTo p lkOFF) d

/-! ### Identification (R117, R118, R137) -/

/-- The tenant, class and tag of a frame by its port's role; `none` where a drop condition holds (Table 4-6). -/
def Device.identify (d : Device) (p : Nat) (par : Bool) (b : Bytes) : Option (Nat × Nat × Tag) :=
  let isl := portIsl p
  match d.cfg isl par (Obj.portRole p) with
  | 0 => some (0, d.cfg isl par (Obj.portDefaultClass p), .none)
  | 1 =>
    let tci := beAt b 14 2
    let e := beNat (d.cfgRead isl par Obj.domSvidMap (4 * bits tci 11 0) 4)
    if beAt b 12 2 = d.cfg isl par Obj.stagTpid ∧ bit e 31 ∧ bits e 11 0 ≠ 0 then some (bits e 11 0, bits tci 15 13, .stag)
    else none
  | _ =>
    let h := beAt b 12 8
    if bits h 63 48 = d.cfg isl par Obj.sthEthertype ∧ bits h 47 44 = 0 ∧ bits h 43 32 ≠ 0 then
      some (bits h 43 32, bits h 31 29, .sth)
    else none

/-- The outcome of the in-band test (R137): 0 not in band, 1 dropped, 2 steered to port 131. -/
def Device.inbandTest (d : Device) (f : Frame) : Nat :=
  let o := match f.tag with
    | .stag => 16
    | .sth => 20
    | .none => 0
  let mac := d.cfg (islPG f.pg) f.parity Obj.inbandMac
  if f.tag = .none ∨ beAt f.bytes o 2 ≠ d.cfg (islPG f.pg) f.parity Obj.inbandEthertype then 0
  else if mac = 0 then 1
  else if beAt f.bytes 0 6 = mac then 2
  else 0

/-- A frame dropped at the MAC by throttling; its lane bits leave planning power (R349, R345). -/
def Device.throttleLane (d : Device) (p t b : Nat) : Device :=
  let k := (portIsl p * 10 + modeCategory (d.quadMode p)) * 4096 + t
  let n := laneQuarterBits (d.quadMode p) b
  { d with baro := { d.baro with thrown := d.baro.thrown.set (fun _ => 0) k (d.baro.thrown.getD (fun _ => 0) k + n) } }

/-- The throttle credit of a tenant in a port group after a frame, and whether the frame enters (R349). -/
def Device.throttle (d : Device) (pg t : Nat) : Device × Bool :=
  if t = 0 then (d, true)
  else
    let g := d.pgs pg
    let c := g.credit.getD (fun _ => 0) t + d.admitFrac t
    let ok := decide (1024 ≤ c)
    (d.setPg pg { g with credit := g.credit.set (fun _ => 0) t (if ok then c - 1024 else c) }, ok)

/-- The frames of a port that wait in the merge. -/
def Device.portWaiting (d : Device) (p : Nat) : Nat :=
  ((d.pgs (p / 32)).merge.filter (fun i => (d.frame i).origin == p)).length

/-- A frame passes to the ingress merge, or is dropped when the port's buffer is full (R135). -/
def Device.toMerge (d : Device) (f : Frame) : Device :=
  if Config.rxBuffer f.port < d.portWaiting f.port then d.bump (Obj.pstIngressOverrun f.port)
  else
    let r := d.newFrame (islPG f.pg) { f with stage := .merge }
    r.1.setPg f.pg { r.1.pgs f.pg with merge := (r.1.pgs f.pg).merge ++ [r.2] }

/-- A frame that has passed R118: the in-band test, throttling, the merge. -/
def Device.pastChecks (d : Device) (f : Frame) (b : Nat) : Device :=
  match d.inbandTest f with
  | 1 => d.bump (Obj.pgInbandDrops f.pg)
  | 2 =>
    let r := (d.bump (Obj.pgInbandSteered f.pg)).newFrame (islPG f.pg) { f with inband := true, direct := some (131, 0) }
    r.1.handToSwitch r.2
  | _ =>
    match d.throttle f.pg f.tenant with
    | (d, true) => d.toMerge f
    | (d, false) => ((d.throttleDropped f.tenant).throttleLane f.port f.tenant b).tally (islPG f.pg) 6 1 f.tenant

/-- A frame that has passed the FCS and size checks: it is stamped, identified and checked (R117, R118, R136). -/
def Device.macAccept (d : Device) (p : Nat) (par : Bool) (bytes : Bytes) : Device :=
  let b := bytes.length
  let d := (d.bump (Obj.pstRxFrames p)).bumpBy (Obj.pstRxBytes p) b
  match d.identify p par (dropFcs bytes) with
  | none => (d.bump (Obj.pstIdDrops p)).chargeLane p 0 b
  | some (t, cls, tag) =>
    let d := d.chargeLane p t b
    let f : Frame := { bytes := dropFcs bytes, port := p, origin := p, pg := p / 32, tenant := t, cls := cls,
                       parity := par, entered := d.timeAt (portIsl p), tag := tag, since := d.now }
    if t = 0 then d.pastChecks f b
    else if !d.portAllowed (portIsl p) par t p then d.isolation t
    else match d.frostState 1 t with
      | 0 => d.pastChecks f b
      | 3 => d.bump (Obj.pstIdDrops p)
      | _ => d.frostDrop t

/-- The FEC codewords a port has received (R109): those corrected and those uncorrectable are counted; the bank counts all. -/
def Device.fecCount (d : Device) (p clean corrected uncorrectable : Nat) : Device :=
  ((d.bumpBy (Obj.pstFecCorrected p) corrected).bumpBy (Obj.pstFecUncorrectable p) uncorrectable).tallyPlain
    (portIsl p) 7 (clean + corrected + uncorrectable)

/-- The checks of a complete frame at a MAC (R122, R460).  A port under Frost discards every frame before them, of a wrong FCS or
size too: the spec does not order the two (DESIGN CHOICE, log entry 50).  The rule does not say what a frame that fails both checks counts: the
FCS comes first, and RX_FCS_ERRORS alone advances (DESIGN CHOICE, log entry 50). -/
def Device.macCheck (d : Device) (p : Nat) (par : Bool) (bytes : Bytes) (uncorrectable : Nat) : Device :=
  if d.frostState 2 p ≠ 0 then d.bump (Obj.pstRxDiscard p)
  else if uncorrectable ≠ 0 ∨ !fcsOk bytes then (d.bump (Obj.pstRxFcsErrors p)).chargeLane p 0 bytes.length
  else if bytes.length < 64 ∨ d.cfg (portIsl p) par (Obj.portMaxFrame p) < bytes.length then
    (d.bump (Obj.pstRxSizeErrors p)).chargeLane p 0 bytes.length
  else d.macAccept p par bytes

/-- A complete frame at a MAC whose link is UP: it is stamped, and where the MAC or identification drops it, it leaves the census
at once (R243). -/
def Device.macFrame (d : Device) (p : Nat) (bytes : Bytes) (uncorrectable : Nat) : Device :=
  let par := (d.ptr (portIsl p)).parity
  let e := d.macCheck p par bytes uncorrectable
  if e.pkt.nextFrame = d.pkt.nextFrame then (e.censusIn (portIsl p) par).censusOut (portIsl p) par else e

/-- MAC_RECEIVE (R122): a complete frame, FCS included, at the MAC of a defined port, and the FEC codewords received since the
last one: those clean, those corrected and those uncorrectable.  Where the data plane is stopped, and in TEST, the frame is
discarded (R40); a link that is not UP receives none. -/
def execMacReceive (p : Fin 128) (bytes : Bytes) (fec : Sys2Proof.FecDecoded) (uncorrectable : Nat) (s : State) :
    Host.Outcome State Fault Refusal :=
  if !s.d.defined p then .next s
  else
    let d := if s.d.link p = lkUP then s.d.fecCount p fec.clean fec.corrected uncorrectable else s.d
    if !s.d.forwards then .next { s with d := d.bump (Obj.pstRxDiscard p) }
    else if s.d.link p = lkUP then .next { s with d := d.macFrame p bytes uncorrectable }
    else .next s

/-! ### Transmission -/

/-- The last bit of a frame has left the MAC (R460): the frame leaves with its FCS (R223), its lane bits are charged
(R336), and its copy ends. -/
def Device.macSent (d : Device) (p i : Nat) : Device :=
  let c := d.copyRec i
  let out := c.out.getD []
  let b := out.length + 4
  let d := d.emit (.frame p (out ++ fcsBytes out))
  let d := ((d.bump (Obj.pstTxFrames p)).bumpBy (Obj.pstTxBytes p) b).chargeLane p (d.frame c.frame).tenant b
  d.consumeCopy i

/-- MAC_TRANSMIT_END (R460). -/
def execMacTransmitEnd (p : Fin 128) (s : State) : Host.Outcome State Fault Refusal :=
  match s.d.transmitting p with
  | some i => .next { s with d := s.d.macSent p i }
  | none => .next s

end Sys2Proof.Machine
end

