-- ==== Sys2Proof/Machine/DevState.lean ====
section
/-!
DEFINITION. The junction readings (R432); the device state (R418): transitions and event 32, the clusters in service (R199), and RECOVERY_CAUSE (R420,
R426).
-/
namespace Sys2Proof.Machine

/-- An island's reading in m°C. -/
def Device.temp (d : Device) (isl : Nat) : Int := d.sys.temps.getD isl 0

/-- The highest reading. -/
def Device.tempMax (d : Device) : Int := (d.sys.temps.drop 1).foldl max (d.temp 0)

/-- Whether every junction is within 0 to 105 °C (R381). -/
def Device.junctionInRange (d : Device) : Bool := d.sys.temps.all (fun t => decide (0 ≤ t) && decide (t ≤ 105000))

/-- Whether a cluster is in service (R199): LOADED, and ACTIVE under Frost. -/
def Device.inService (d : Device) (c : Nat) : Bool := d.get (Obj.clLoadState c) == 4 && d.frostState 3 c == 0

/-- CLUSTERS_IN_SERVICE. -/
def Device.serviceCount (d : Device) : Nat := ((List.range 16).filter (fun c => d.inService c)).length

/-- Whether an unresolved field belongs to a class whose bit is RECOVERY_CAUSE [1] (Table 16-3). -/
def tmrCause (field : Nat) : Bool := [0x01, 0x03, 0x05, 0x07, 0x08].contains (field / 2 ^ 24)

/-- Every state but RESET and HALT: the states in which the management plane works on more than the event ring and the last records
(Table 1-10), and that THERMTRIP_N and PFAIL_N move to HALT (Table 16-2). -/
def Device.awake (d : Device) : Bool := d.devState != stRESET && d.devState != stHALT

/-- RECOVERY_CAUSE as its conditions stand (Table 16-3). -/
def Device.recoveryNow (d : Device) : Nat :=
  b2n (d.dataRuns && decide (d.serviceCount < 15))
  + 2 * b2n (d.svc.unresolved.any tmrCause)
  + 4 * b2n ((List.range 4).any (fun c => d.get (Obj.cxGeometry c) == 2))
  + 8 * b2n (d.srh.failedStacks != 0)

/-- The device enters a state (R418): STATE_ENTERED, and event 32 except into and out of RESET. -/
def Device.enterState (d : Device) (n : Nat) : Device :=
  let old := d.devState
  let d := (d.put Obj.deviceState n).put Obj.stateEntered d.now
  let d := d.put Obj.recoveryCause d.recoveryNow
  if old = stRESET ∨ n = stRESET then d
  else d.fire islMGT 32 (n + old * 2 ^ 8 + d.get Obj.recoveryCause * 2 ^ 16)

/-- RECOVERY_CAUSE and CLUSTERS_IN_SERVICE follow their conditions, and SERVICE and RECOVERY follow the cause
(Table 16-2). -/
def Device.recheck (d : Device) : Device :=
  let d := (d.put Obj.clustersInService d.serviceCount).put Obj.recoveryCause d.recoveryNow
  if d.devState = stSERVICE ∧ d.get Obj.recoveryCause ≠ 0 then d.enterState stRECOVERY
  else if d.devState = stRECOVERY ∧ d.get Obj.recoveryCause = 0 then d.enterState stSERVICE
  else d

end Sys2Proof.Machine
end

