-- ==== Sys2Proof/Machine/Search.lean ====
section
/-!
DEFINITION. Associative search (chapter 06): the complexes' input queues, ternary, exact-match and longest-prefix
lookups with their results, and HBM accesses.
-/
namespace Sys2Proof.Machine

/-! ### Keys (R155, R168) -/

/-- A key cut or padded with zero bytes to `w` bytes. -/
def fitKey (w : Nat) (key : Bytes) : Bytes := slice key 0 w

/-- Tenant binding at byte `b` (0xFF: off): the bound key, or none when it does not fit (R168). -/
def bindKey (w b tenant : Nat) (key : Bytes) : Option Bytes :=
  if b = 0xFF then some key
  else if w ≤ b + 1 then none
  else some (splice key b [byte (tenant / 256 % 16), byte tenant])

/-- The effective global mask of `w` bytes: the bound bytes are compared in every row. -/
def bindMask (b : Nat) (g : Bytes) : Bytes := if b = 0xFF then g else splice g b [0, 0]

/-- A key of at most 80 bytes as a 640-bit number whose most significant byte is key byte 0. -/
def keyNum (k : Bytes) : Nat := beNat (fit 80 k)

/-! ### Results (Table 6-2) -/

/-- A lookup status. -/
def lkStatus (outcome kind cause complex group : Nat) (cached : Bool) (row : Nat) : Nat :=
  outcome * 2 ^ 30 + kind * 2 ^ 28 + cause * 2 ^ 24 + complex * 2 ^ 22 + group * 2 ^ 18 + b2n cached * 2 ^ 17 + row

/-- ERROR causes. -/
def ckNO_TABLE : Nat := 1
/-- BIND. -/
def ckBIND : Nat := 2
/-- AD_ECC. -/
def ckAD_ECC : Nat := 3
/-- HBM_ECC. -/
def ckHBM_ECC : Nat := 4
/-- COMPLEX_FAILED. -/
def ckCOMPLEX : Nat := 5

/-- A result sets out for its slot, unless the frame has left the device. -/
def Device.answer (d : Device) (r : LookupReq) (word status : Nat) : Device :=
  if d.hasFrame r.frame then
    { d with srh := { d.srh with results := d.srh.results ++ [⟨r.frame, r.pass, r.slot, word, status⟩] } }
  else d

/-- DENIED (R169): the access table's record, and the scope rule for the frame (R85, R92). -/
def Device.lookupDenied (d : Device) (c : Nat) (r : LookupReq) : Device :=
  (d.failScope r.frame r.tenant).answer r 0 (lkStatus 3 r.kind 0 c 0 false 0)

/-- ERROR of a cause. -/
def Device.lookupError (d : Device) (c : Nat) (r : LookupReq) (cause : Nat) : Device :=
  d.answer r 0 (lkStatus 2 r.kind cause c 0 false 0)

/-- Whether the lookup's master has READ on a window at the frame's parity (R193). -/
def Device.mayLookup (d : Device) (r : LookupReq) (window : Nat) : Bool :=
  d.mayFrame islSRH r.parity 2 r.tenant window rREAD

/-! ### The input queues (R170, R171) -/

/-- The requests waiting in a complex. -/
def Device.complexQueue (d : Device) (c : Nat) : List LookupReq := d.srh.queues.getD (fun _ => []) c

/-- Set a complex's queue. -/
def Device.setComplexQueue (d : Device) (c : Nat) (l : List LookupReq) : Device :=
  { d with srh := { d.srh with queues := d.srh.queues.set (fun _ => []) c l } }

/-- Whether a complex can accept `n` more requests (R171). -/
def Device.complexRoom (d : Device) (c n : Nat) : Bool := decide ((d.complexQueue c).length + n ≤ 1024)

/-- Whether a lookup is one that the access table or the scope rule denies (R85, R193). -/
def Device.lookupBarred (d : Device) (r : LookupReq) : Bool :=
  match r.kind with
  | 0 =>
    let t := d.cfg islSRH r.parity (Obj.sprofTable r.table)
    t != 0xFF && !d.mayLookup r (0xE400 + t)
  | 1 => decide (r.table < 64) && !d.mayLookup r (0xE500 + r.table)
  | _ => !d.mayLookup r 0xE600 || !r.vrfOk

/-- A request enters a complex's queue.  A frame that is denied one is given up with the request, so that it is dropped before it
takes a sequence number even if its thread ends before the answer (R85).  Event 204 fires when the request brings the queue to
1,024; the rule gives only the rate it must not exceed (DESIGN CHOICE, log entry 51) (R171). -/
def Device.askComplex (d : Device) (c : Nat) (r : LookupReq) : Device :=
  let d := if d.lookupBarred r then d.failScope r.frame r.tenant else d
  let l := d.complexQueue c ++ [r]
  let d := d.setComplexQueue c l
  if l.length = 1024 then d.fireOf islSRH 204 c 0 0 else d

/-- The oldest request of a kind, and the queue without it. -/
def takeKind (kind : Nat) : List LookupReq → Option (LookupReq × List LookupReq)
  | [] => none
  | r :: rs =>
    if r.kind = kind then some (r, rs)
    else match takeKind kind rs with
      | some (x, l) => some (x, r :: l)
      | none => none

/-- Take the oldest request of a kind from a complex. -/
def Device.takeRequest (d : Device) (c kind : Nat) : Option (LookupReq × Device) :=
  match takeKind kind (d.complexQueue c) with
  | some (r, l) => some (r, d.setComplexQueue c l)
  | none => none

/-! ### HBM -/

/-- 64-byte lines in a region of 24 MiB. -/
def regionLines : Nat := 393216

/-- The region of a line. -/
def lineRegion (l : Nat) : Nat := l / regionLines

/-- Whether a line lies in a failed stack (R439). -/
def Device.lineLost (d : Device) (l : Nat) : Bool := d.srh.failedStacks.testBit (lineRegion l / 1024)

/-- How many of `n` accesses activate a row of HBM is a free value (log entry 1). -/
def Device.activates (d : Device) (n : Nat) : Device :=
  let r := d.takeFree
  r.2.tallyPlain islMEM 3 (r.1 % (n + 1))

/-- Accesses of a lookup of `n` lines: how many come from HBM, and so CACHED and the cache counts, the spec leaves
open (R190); they are charged to the lookup's master. -/
def Device.hbmAccess (d : Device) (n tenant : Nat) : Device × Bool :=
  let r := d.takeFree
  let m := r.1 % (n + 1)
  let d := ((r.2.bumpBy Obj.srhCacheLookups n).bumpBy Obj.srhCacheHits (n - m)).spend islMEM 7 tenant m
  (((d.tally islSRH 4 m tenant).tallyPlain islMEM 0 m).activates m, m == 0)

/-- What the sequencer writes counts in SEQUENCER_WRITES (R366): each row that it writes into the tiles of a group or the
associated-data memory, and each line of HBM.  The spec names the event and gives no unit (DESIGN CHOICE, log entry 59). -/
def Device.seqWrites (d : Device) (n : Nat) : Device := d.tallyPlain islSRH 6 n

/-- HBM accesses of the sequencers' own work: their bursts are charged to tenant 0 (R335, R337). -/
def Device.hbmWork (d : Device) (write : Bool) (n : Nat) : Device :=
  let d := if write then d.seqWrites n else d
  ((d.spend islMEM 7 0 n).tallyPlain islMEM (b2n write) n).activates n

/-- A stack fails (R439). -/
def Device.stackFailed (d : Device) (n : Nat) : Device :=
  if d.srh.failedStacks.testBit n then d
  else
    let d : Device := { d with srh := { d.srh with failedStacks := setBit d.srh.failedStacks n true } }
    (d.fire islMEM 941 n).recheck

/-- The times of the uncorrectable errors that a stack has reported within the last second, the newest first (R439). -/
def Device.recentErrors (d : Device) (n : Nat) : List Nat :=
  (d.srh.hbmErrors.getD (fun _ => []) n).filter (fun t => decide (d.now ≤ t + 1000000000))

/-- A stack reports an uncorrectable error; the 64th within 1 s is its failure (R439). -/
def Device.stackError (d : Device) (n : Nat) : Device :=
  let times := (d.now :: d.recentErrors n).take 64
  let d : Device := { d with srh := { d.srh with hbmErrors := d.srh.hbmErrors.put n times } }
  if times.length = 64 then d.stackFailed n else d

/-- An uncorrectable HBM error in a line is met (R191, R192). -/
def Device.hbmError (d : Device) (l : Nat) : Device :=
  ((d.bump Obj.srhHbmEccUncorrectable).fire islSRH 203 (lineRegion l)).stackError (lineRegion l / 1024)

/-! ### Ternary tables -/

/-- The key of a ternary row. -/
def rowKey (t row : Nat) : Nat := t * 2 ^ 17 + row

/-- A ternary row of the golden copy. -/
def Device.tcamRow (d : Device) (t row : Nat) : TcamRow := d.srh.rows.getD (fun _ => {}) (rowKey t row)

/-- Set a ternary row. -/
def Device.setTcamRow (d : Device) (t row : Nat) (x : TcamRow) : Device :=
  { d with srh := { d.srh with rows := d.srh.rows.set (fun _ => {}) (rowKey t row) x } }

/-- A row's validity bit of a parity. -/
def TcamRow.valid (x : TcamRow) (par : Bool) : Bool := if par then x.odd else x.even

/-- The row with a validity bit set. -/
def TcamRow.setValid (x : TcamRow) (par v : Bool) : TcamRow := if par then { x with odd := v } else { x with even := v }

/-- Column `k` of a 640-bit number whose most significant byte is key byte 0: key bytes 10k to 10k + 9 (R165). -/
def column (k x : Nat) : Nat := x / 2 ^ (560 - 80 * k) % 2 ^ 80

/-- What the sequencer writes into column `k` of a row of a table of width `w`; a column beyond the width has MASK zero (R177). -/
def TcamRow.tile (x : TcamRow) (w k : Nat) : TileRow :=
  if k < w then { data := column k x.data, mask := column k x.mask, prio := x.prio, odd := x.odd, even := x.even }
  else { prio := x.prio, odd := x.odd, even := x.even }

/-- Whether a tile's row matches its column of the key, `g` being the portion of the global mask that faces it (R163). -/
def TileRow.hit (x : TileRow) (key g : Nat) (par : Bool) : Bool :=
  (if par then x.odd else x.even) && ((x.data ^^^ key) &&& (x.mask &&& (2 ^ 80 - 1 - g))) == 0

/-- The key of a tile's row. -/
def tileKey (c tile row : Nat) : Nat := (c * 64 + tile) * 2048 + row

/-- A group as it lies in its complex: the complex, the first tile, the columns of a block, the blocks, and the table with its
width. -/
structure TileMap where
  complex : Nat
  first : Nat
  columns : Nat
  blocks : Nat
  table : Nat
  width : Nat
  deriving DecidableEq, Repr

/-- The tile of column `k` of a logical row, and its row there (R165). -/
def TileMap.place (m : TileMap) (row k : Nat) : Nat × Nat := (m.first + m.columns * (row / 2048) + k, row % 2048)

/-- The logical row and column of a tile's row, if the group has it. -/
def TileMap.logical (m : TileMap) (tile row : Nat) : Option (Nat × Nat) :=
  let n := tile - m.first
  if m.first ≤ tile ∧ n < m.columns * m.blocks then some (2048 * (n / m.columns) + row, n % m.columns) else none

/-- A tile's row: what the golden copy gives it, unless it is upset (R178). -/
def Device.tileRow (d : Device) (m : TileMap) (row k : Nat) : TileRow :=
  let x := m.place row k
  (d.srh.upsets.find (tileKey m.complex x.1 x.2)).getD ((d.tcamRow m.table row).tile m.width k)

/-- Whether every column of a logical row matches; the numbers are the key's and the global mask's. -/
def Device.rowHit (d : Device) (m : TileMap) (key global : Nat) (par : Bool) (row : Nat) : Bool :=
  (List.range m.columns).all (fun k => (d.tileRow m row k).hit (column k key) (column k global) par)

/-- The better of two matches: higher priority, then lower row (R166). -/
def betterRow (a b : Nat × Nat) : Nat × Nat := if a.2 < b.2 ∨ (a.2 = b.2 ∧ b.1 < a.1) then b else a

/-- The logical rows of a group that hold something: those listed in the golden copy, and those with an upset tile. -/
def Device.groupRows (d : Device) (m : TileMap) : List Nat :=
  let written := (d.srh.rows.map Prod.fst).filter (fun k => k / 2 ^ 17 == m.table)
  let upset := (d.srh.upsets.map Prod.fst).filter (fun k => k / 2048 / 64 == m.complex)
  let rows := written.map (fun k => k % 2 ^ 17) ++ upset.filterMap (fun k => (m.logical (k / 2048 % 64) (k % 2048)).map Prod.fst)
  rows.eraseDups.filter (fun r => decide (r < 2048 * m.blocks))

/-- The winning row of a group (R166); a row's priority is that of its column 0. -/
def Device.tcamWinner (d : Device) (m : TileMap) (key global : Nat) (par : Bool) : Option Nat :=
  let hits := ((d.groupRows m).filter (fun r => d.rowHit m key global par r)).map (fun r => (r, (d.tileRow m r 0).prio))
  match hits with
  | [] => none
  | x :: xs => some (xs.foldl betterRow x).1

/-- Whether a complex runs in fixed geometry (R176). -/
def Device.fixedGeometry (d : Device) (c : Nat) : Bool :=
  d.get (Obj.cxGeometry c) == 1 || d.get (Obj.cxFixedSelect c) == 1

/-- Whether a complex has failed. -/
def Device.complexFailed (d : Device) (c : Nat) : Bool := d.get (Obj.cxGeometry c) == 2

/-- The enabled groups of a table in a complex, ascending (R175: taken on arrival). -/
def Device.tableGroups (d : Device) (c t : Nat) : List Nat :=
  (List.range (if d.fixedGeometry c then 4 else 16)).filter (fun g =>
    d.arr islSRH (Obj.grpEnable (16 * c + g)) == 1 && d.arr islSRH (Obj.grpTable (16 * c + g)) == t)

/-- How a group lies in its complex (R165), with TABLE and FIRST_TILE of one storage copy and the table's WIDTH and DEPTH of another;
in fixed geometry as Table 6-7 has it, with the blocks that the table has rows for. -/
def Device.groupMap (d : Device) (place shape : Bool) (c g : Nat) : TileMap :=
  let i := 16 * c + g
  let t := d.copyGet place (Obj.grpTable i)
  let w := d.copyGet shape (Obj.tcamWidth t)
  let n := d.copyGet shape (Obj.tcamDepth t)
  if d.fixedGeometry c then ⟨c, 16 * g, 2, min 8 n, t, w⟩ else ⟨c, d.copyGet place (Obj.grpFirstTile i), w, n, t, w⟩

/-- How a group lies in its complex in one storage copy. -/
def Device.tileMap (d : Device) (copy : Bool) (c g : Nat) : TileMap := d.groupMap copy copy c g

/-- How a group that serves a search of a parity lies: TABLE and FIRST_TILE as they were on arrival, WIDTH and DEPTH by the frame's
parity (Table 8-2). -/
def Device.searchMap (d : Device) (par : Bool) (c g : Nat) : TileMap :=
  let q := d.ptr islSRH
  d.groupMap (q.copy q.parity 3) (q.copy par 3) c g

/-- Rows of a complex's tiles are upset (R178). -/
def Device.tilesUpset (d : Device) (c : Nat) (us : List TileUpset) : Device :=
  { d with srh := { d.srh with upsets := us.foldl (fun l u => l.put (tileKey c u.tile u.row)
      ⟨u.data.toNat, u.mask.toNat, u.prio.toNat, u.odd, u.even⟩) d.srh.upsets } }

/-- The group that takes the next request of a table: the first after the one that took the previous (R170). A table's first request
after reset goes to its lowest enabled slot (DESIGN CHOICE, log entry 41). -/
def nextGroup (last : Nat) (gs : List Nat) : Nat :=
  match gs.find? (fun g => decide (last < g)) with
  | some g => g
  | none => gs.headD 0

/-- A ternary search that runs (R163 to R169). -/
def Device.tcamRun (d : Device) (c : Nat) (r : LookupReq) (t : Nat) (gs : List Nat) (ad : EccOutcome) : Device :=
  let s := r.table
  let w := 10 * d.cfg islSRH r.parity (Obj.tcamWidth t)
  let b := d.cfg islSRH r.parity (Obj.sprofTenantBind s)
  match bindKey w b r.tenant (fitKey w r.key) with
  | none => (d.bump (Obj.tcamStatErrors t)).lookupError c r ckBIND
  | some k =>
    let last := d.srh.rotation.getD (fun _ => 15) (64 * c + t)
    let g := nextGroup last gs
    let d : Device := { d with srh := { d.srh with rotation := d.srh.rotation.set (fun _ => 15) (64 * c + t) g } }
    let depth := d.cfg islSRH r.parity (Obj.tcamDepth t)
    let mask := bindMask b (beBytes 80 (d.cfg islSRH r.parity (Obj.sprofGlobalMask s)))
    let m := d.searchMap r.parity c g
    let d := ((d.bump (Obj.cxSearches c)).bump (Obj.tcamStatSearches t)).spend islSRH 6 r.tenant (w / 10 * depth)
    let d := (d.tally islSRH 0 1 r.tenant).tally islSRH 1 (w / 10 * depth) r.tenant
    match d.tcamWinner m (keyNum k) (keyNum mask) r.parity with
    | none => d.answer r (d.cfg islSRH r.parity (Obj.sprofMissData s)) (lkStatus 0 0 0 c 0 false 0)
    | some row =>
      match ad with
      | .uncorrectable =>
        let d := (d.bump (Obj.cxAdEccUncorrectable c)).fireOf islSRH 198 c 0 0
        (((d.hbmWork false 1).seqWrites 1).bump (Obj.tcamStatErrors t)).lookupError c r ckAD_ECC
      | _ =>
        let d := if ad = .correctable then d.bump (Obj.cxAdEccCorrected c) else d
        (d.bump (Obj.tcamStatHits t)).answer r (d.tcamRow t row).ad (lkStatus 1 0 0 c g false row)

/-- A TCAM request is served (R169). -/
def Device.tcamServe (d : Device) (c : Nat) (r : LookupReq) (ad : EccOutcome) : Device :=
  let t := d.cfg islSRH r.parity (Obj.sprofTable r.table)
  if t = 0xFF then d.lookupError c r (if d.complexFailed c then ckCOMPLEX else ckNO_TABLE)
  else if !d.mayLookup r (0xE400 + t) then
    ((d.bump (Obj.tcamStatDenied t)).deny 2 r.tenant (0xE400 + t)).lookupDenied c r
  else if d.complexFailed c then (d.bump (Obj.tcamStatErrors t)).lookupError c r ckCOMPLEX
  else
    let gs := d.tableGroups c t
    if gs.isEmpty then (d.bump (Obj.tcamStatErrors t)).lookupError c r ckNO_TABLE else d.tcamRun c r t gs ad

/-- TCAM_LOOKUP (R166): a complex serves its oldest ternary request, whose search sees the tiles as upset. -/
def execTcamLookup (c : Fin 4) (met : Sys2Proof.TcamReads) (s : State) : Host.Outcome State Fault Refusal :=
  match s.d.takeRequest c 0 with
  | some (r, d) => if s.d.dataRuns then .next { s with d := (d.tilesUpset c met.upsets).tcamServe c r met.ad } else .next s
  | none => .next s

/-! ### Exact-match tables (R182, R183) -/

/-- The configuration of an exact-match table in a storage copy. -/
structure EmCfg where
  kb : Nat
  bl : Nat
  base : Nat
  seed1 : Nat
  seed2 : Nat
  deriving DecidableEq, Repr

/-- The configuration of a table in a storage copy. -/
def Device.emCfg (d : Device) (copy : Bool) (t : Nat) : EmCfg :=
  { kb := d.copyGet copy (Obj.emKeyBytes t), bl := d.copyGet copy (Obj.emBucketsLog2 t),
    base := d.copyGet copy (Obj.emRegionBase t), seed1 := d.copyGet copy (Obj.emSeed1 t),
    seed2 := d.copyGet copy (Obj.emSeed2 t) }

/-- The two buckets and the fingerprint of a key (R182). -/
def EmCfg.hash (e : EmCfg) (k : Bytes) : Nat × Nat × Nat :=
  let h1 := crc32c e.seed1 k
  let h2 := crc32c e.seed2 k
  let b1 := h1 % 2 ^ e.bl
  let b2 := if h2 % 2 ^ e.bl = b1 then b1 ^^^ 1 else h2 % 2 ^ e.bl
  (b1, b2, h1 / 16)

/-- The keys of the eight ways a key may take, in the order they are examined (R183). -/
def EmCfg.ways (e : EmCfg) (t : Nat) (k : Bytes) : List Nat :=
  let h := e.hash k
  (List.range 4).map (fun i => t * 2 ^ 28 + h.1 * 4 + i) ++ (List.range 4).map (fun i => t * 2 ^ 28 + h.2.1 * 4 + i)

/-- A way. -/
def Device.way (d : Device) (k : Nat) : Way := d.srh.ways.getD (fun _ => {}) k

/-- Set a way. -/
def Device.setWay (d : Device) (k : Nat) (w : Way) : Device :=
  { d with srh := { d.srh with ways := d.srh.ways.set (fun _ => {}) k w } }

/-- A way's validity bit of a parity. -/
def Way.valid (w : Way) (par : Bool) : Bool := if par then w.odd else w.even

/-- The way with a validity bit set. -/
def Way.setValid (w : Way) (par v : Bool) : Way := if par then { w with odd := v } else { w with even := v }

/-- The record of a way examined for a parity (R183). -/
def Way.examined (w : Way) (par : Bool) : Option Nat :=
  if w.sideValid && w.sideParity == par then some w.sideRecord
  else if w.valid par then some w.record
  else none

/-- An exact-match record. -/
def Device.emRecord (d : Device) (t r : Nat) : EmRecord := d.srh.records.getD (fun _ => {}) (t * 2 ^ 29 + r)

/-- Set an exact-match record. -/
def Device.setEmRecord (d : Device) (t r : Nat) (x : EmRecord) : Device :=
  { d with srh := { d.srh with records := d.srh.records.set (fun _ => {}) (t * 2 ^ 29 + r) x } }

/-- A key as its record holds it: bytes 0 to 39, zero beyond KEY_BYTES. -/
def recKey (k : Bytes) : Nat := beNat (fit 40 k)

/-- The way and record of a key in the view of a parity (R183). -/
def Device.emFind (d : Device) (e : EmCfg) (t : Nat) (par : Bool) (k : Bytes) : Option (Nat × Nat) :=
  let fp := (e.hash k).2.2
  (e.ways t k).findSome? (fun wk =>
    let w := d.way wk
    if w.fingerprint = fp then
      match w.examined par with
      | some r => if (d.emRecord t r).key = recKey k then some (wk, r) else none
      | none => none
    else none)

/-- The HBM line of a bucket and of a record: buckets first, records after them. -/
def EmCfg.bucketLine (e : EmCfg) (b : Nat) : Nat := e.base * regionLines + b
/-- The line of a record. -/
def EmCfg.recordLine (e : EmCfg) (r : Nat) : Nat := e.base * regionLines + 2 ^ e.bl + r

/-- The records that a lookup of a parity reads, in order: those of the ways whose fingerprint matches, up to the hit (R183). -/
def Device.emRecords (d : Device) (e : EmCfg) (t : Nat) (par : Bool) (k : Bytes) : List Nat :=
  let fp := (e.hash k).2.2
  let rs := (e.ways t k).filterMap (fun wk => if (d.way wk).fingerprint = fp then (d.way wk).examined par else none)
  let misses := rs.takeWhile (fun r => (d.emRecord t r).key != recKey k)
  rs.take (misses.length + 1)

/-- The lines a lookup reads: both buckets, and records. -/
def Device.emLines (d : Device) (e : EmCfg) (t : Nat) (par : Bool) (k : Bytes) : List Nat :=
  let h := e.hash k
  [e.bucketLine h.1, e.bucketLine h.2.1] ++ (d.emRecords e t par k).map e.recordLine

/-- The name of an entry in error. -/
def entryName (t key : Nat) : Nat := t * 2 ^ 320 + key

/-- The entries of a table that a line holds: those whose way or whose record is in it. -/
def Device.lineEntries (d : Device) (e : EmCfg) (t line : Nat) : List Nat :=
  let ways := d.srh.ways.filter (fun x => x.1 / 2 ^ 28 == t)
  let recs := ways.flatMap (fun x =>
    let rs := (if x.2.odd || x.2.even then [x.2.record] else []) ++ (if x.2.sideValid then [x.2.sideRecord] else [])
    rs.filter (fun r => line == e.bucketLine (x.1 % 2 ^ 28 / 4) || line == e.recordLine r))
  (recs.map (fun r => entryName t (d.emRecord t r).key)).eraseDups

/-- A line of a table meets an uncorrectable error: its entries are in error from then on (R191). -/
def Device.lineBad (d : Device) (e : EmCfg) (t line : Nat) : Device :=
  { d with srh := { d.srh with entryErrors := (d.lineEntries e t line ++ d.srh.entryErrors).eraseDups } }

/-- An exact-match lookup that runs.  An entry in error gives HBM_ECC; which of the lookup's lines meets a new error is a free
value (log entry 1), and its entries are in error from then on (R191). -/
def Device.emRun (d : Device) (c : Nat) (r : LookupReq) (k : Bytes) (hbm : EccOutcome) : Device :=
  let t := r.table
  let e := d.emCfg ((d.ptr islSRH).copy r.parity 4) t
  let found := d.emFind e t r.parity k
  let ls := d.emLines e t r.parity k
  let a := d.hbmAccess ls.length r.tenant
  let d := if a.2 then a.1.bump (Obj.emStatCacheHits t) else a.1
  let stands := found.isSome && d.srh.entryErrors.contains (entryName t (recKey k))
  match (if stands then ls.getLast? else ls.find? (fun l => d.lineLost l)) with
  | some l => (d.hbmError l).lookupError c r ckHBM_ECC
  | none =>
    match hbm with
    | .uncorrectable =>
      let x := d.takeFree
      let l := ls.getD (x.1 % ls.length) 0
      ((x.2.lineBad e t l).hbmError l).lookupError c r ckHBM_ECC
    | _ =>
      let d := if hbm = .correctable then (d.bump Obj.srhHbmEccCorrected).tallyPlain islMEM 4 1 else d
      match found with
      | some (_, x) => (d.bump (Obj.emStatHits t)).answer r (d.emRecord t x).ad (lkStatus 1 1 0 c 0 a.2 0)
      | none => d.answer r (d.cfg islSRH r.parity (Obj.emMissData t)) (lkStatus 0 1 0 c 0 a.2 0)

/-- An exact-match request is served (R169). -/
def Device.emServe (d : Device) (c : Nat) (r : LookupReq) (hbm : EccOutcome) : Device :=
  let t := r.table
  if 64 ≤ t then d.lookupError c r (if d.complexFailed c then ckCOMPLEX else ckNO_TABLE)
  else
    let d := (d.bump (Obj.emStatLookups t)).tally islSRH 2 1 r.tenant
    if !d.mayLookup r (0xE500 + t) then (d.deny 2 r.tenant (0xE500 + t)).lookupDenied c r
    else if d.complexFailed c then d.lookupError c r ckCOMPLEX
    else if d.cfg islSRH r.parity (Obj.emEnable t) ≠ 1 then d.lookupError c r ckNO_TABLE
    else
      let w := d.cfg islSRH r.parity (Obj.emKeyBytes t)
      match bindKey w (d.cfg islSRH r.parity (Obj.emTenantBind t)) r.tenant (fitKey w r.key) with
      | none => d.lookupError c r ckBIND
      | some k => d.emRun c r k hbm

/-- EM_LOOKUP (R183): a complex serves its oldest exact-match request. -/
def execEmLookup (c : Fin 4) (hbm : EccOutcome) (s : State) : Host.Outcome State Fault Refusal :=
  match s.d.takeRequest c 1 with
  | some (r, d) => if s.d.dataRuns then .next { s with d := d.emServe c r hbm } else .next s
  | none => .next s

/-! ### Longest prefix (R185) -/

/-- The key of a route: VRF, family (0 IPv4, 1 IPv6), prefix length, prefix. -/
def routeKey (vrf family len prefix_ : Nat) : Nat := ((vrf * 2 + family) * 256 + len) * 2 ^ 128 + prefix_

/-- The routes of a parity. -/
def Device.routes (d : Device) (par : Bool) : Assoc Nat := if par then d.srh.routesOdd else d.srh.routesEven

/-- The address bits of a family. -/
def famBits (family : Nat) : Nat := if family = 0 then 32 else 128

/-- The longest route of at most `n` bits that matches an address. -/
def longestRoute (routes : Assoc Nat) (vrf family addr : Nat) : Nat → Option (Nat × Nat)
  | 0 => (routes.find (routeKey vrf family 0 0)).map (fun a => (0, a))
  | n + 1 =>
    let sh := famBits family - (n + 1)
    match routes.find (routeKey vrf family (n + 1) (addr >>> sh <<< sh)) with
    | some a => some (n + 1, a)
    | none => longestRoute routes vrf family addr n

/-- The VRF entry of a parity (Table 6-10). -/
def Device.vrfEntry (d : Device) (par : Bool) (v : Nat) : Bytes := d.cfgRead islSRH par Obj.domVrfTable (32 * v) 32

/-- Whether a VRF entry enables a family. -/
def vrfEnabled (e : Bytes) (family : Nat) : Bool := bit (beAt e 0 8) (63 - family)

/-- The first LPM region a failed stack takes, if any (R439): every deeper level of the store may lie in it. -/
def Device.lpmLost (d : Device) (par : Bool) : Bool :=
  let b := d.cfg islSRH par Obj.lpmRegionBase
  let n := d.cfg islSRH par Obj.lpmRegionCount
  (List.range 4).any (fun s => d.srh.failedStacks.testBit s && decide (b < 1024 * (s + 1)) && decide (1024 * s < b + n))

/-- Whether a VRF has a route of a family in a parity's view: its lookups read nodes of the store. -/
def Device.familyRouted (d : Device) (par : Bool) (vrf family : Nat) : Bool :=
  (d.routes par).any (fun e => e.1 / 2 ^ 136 == vrf * 2 + family)

/-- The key of the route that a lookup matched with a prefix length. -/
def matchedRoute (vrf family addr len : Nat) : Nat :=
  let sh := famBits family - len
  routeKey vrf family len (addr >>> sh <<< sh)

/-- A longest-prefix lookup's uncorrectable error: a region of the store, which one is a free value (log entry 1). -/
def Device.lpmError (d : Device) (c : Nat) (r : LookupReq) : Device :=
  let x := d.takeFree
  let region := x.2.cfg islSRH r.parity Obj.lpmRegionBase + x.1 % max 1 (x.2.cfg islSRH r.parity Obj.lpmRegionCount)
  (x.2.hbmError (region * regionLines)).lookupError c r ckHBM_ECC

/-- A longest-prefix lookup that runs; how many nodes it reads from the store is open (R187).  Its result does not depend on the
cache (R190): while part of the store is in a failed stack, a lookup of a VRF and family that has routes ends in error.  A route
that a lookup meets in error stays so (R191). -/
def Device.lpmRun (d : Device) (c : Nat) (r : LookupReq) (hbm : EccOutcome) : Device :=
  let fam := r.table % 2
  let e := d.vrfEntry r.parity r.vrf
  let n := d.takeFree
  let a := n.2.hbmAccess (n.1 % 17) r.tenant
  let d := a.1
  let addr := beNat (fitKey (famBits fam / 8) r.key)
  let found := longestRoute (d.routes r.parity) r.vrf fam addr (famBits fam)
  let route := found.map (fun x => matchedRoute r.vrf fam addr x.1)
  let stands := match route with
    | some k => d.srh.routeErrors.contains k
    | none => false
  if stands || (d.lpmLost r.parity && d.familyRouted r.parity r.vrf fam) then d.lpmError c r
  else if hbm = .uncorrectable then
    Device.lpmError { d with srh := { d.srh with routeErrors := route.toList ++ d.srh.routeErrors } } c r
  else
    let d := if hbm = .correctable then (d.bump Obj.srhHbmEccCorrected).tallyPlain islMEM 4 1 else d
    match found with
    | some (len, ad) => d.answer r ad (lkStatus 1 2 0 c 0 a.2 len)
    | none => (d.bump Obj.lpmMisses).answer r (beAt e (16 + 8 * fam) 8) (lkStatus 0 2 0 c 0 a.2 0)

/-- A longest-prefix request is served (R169, R185). -/
def Device.lpmServe (d : Device) (c : Nat) (r : LookupReq) (hbm : EccOutcome) : Device :=
  let d := (d.bump Obj.lpmLookups).tally islSRH 3 1 r.tenant
  if !d.mayLookup r 0xE600 then (d.deny 2 r.tenant 0xE600).lookupDenied c r
  else if !r.vrfOk then d.lookupDenied c r
  else if d.complexFailed c then d.lookupError c r ckCOMPLEX
  else if !vrfEnabled (d.vrfEntry r.parity r.vrf) (r.table % 2) then d.lookupError c r ckNO_TABLE
  else d.lpmRun c r hbm

/-- LPM_LOOKUP (R185): a complex serves its oldest longest-prefix request. -/
def execLpmLookup (c : Fin 4) (hbm : EccOutcome) (s : State) : Host.Outcome State Fault Refusal :=
  match s.d.takeRequest c 2 with
  | some (r, d) => if s.d.dataRuns then .next { s with d := d.lpmServe c r hbm } else .next s
  | none => .next s

end Sys2Proof.Machine
end

