-- ==== Sys2Proof/Machine/TableUpdate.lean ====
section
/-!
DEFINITION. Changing the tables (chapter 06): windows and command records, what a COMMIT prepares and a drain releases,
group and table enables, geometry, scrubbing, self-test, and failed stacks.
-/
namespace Sys2Proof.Machine

/-- The time within which the service answers, in ns (R53). -/
def Device.svcBound (d : Device) : Nat := 100000 * 16 / d.clockK islMGT

/-! ### Ternary windows (R172, Table 6-4) -/

/-- The granule of a table of width `w`. -/
def rowGranule (w : Nat) : Nat := 16 * ceilDiv (16 + 20 * w) 16

/-- The shadow width and depth of a ternary table. -/
def Device.shWidth (d : Device) (t : Nat) : Nat := d.shadow (Obj.tcamWidth t)
/-- Its depth. -/
def Device.shDepth (d : Device) (t : Nat) : Nat := d.shadow (Obj.tcamDepth t)
/-- ROWS. -/
def Device.shRows (d : Device) (t : Nat) : Nat := 2048 * d.shDepth t

/-- A field of 10W bytes as the left-aligned 640-bit number of a row. -/
def rowField (b : Bytes) : Nat := keyNum b

/-- The content of a row record of width `w`: validity, and the row it writes. -/
def rowOfRecord (w : Nat) (b : Bytes) : TcamRow :=
  { data := rowField (slice b 16 (10 * w)), mask := rowField (slice b (16 + 10 * w) (10 * w)),
    prio := beAt b 2 2, ad := beAt b 8 8, staged := bit (beAt b 0 8) 63 }

/-- A record that R172 refuses with RANGE: a reserved bit, or a DATA bit where MASK is 0. -/
def rowRecordBad (w : Nat) (b : Bytes) : Bool :=
  let h := beAt b 0 8
  let x := rowOfRecord w b
  bits h 61 48 != 0 || bits h 31 0 != 0 || (x.data &&& x.mask) != x.data
  || (b.drop (16 + 20 * w)).any (fun v => v != 0)

/-- The record a row reads as, with the staged or the current validity. -/
def Device.rowRecord (d : Device) (t w row : Nat) (active : Bool) : Bytes :=
  let x := d.tcamRow t row
  let cur := x.valid d.parity
  beBytes 8 (b2n (if active then cur else x.staged) * 2 ^ 63 + b2n cur * 2 ^ 62 + x.prio * 2 ^ 32) ++ beBytes 8 x.ad
  ++ (beBytes 80 x.data).take (10 * w) ++ (beBytes 80 x.mask).take (10 * w) ++ zeros (rowGranule w - 16 - 20 * w)

/-- The records of a write to TCAM_ROWS. -/
def Device.rowWrites (d : Device) (t off : Nat) (b : Bytes) : List (Nat × Bytes) :=
  let g := rowGranule (d.shWidth t)
  (List.range (b.length / g)).map (fun i => (off / g + i, slice b (g * i) g))

/-- A write to TCAM_ROWS holds a record that is refused with RANGE. -/
def Device.rowsBad (d : Device) (t off : Nat) (b : Bytes) : Bool :=
  (d.rowWrites t off b).any (fun e => rowRecordBad (d.shWidth t) e.2)

/-- A write to TCAM_ROWS names a row whose current-parity validity is 1 (R172: STATE). -/
def Device.rowsLive (d : Device) (t off : Nat) (b : Bytes) : Bool :=
  (d.rowWrites t off b).any (fun e => (d.tcamRow t e.1).valid d.parity)

/-- The groups of a table, enabled in either storage copy, in every complex, with the copy that places them. -/
def Device.mirrors (d : Device) (t : Nat) : List TileMap :=
  [d.activeCopy 3, d.shadowCopy 3].flatMap (fun cp => (List.range 64).filterMap (fun i =>
    if d.copyGet cp (Obj.grpEnable i) = 1 ∧ d.copyGet cp (Obj.grpTable i) = t then some (d.tileMap cp (i / 16) (i % 16))
    else none))

/-- How many groups of a table hold a logical row. -/
def Device.rowGroups (d : Device) (t row : Nat) : Nat :=
  ((d.mirrors t).eraseDups.filter (fun m => decide (row < 2048 * m.blocks))).length

/-- How many rows of groups a list of ternary rows makes, by their keys. -/
def Device.groupsOf (d : Device) (keys : List Nat) : Nat := (keys.map (fun k => d.rowGroups (k / 2 ^ 17) (k % 2 ^ 17))).sum

/-- The tile rows of a logical row of a table, by their keys. -/
def Device.rowTiles (d : Device) (t row : Nat) : List Nat :=
  (d.mirrors t).flatMap (fun m => if row < 2048 * m.blocks then
      (List.range m.columns).map (fun k => let x := m.place row k; tileKey m.complex x.1 x.2)
    else [])

/-- Tile rows are written anew: they hold what the golden copy gives them. -/
def Device.tilesWritten (d : Device) (keys : List Nat) : Device :=
  { d with srh := { d.srh with upsets := d.srh.upsets.filter (fun e => !keys.contains e.1) } }

/-- The 64-byte lines of a row of width `w` in the golden copy. -/
def rowLines (w : Nat) : Nat := ceilDiv (rowGranule w) 64

/-- The rows of TCAM_ROWS written, into every mirror and into the golden copy (R172). -/
def Device.writeRows (d : Device) (t off : Nat) (b : Bytes) : Device :=
  (d.rowWrites t off b).foldl (fun d e =>
    let x := d.tcamRow t e.1
    let d := (d.setTcamRow t e.1 { rowOfRecord (d.shWidth t) e.2 with even := x.even, odd := x.odd }).seqWrites (d.rowGroups t e.1)
    let d := (d.tilesWritten (d.rowTiles t e.1)).hbmWork true (rowLines (d.shWidth t))
    { d with srh := { d.srh with goldenErrors := d.srh.goldenErrors.filter (fun k => k != rowKey t e.1) } }) d

/-- The rows and staged bits of a write to TCAM_VALID. -/
def validWrites (off : Nat) (b : Bytes) : List (Nat × Bool) :=
  (List.range (b.length / 8)).flatMap (fun i =>
    let w := beAt b (8 * i) 8
    (List.range 64).map (fun j => (64 * (off / 8 + i) + j, bit w j)))

/-- The staged bits of TCAM_VALID written. -/
def Device.writeValid (d : Device) (t off : Nat) (b : Bytes) : Device :=
  (validWrites off b).foldl (fun d e => d.setTcamRow t e.1 { d.tcamRow t e.1 with staged := e.2 }) d

/-- A word of TCAM_VALID. -/
def Device.validWord (d : Device) (t word : Nat) (active : Bool) : Bytes :=
  beBytes 8 ((List.range 64).foldl (fun a j =>
    let x := d.tcamRow t (64 * word + j)
    a + b2n (if active then x.valid d.parity else x.staged) * 2 ^ j) 0)

/-- STAGED_TCAM: the rows whose staged bit differs from the current one (R173). -/
def Device.stagedTcam (d : Device) : Nat := (d.srh.rows.filter (fun e => e.2.staged != e.2.valid d.parity)).length

/-! ### Exact-match commands (R184, R188, Table 6-11) -/

/-- The staged operation on a key of a table. -/
def Device.stagedOp (d : Device) (t key : Nat) : Option EmStaged :=
  d.srh.emStaged.find? (fun x => x.table == t && x.key == key)

/-- Put or replace the staged operation of a key; `none` removes it. -/
def Device.setStaged (d : Device) (t key : Nat) (o : Option EmStaged) : Device :=
  let rest := d.srh.emStaged.filter (fun x => !(x.table == t && x.key == key))
  { d with srh := { d.srh with emStaged := match o with
      | some x => rest ++ [x]
      | none => rest } }

/-- The way and record of a key in the shadow view: the way is the one it holds or will take. -/
def Device.emShadow (d : Device) (e : EmCfg) (t : Nat) (k : Bytes) : Option (Nat × Nat) :=
  match d.stagedOp t (recKey k) with
  | some x => if x.op = EmOp.delete then none else some (x.way, x.record)
  | none => d.emFind e t d.parity k

/-- The ways of a table that hold something. -/
def Device.tableWays (d : Device) (t : Nat) : List (Nat × Way) := d.srh.ways.filter (fun e => e.1 / 2 ^ 28 == t)

/-- Whether a way is free (R184), for an INSERT: nothing valid, no side slot, and not taken by a staged INSERT. -/
def Device.wayFree (d : Device) (wk : Nat) : Bool :=
  let w := d.way wk
  !w.odd && !w.even && !w.sideValid && !d.srh.emStaged.any (fun x => x.op == EmOp.insert && x.way == wk)

/-- The free way an INSERT takes: in the bucket with more free ways, bucket 1 on a tie, the lowest there. -/
def Device.insertWay (d : Device) (e : EmCfg) (t : Nat) (k : Bytes) : Option Nat :=
  let ws := e.ways t k
  let f1 := (ws.take 4).filter (fun w => d.wayFree w)
  let f2 := (ws.drop 4).filter (fun w => d.wayFree w)
  if f1.length < f2.length then f2.head? else f1.head?

/-- The record indices that ways or staged operations of a table name. -/
def Device.usedRecords (d : Device) (t : Nat) : List Nat :=
  (d.tableWays t).flatMap (fun e =>
    (if e.2.odd || e.2.even then [e.2.record] else []) ++ (if e.2.sideValid then [e.2.sideRecord] else []))
  ++ (d.srh.emStaged.filter (fun x => x.table == t && x.op != EmOp.delete)).map (fun x => x.record)

/-- The lowest free record of a table (log entry 7). -/
def Device.freeRecord (d : Device) (e : EmCfg) (t : Nat) : Option Nat :=
  let used := d.usedRecords t
  ((List.range (used.length + 1)).find? (fun i => !used.contains i)).filter (fun i => decide (i < 5 * 2 ^ e.bl))

/-- Entries of a table in the view of a parity. -/
def Device.emEntries (d : Device) (t : Nat) (par : Bool) : Nat :=
  ((d.tableWays t).filter (fun e => e.2.valid par)).length

/-- Entries of a table in the shadow view. -/
def Device.emShadowEntries (d : Device) (t : Nat) : Nat :=
  let ops := d.srh.emStaged.filter (fun x => x.table == t)
  d.emEntries t d.parity + (ops.filter (fun x => x.op == EmOp.insert)).length - (ops.filter (fun x => x.op == EmOp.delete)).length

/-- Stage an operation with a new record, freeing the record of the one it replaces. -/
def Device.stageRecord (d : Device) (t : Nat) (k : Bytes) (op : EmOp) (way rec ad : Nat) : Device :=
  let again := (d.stagedOp t (recKey k)).any (fun x => x.again || x.op == EmOp.delete)
  let d := match d.stagedOp t (recKey k) with
    | some x => if x.op = EmOp.delete then d else d.setEmRecord t x.record {}
    | none => d
  let d := d.setEmRecord t rec { key := recKey k, ad := ad }
  (d.setStaged t (recKey k) (some ⟨t, op, recKey k, way, rec, again⟩)).hbmWork true 1

/-- The outcome of a command: the status code of Table 6-14, and the AD a READ reports. -/
abbrev CmdResult := Device × Nat × Nat

/-- INSERT. -/
def Device.emInsert (d : Device) (e : EmCfg) (t : Nat) (k : Bytes) (ad : Nat) : CmdResult :=
  let old := d.stagedOp t (recKey k)
  if (d.emShadow e t k).isSome then (d, 1, 0)
  else if old.isNone ∧ 16384 ≤ d.srh.emStaged.length then (d, 5, 0)
  else if d.shadow (Obj.emMaxEntries t) ≤ d.emShadowEntries t then (d.bump (Obj.emStatInsertFails t), 4, 0)
  else match d.freeRecord e t with
    | none => (d.bump (Obj.emStatInsertFails t), 4, 0)
    | some r =>
      match old with
      | some x => (d.stageRecord t k .update x.way r ad, 0, 0)
      | none =>
        match d.insertWay e t k with
        | none => ((d.bump (Obj.emStatInsertFails t)).fire islSRH 202 t, 3, 0)
        | some w => (d.stageRecord t k .insert w r ad, 0, 0)

/-- UPDATE. -/
def Device.emUpdate (d : Device) (e : EmCfg) (t : Nat) (k : Bytes) (ad : Nat) : CmdResult :=
  let old := d.stagedOp t (recKey k)
  match d.emShadow e t k with
  | none => (d, 2, 0)
  | some (w, _) =>
    if old.isNone ∧ 16384 ≤ d.srh.emStaged.length then (d, 5, 0)
    else match d.freeRecord e t with
      | none => (d, 4, 0)
      | some r =>
        let op := match old with
          | some x => x.op
          | none => .update
        (d.stageRecord t k op w r ad, 0, 0)

/-- DELETE. -/
def Device.emDelete (d : Device) (e : EmCfg) (t : Nat) (k : Bytes) : CmdResult :=
  match d.emShadow e t k with
  | none => (d, 2, 0)
  | some (w, _) =>
    match d.stagedOp t (recKey k) with
    | some x =>
      let d := d.setEmRecord t x.record {}
      (d.setStaged t (recKey k) (if x.op = EmOp.insert then none else some ⟨t, .delete, recKey k, w, 0, false⟩), 0, 0)
    | none =>
      if 16384 ≤ d.srh.emStaged.length then (d, 5, 0)
      else (d.setStaged t (recKey k) (some ⟨t, .delete, recKey k, w, 0, false⟩), 0, 0)

/-- READ, from the shadow or the current view (R188). -/
def Device.emRead (d : Device) (e : EmCfg) (t : Nat) (k : Bytes) (active : Bool) : CmdResult :=
  match (if active then d.emFind e t d.parity k else d.emShadow e t k) with
  | some (_, r) => (d, 0, (d.emRecord t r).ad)
  | none => (d, 2, 0)

/-- One exact-match command record (Table 6-11): the sequencer reads the key's buckets and records.  A record that no write has
reached, with OP 0, runs as a READ when a later segment with FINAL starts the batch (DESIGN CHOICE, log entry 14). -/
def Device.emCommand (d : Device) (t : Nat) (b : Bytes) : CmdResult :=
  let h := beAt b 0 8
  let e := d.emCfg (d.shadowCopy 4) t
  let k := slice b 16 e.kb
  let ad := beAt b 8 8
  if d.shadow (Obj.emEnable t) ≠ 1 then (d, 6, 0)
  else
    let d := d.hbmWork false (d.emLines e t d.parity k).length
    match bits h 63 56 with
    | 1 => d.emInsert e t k ad
    | 2 => d.emUpdate e t k ad
    | 3 => d.emDelete e t k
    | _ => d.emRead e t k (bit h 55)

/-- A record that R188 refuses. -/
def emRecordBad (kb : Nat) (b : Bytes) : Bool :=
  let h := beAt b 0 8
  bits h 63 56 == 0 || decide (4 < bits h 63 56) || bits h 54 0 != 0 || beAt b 56 8 != 0
  || (slice b (16 + kb) (40 - kb)).any (fun v => v != 0)

/-- A result record (Table 6-13). -/
def resultRecord (status ad : Nat) : Bytes := beBytes 8 (status * 2 ^ 56) ++ beBytes 8 ad

/-- The first `n` commands of a table's window, in order (R188). -/
def Device.emBatchRun (d : Device) (t n : Nat) : Device :=
  (List.range n).foldl (fun d i =>
    let r := d.emCommand t (d.memRead (Obj.domEmCommand t) (64 * i) 64)
    r.1.memWrite (Obj.domEmResult t) (16 * i) (resultRecord r.2.1 r.2.2)) d

/-- Whether a batch of `n` exact-match records outlasts R53 at the rate of R189 (log entry 14). -/
def Device.emBatchLong (d : Device) (n : Nat) : Bool := decide (d.svcBound < n * 500 * 16 / d.clockK islSRH)

/-! ### Route commands (R187, R188, Table 6-12) -/

/-- The associated data of a route in the shadow view. -/
def Device.lpmShadow (d : Device) (k : Nat) : Option Nat :=
  match d.srh.lpmStaged.find k with
  | some o => o
  | none => (d.routes d.parity).find k

/-- Stage a route change; how many nodes of its path the sequencer writes is a free value (R187, log entry 1). -/
def Device.lpmStage (d : Device) (k : Nat) (o : Option Nat) : Device :=
  let r := d.takeFree
  let d := r.2.hbmWork true (1 + r.1 % 32)
  let l := d.srh.lpmStaged
  let again := d.srh.lpmAgain
  match o with
  | none =>
    { d with srh := { d.srh with
        lpmStaged := if ((d.routes d.parity).find k).isSome then l.put k none else l.drop k, lpmAgain := again.erase k } }
  | some _ =>
    { d with srh := { d.srh with lpmStaged := l.put k o, lpmAgain := if l.find k = some none then k :: again else again } }

/-- The routes of the shadow view. -/
def Device.lpmShadowCount (d : Device) : Nat :=
  let cur := d.routes d.parity
  let adds := d.srh.lpmStaged.filter (fun e => e.2.isSome && (cur.find e.1).isNone)
  let dels := d.srh.lpmStaged.filter (fun e => e.2.isNone)
  cur.length + adds.length - dels.length

/-- Whether a VRF holds routes of a family in the shadow view. -/
def Device.vrfHasRoutes (d : Device) (v fam : Nat) : Bool :=
  let mine := fun (k : Nat) => k / 2 ^ 136 == v * 2 + fam
  (d.routes d.parity).any (fun e => mine e.1 && (d.lpmShadow e.1).isSome)
  || d.srh.lpmStaged.any (fun e => mine e.1 && e.2.isSome)

/-- ROUTE_CAPACITY. -/
def Device.routeCapacity (d : Device) : Nat := 125000 * d.shadow Obj.lpmRegionCount

/-- The nodes that a route command reads in the store; how many is a free value (R187, log entry 1). -/
def Device.lpmReads (d : Device) : Device :=
  let r := d.takeFree
  r.2.hbmWork false (r.1 % 17)

/-- One route command record (Table 6-12). -/
def Device.lpmCommand (d : Device) (b : Bytes) : CmdResult :=
  let h := beAt b 0 8
  let fam := bits h 54 54
  let v := bits h 43 32
  let k := routeKey v fam (bits h 31 24) (beAt b 16 (famBits fam / 8))
  let ad := beAt b 8 8
  let found := (d.lpmShadow k).isSome
  let limit := (d.srh.lpmStaged.find k).isNone && decide (4096 ≤ d.srh.lpmStaged.length)
  if !vrfEnabled (d.shadowRead Obj.domVrfTable (32 * v) 32) fam then (d, 6, 0)
  else
    let d := d.lpmReads
    match bits h 63 56 with
    | 1 =>
      if found then (d, 1, 0)
      else if limit then (d, 5, 0)
      else if d.routeCapacity ≤ d.lpmShadowCount then (d, 4, 0)
      else (d.lpmStage k (some ad), 0, 0)
    | 2 =>
      if !found then (d, 2, 0)
      else if limit then (d, 5, 0)
      else (d.lpmStage k (some ad), 0, 0)
    | 3 =>
      if !found then (d, 2, 0)
      else if limit then (d, 5, 0)
      else (d.lpmStage k none, 0, 0)
    | _ =>
      match (if bit h 55 then (d.routes d.parity).find k else d.lpmShadow k) with
      | some a => (d, 0, a)
      | none => (d, 2, 0)

/-- A record that R188 refuses. -/
def lpmRecordBad (b : Bytes) : Bool :=
  let h := beAt b 0 8
  let fam := bits h 54 54
  let len := bits h 31 24
  let w := famBits fam
  bits h 63 56 == 0 || decide (4 < bits h 63 56) || bits h 53 44 != 0 || bits h 23 0 != 0
  || (b.drop (16 + w / 8)).any (fun v => v != 0) || decide (w < len)
  || beAt b 16 (w / 8) % 2 ^ (w - len) != 0

/-- The first `n` route commands, in order. -/
def Device.lpmBatchRun (d : Device) (n : Nat) : Device :=
  (List.range n).foldl (fun d i =>
    let r := d.lpmCommand (d.memRead Obj.domLpmCommand (64 * i) 64)
    r.1.memWrite Obj.domLpmResult (16 * i) (resultRecord r.2.1 r.2.2)) d

/-- Whether a batch of `n` route records outlasts R53 at the rate of R189 (log entry 14). -/
def Device.lpmBatchLong (d : Device) (n : Nat) : Bool := decide (d.svcBound < n * 10000 * 16 / d.clockK islSRH)

/-- A pending batch's results are written, and event 201 fires (R189). -/
def Device.batchDone (d : Device) (lpm : Bool) : Device :=
  if lpm then
    match d.srh.lpmBatch with
    | some n =>
      let d := d.lpmBatchRun n
      Device.fire { d with srh := { d.srh with lpmBatch := none } } islSRH 201 0xE600
    | none => d
  else
    match d.srh.emBatch with
    | some (t, n) =>
      let d := d.emBatchRun t n
      Device.fire { d with srh := { d.srh with emBatch := none } } islSRH 201 (0xE500 + t)
    | none => d

/-- TABLE_BATCH_DONE (R189). -/
def execTableBatchDone (lpm : Bool) (s : State) : Host.Outcome State Fault Refusal :=
  if s.d.awake then .next { s with d := s.d.batchDone lpm } else .next s

/-! ### What a COMMIT prepares (R173, R184, R187) -/

/-- The way write of a staged operation at COMMIT (Table 6-9).  An entry in error that was deleted, in an
earlier front or in this one, is in error no more once it is inserted again (R191). -/
def Device.wayWrite (d : Device) (x : EmStaged) : Device :=
  let cur := d.parity
  let w := d.way x.way
  let e := d.emCfg (d.shadowCopy 4) x.table
  let d := d.hbmWork true 1
  let d : Device := if x.op = EmOp.insert ∨ x.again then { d with srh := { d.srh with
      entryErrors := d.srh.entryErrors.filter (fun n => n != entryName x.table x.key) } } else d
  match x.op with
  | .insert =>
    let fp := (e.hash (slice (beBytes 40 x.key) 0 e.kb)).2.2
    d.setWay x.way (({ w with record := x.record, fingerprint := fp }.setValid (!cur) true).setValid cur false)
  | .update =>
    d.setWay x.way ({ w with sideRecord := w.record, sideParity := cur, sideValid := true,
                             record := x.record }.setValid (!cur) true)
  | .delete => d.setWay x.way (w.setValid (!cur) false)

/-- A validity bit of a tile's row. -/
def TileRow.setValid (x : TileRow) (par v : Bool) : TileRow := if par then { x with odd := v } else { x with even := v }

/-- Whether a tile's row takes part in searches of a parity. -/
def TileRow.valid (x : TileRow) (par : Bool) : Bool := if par then x.odd else x.even

/-- The sequencer writes the staged bit of every changed row into the mirrors, upset rows among them (R173). -/
def Device.writeStagedBits (d : Device) (next : Bool) : Device :=
  let changed := d.srh.rows.filter (fun e => e.2.staged != e.2.valid (!next))
  let tiles := changed.flatMap (fun e => (d.rowTiles (e.1 / 2 ^ 17) (e.1 % 2 ^ 17)).map (fun k => (k, e.2.staged)))
  let d := d.seqWrites (d.groupsOf (changed.map Prod.fst))
  { d with srh := { d.srh with
      rows := d.srh.rows.map (fun e => (e.1, e.2.setValid next e.2.staged))
      upsets := d.srh.upsets.map (fun u => match tiles.find? (fun x => x.1 == u.1) with
        | some x => (u.1, u.2.setValid next x.2)
        | none => u) } }

/-- The routes whose insertion a COMMIT makes: those staged that the current parity does not hold, and those that the front deletes
and inserts again. -/
def Device.routesInserted (d : Device) : List Nat :=
  d.srh.lpmAgain ++ (d.srh.lpmStaged.filter (fun e => e.2.isSome && ((d.routes d.parity).find e.1).isNone)).map Prod.fst

/-- The next-parity validity, way and root writes of a COMMIT naming groups 3, 4 and 5. -/
def Device.prepareTables (d : Device) (mask : Nat) : Device :=
  let cur := d.parity
  let d : Device := if bit mask 3 then d.writeStagedBits (!cur) else d
  let d : Device :=
    if bit mask 4 then
      let d := d.srh.emStaged.foldl Device.wayWrite d
      { d with srh := { d.srh with emStaged := [] } }
    else d
  if bit mask 5 then
    let next := d.srh.lpmStaged.foldl (fun l e => match e.2 with
      | some a => l.put e.1 a
      | none => l.drop e.1) (d.routes cur)
    let again := d.routesInserted
    let d : Device := { d with srh := { d.srh with
      routeErrors := d.srh.routeErrors.filter (fun k => !again.contains k), lpmAgain := [] } }
    if cur then { d with srh := { d.srh with routesEven := next, lpmStaged := [] } }
    else { d with srh := { d.srh with routesOdd := next, lpmStaged := [] } }
  else d

/-! ### What a drain releases (R174, R184, R187) -/

/-- Rows that read as the default are not listed. -/
def trimRows (l : Assoc TcamRow) : Assoc TcamRow := l.filter (fun e => e.2 != {})

/-- A way after the drain: both bits equal, no side slot; a way valid in neither parity is free. -/
def Way.drained (w : Way) (cur : Bool) : Way :=
  if w.valid cur then
    { w with odd := true, even := true, sideValid := false, sideParity := false, sideRecord := 0 }
  else {}

/-- The release of groups 3, 4 and 5; `cur` is the current parity. -/
def Device.releaseTables (d : Device) (mask : Nat) (cur : Bool) : Device :=
  let d : Device :=
    if bit mask 3 then
      let changed := d.srh.rows.filter (fun e => e.2.valid (!cur) != e.2.valid cur)
      let d := d.seqWrites (d.groupsOf (changed.map Prod.fst))
      { d with srh := { d.srh with
          rows := trimRows (d.srh.rows.map (fun e => (e.1, e.2.setValid (!cur) (e.2.valid cur))))
          upsets := d.srh.upsets.map (fun u => (u.1, u.2.setValid (!cur) (u.2.valid cur))) } }
    else d
  let d : Device :=
    if bit mask 4 then
      let d := d.hbmWork true (d.srh.ways.filter (fun e => e.2 != e.2.drained cur)).length
      let ways := (d.srh.ways.map (fun e => (e.1, e.2.drained cur))).filter (fun e => e.2 != {})
      let used := ways.map (fun e => e.1 / 2 ^ 28 * 2 ^ 29 + e.2.record)
        ++ d.srh.emStaged.map (fun x => x.table * 2 ^ 29 + x.record)
      { d with srh := { d.srh with ways := ways, records := d.srh.records.filter (fun e => used.contains e.1) } }
    else d
  if bit mask 5 then
    if cur then { d with srh := { d.srh with routesEven := d.srh.routesOdd } }
    else { d with srh := { d.srh with routesOdd := d.srh.routesEven } }
  else d

/-! ### Groups (R164, R167, R175 to R177) -/

/-- Whether a group's ENABLE is 1 in a copy; a group that is being filled counts in the shadow. -/
def Device.groupOn (d : Device) (copy : Bool) (i : Nat) : Bool :=
  d.copyGet copy (Obj.grpEnable i) == 1 || (copy == d.shadowCopy 3 && d.srh.fills.contains i)

/-- The tiles of a group in a copy: the first, and how many. -/
def Device.groupTiles (d : Device) (copy : Bool) (i : Nat) : Nat × Nat :=
  if d.fixedGeometry (i / 16) then (16 * (i % 16), 16)
  else
    let t := d.copyGet copy (Obj.grpTable i)
    (d.copyGet copy (Obj.grpFirstTile i), d.copyGet copy (Obj.tcamWidth t) * d.copyGet copy (Obj.tcamDepth t))

/-- Whether two tile ranges overlap. -/
def tilesMeet (a b : Nat × Nat) : Bool := decide (a.1 < b.1 + b.2) && decide (b.1 < a.1 + a.2)

/-- Whether a group's shadow configuration is valid (R164, R177). -/
def Device.groupValid (d : Device) (i : Nat) : Bool :=
  let c := i / 16
  let sh := d.shadowCopy 3
  let t := d.copyGet sh (Obj.grpTable i)
  let w := d.copyGet sh (Obj.tcamWidth t)
  let dp := d.copyGet sh (Obj.tcamDepth t)
  let mine := d.groupTiles sh i
  let others := ((List.range 16).map (fun g => 16 * c + g)).filter (fun j => j != i)
  let free := [sh, d.activeCopy 3].all (fun cp => others.all (fun j =>
    !(d.groupOn cp j && tilesMeet mine (d.groupTiles cp j))))
  if d.fixedGeometry c then decide (i % 16 < 4) && decide (w ≤ 2) && decide (dp ≤ 8)
  else mine.1 % max 1 w == 0 && decide (mine.1 + mine.2 ≤ 64) && free

/-- A write of a group's ENABLE, FIRST_TILE or TABLE that would leave it enabled and invalid (R164: RANGE). -/
def Device.groupRange (d : Device) (i key v : Nat) : Bool :=
  let d' := d.stage key v
  d'.groupOn (d'.shadowCopy 3) i && !d'.groupValid i

/-- Whether a group names a table in the active or the shadow copy (R167). -/
def Device.tableNamed (d : Device) (t : Nat) : Bool :=
  (List.range 64).any (fun i => [d.shadowCopy 3, d.activeCopy 3].any (fun cp =>
    d.groupOn cp i && d.copyGet cp (Obj.grpTable i) == t))

/-- ENABLE = 1 on a group starts its fill from the golden copy, answered PENDING (R175, log entry 14). -/
def Device.groupFill (d : Device) (i : Nat) : Device :=
  if d.srh.fills.contains i then d else { d with srh := { d.srh with fills := d.srh.fills ++ [i] } }

/-- The fill is done: the shadow ENABLE reads 1.  While a front that names group 3 drains there is no shadow to report
in, and the completion waits. -/
def Device.groupFilled (d : Device) (i : Nat) : Device :=
  if d.srh.fills.contains i ∧ !d.noShadow 3 then
    let m := d.tileMap (d.shadowCopy 3) (i / 16) (i % 16)
    let tiles := fun (k : Nat) => k / 2048 / 64 == m.complex && (m.logical (k / 2048 % 64) 0).isSome
    let d : Device := { d with srh := { d.srh with
      fills := d.srh.fills.erase i
      upsets := d.srh.upsets.filter (fun e => !tiles e.1) } }
    ((d.hbmWork false (2048 * m.blocks * rowLines m.width)).seqWrites (2048 * m.blocks)).stage (Obj.grpEnable i) 1
  else d

/-- GROUP_FILL_DONE (R175). -/
def execGroupFillDone (c : Fin 4) (g : Fin 16) (s : State) : Host.Outcome State Fault Refusal :=
  if s.d.awake then .next { s with d := s.d.groupFilled (16 * c + g) } else .next s

/-- A change of FIXED_SELECT applies at once and disables every group of the complex (R176). -/
def Device.fixedWrite (d : Device) (c v : Nat) : Device :=
  if d.get (Obj.cxFixedSelect c) = v then d
  else
    let gs := (List.range 16).map (fun g => 16 * c + g)
    let d := gs.foldl (fun d i => (d.copyPut false (Obj.grpEnable i) 0).copyPut true (Obj.grpEnable i) 0) d
    let d : Device := { d with srh := { d.srh with fills := d.srh.fills.filter (fun i => i / 16 != c) } }
    d.put (Obj.cxFixedSelect c) v

/-- The self-test result of one complex (R176). -/
def Device.selftestOf (d : Device) (c : Nat) (x : SelfTest) : Device :=
  let d := d.put (Obj.cxSelftestDetail c) (x.failedTiles % 2 ^ 64)
  let full := x.failedTiles % 2 ^ 64 != 0
  let d := d.put (Obj.cxGeometry c) (if x.shortFailed then 2 else if full then 1 else 0)
  let d := if full then d.fireOf islSRH 199 0 (x.failedTiles % 2 ^ 64) c else d
  if x.shortFailed then d.fire islSRH 200 c else d

/-- CASCADE_SELFTEST_DONE (R176): the self-test that entry to INIT started completes in all four complexes. -/
def execCascadeSelftestDone (links : List SelfTest) (s : State) : Host.Outcome State Fault Refusal :=
  if s.d.awake ∧ s.d.srh.selftest then
    let d : Device := { s.d with srh := { s.d.srh with selftest := false } }
    .next { s with d := Device.recheck ((List.range 4).foldl (fun d c =>
      d.selftestOf c (links.getD c { failedTiles := 0, shortFailed := false })) d) }
  else .next s

/-! ### Placement of exact-match tables and routes (R180, R186) -/

/-- The regions an exact-match table occupies in a copy: first and count; a table being cleared counts in the shadow. -/
def Device.emPlace (d : Device) (copy : Bool) (t : Nat) : Option (Nat × Nat) :=
  if d.copyGet copy (Obj.emEnable t) = 1 ∨ (copy = d.shadowCopy 4 ∧ d.srh.clears.contains t) then
    some (d.copyGet copy (Obj.emRegionBase t), 2 ^ (d.copyGet copy (Obj.emBucketsLog2 t) - 16))
  else none

/-- The regions the LPM store occupies in its shadow. -/
def Device.lpmPlace (d : Device) : Option (Nat × Nat) :=
  let n := d.shadow Obj.lpmRegionCount
  if n = 0 then none else some (d.shadow Obj.lpmRegionBase, n)

/-- Whether every two of a list of region ranges are apart. -/
def placesApart : List (Nat × Nat) → Bool
  | [] => true
  | x :: xs => xs.all (fun y => !tilesMeet x y) && placesApart xs

/-- Whether the shadow placements satisfy R180. -/
def Device.placementOk (d : Device) : Bool :=
  let ps := (List.range 64).filterMap (fun t => d.emPlace (d.shadowCopy 4) t) ++ d.lpmPlace.toList
  ps.all (fun p => decide (p.1 + p.2 ≤ 4088)) && placesApart ps
  && (List.range 64).all (fun t =>
       decide (d.shadow (Obj.emMaxEntries t) ≤ 4 * 2 ^ d.shadow (Obj.emBucketsLog2 t)))
  && decide (((List.range 64).map (fun t => d.shadow (Obj.emMaxEntries t))).sum ≤ 256000000)

/-- A write that would break R180 (RANGE). -/
def Device.placementRange (d : Device) (key v : Nat) : Bool := !(d.stage key v).placementOk

/-- Whether any route exists (R186). -/
def Device.anyRoute (d : Device) : Bool :=
  !d.srh.routesEven.isEmpty || !d.srh.routesOdd.isEmpty || d.srh.lpmStaged.any (fun e => e.2.isSome)

/-! ### Clearing a table (R181) -/

/-- The buckets of a table are cleared. -/
def Device.emCleared (d : Device) (t : Nat) : Device :=
  let e := d.emCfg (d.shadowCopy 4) t
  let d : Device := { d with srh := { d.srh with
    ways := d.srh.ways.filter (fun x => x.1 / 2 ^ 28 != t)
    records := d.srh.records.filter (fun x => x.1 / 2 ^ 29 != t)
    emStaged := d.srh.emStaged.filter (fun x => x.table != t)
    entryErrors := d.srh.entryErrors.filter (fun n => n / 2 ^ 320 != t) } }
  d.hbmWork true (2 ^ e.bl)

/-- Whether the clearing outlasts R53: 24 GiB in 10 ms (R181, log entry 14). -/
def Device.emClearLong (d : Device) (t : Nat) : Bool :=
  decide (d.svcBound < 10000000 * 16 / d.clockK islMEM / 2 ^ (26 - d.shadow (Obj.emBucketsLog2 t)))

/-- ENABLE = 1 on a table enabled in neither copy: cleared before the response, or PENDING (R181).  True: PENDING. -/
def Device.emEnableNew (d : Device) (t : Nat) : Device × Bool :=
  if d.emClearLong t then
    ({ d with srh := { d.srh with clears := if d.srh.clears.contains t then d.srh.clears else d.srh.clears ++ [t] } }, true)
  else ((d.emCleared t).stage (Obj.emEnable t) 1, false)

/-- Clearing completes: BATCH_STATE returns to IDLE and the shadow ENABLE reads 1. -/
def Device.emClearDone (d : Device) (t : Nat) : Device :=
  if d.srh.clears.contains t ∧ !d.noShadow 4 then
    let d : Device := { d with srh := { d.srh with clears := d.srh.clears.erase t } }
    (d.emCleared t).stage (Obj.emEnable t) 1
  else d

/-- EM_CLEAR_DONE (R181). -/
def execEmClearDone (t : Fin 64) (s : State) : Host.Outcome State Fault Refusal :=
  if s.d.awake then .next { s with d := s.d.emClearDone t } else .next s

/-! ### Scrubbing (R178, R192) and failed stacks (R439) -/

/-- A tile row that differed is rewritten (R178). -/
def Device.scrubRepair (d : Device) (c tile row : Nat) : Device :=
  ((d.bump (Obj.cxScrubRepairs c)).seqWrites 1).fireOf islSRH 197 c (c * 2 ^ 56 + tile * 2 ^ 40 + row) 0

/-- The enabled groups of a complex as its searches see them. -/
def Device.complexMaps (d : Device) (c : Nat) : List TileMap :=
  ((List.range 16).filter (fun g => d.active (Obj.grpEnable (16 * c + g)) == 1)).map (fun g =>
    d.tileMap (d.activeCopy 3) c g)

/-- What the golden copy gives a tile's row of a complex: none where no enabled group has the tile, or the copy's line is lost
(R192), so that there is nothing to compare with. -/
def Device.goldenTile (d : Device) (c tile row : Nat) : Option TileRow :=
  match (d.complexMaps c).findSome? (fun m => (m.logical tile row).map (fun x => (m, x))) with
  | none => some {}
  | some (m, x) =>
    if d.srh.goldenErrors.contains (rowKey m.table x.1) then none else some ((d.tcamRow m.table x.1).tile m.width x.2)

/-- A pass over a complex: every upset row that differs from the golden copy is rewritten. -/
def Device.tcamPass (d : Device) (c : Nat) : Device :=
  let mine := d.srh.upsets.filter (fun e => e.1 / 2048 / 64 == c)
  let d := mine.foldl (fun d e =>
    let tile := e.1 / 2048 % 64
    let row := e.1 % 2048
    match d.goldenTile c tile row with
    | none => d
    | some x =>
      let d := if x = e.2 then d else d.scrubRepair c tile row
      d.tilesWritten [e.1]) d
  (d.hbmWork false ((d.complexMaps c).map (fun m => 2048 * m.blocks * rowLines m.width)).sum).tallyPlain islSRH 7 131072

/-- TCAM_SCRUB (R178): a pass over a complex, whose tiles hold further upsets; it stops when stack 3 has failed (R439). -/
def execTcamScrub (c : Fin 4) (upsets : List TileUpset) (s : State) : Host.Outcome State Fault Refusal :=
  if s.d.srh.failedStacks.testBit 3 then .next s
  else .next { s with d := (s.d.tilesUpset c upsets).tcamPass c }

/-- Whether a region is scrubbed (R192). -/
def Device.scrubbed (d : Device) (r : Nat) : Bool :=
  let ac := d.activeCopy 4
  decide (4088 ≤ r)
  || (List.range 64).any (fun t => d.copyGet ac (Obj.emEnable t) == 1
       && decide (d.copyGet ac (Obj.emRegionBase t) ≤ r)
       && decide (r < d.copyGet ac (Obj.emRegionBase t) + 2 ^ (d.copyGet ac (Obj.emBucketsLog2 t) - 16)))
  || (decide (d.active Obj.lpmRegionBase ≤ r) && decide (r < d.active Obj.lpmRegionBase + d.active Obj.lpmRegionCount))

/-- The line the scrubber reads next, in ascending order of the scrubbed regions. -/
def Device.scrubNext (d : Device) : Nat :=
  let r := lineRegion d.srh.scrubAt
  if d.scrubbed r then d.srh.scrubAt
  else match (List.range 4096).find? (fun x => decide (r < x) && d.scrubbed x) with
    | some x => x * regionLines
    | none => ((List.range 4096).find? (fun x => d.scrubbed x)).getD 4088 * regionLines

/-- The exact-match table whose region, in the active copy, a line lies in. -/
def Device.tableOfLine (d : Device) (l : Nat) : Option Nat :=
  (List.range 64).find? (fun t => d.active (Obj.emEnable t) == 1
    && decide (d.active (Obj.emRegionBase t) ≤ lineRegion l)
    && decide (lineRegion l < d.active (Obj.emRegionBase t) + 2 ^ (d.active (Obj.emBucketsLog2 t) - 16)))

/-- The scrubber meets an uncorrectable line of a table region: its entries are in error (R191).  Which route, if any, has a node
in a line of the route store is a free value (log entry 1). -/
def Device.tableLineBad (d : Device) (l : Nat) : Device :=
  let d := d.hbmError l
  match d.tableOfLine l with
  | some t => d.lineBad (d.emCfg (d.activeCopy 4) t) t l
  | none =>
    let r := d.takeFree
    let rs := (r.2.routes r.2.parity).map Prod.fst
    match rs[r.1 % (rs.length + 1)]? with
    | some k => { r.2 with srh := { r.2.srh with routeErrors := k :: r.2.srh.routeErrors } }
    | none => r.2

/-- The enabled groups of a table in the active copy that hold a row, complex by complex. -/
def Device.holders (d : Device) (t row : Nat) : List TileMap :=
  ((List.range 4).flatMap (fun c => d.complexMaps c)).filter (fun m => m.table == t && decide (row < 2048 * m.blocks))

/-- The content of a logical row as its tiles hold it. -/
def Device.tilesContent (d : Device) (m : TileMap) (row : Nat) : TcamRow :=
  let cols := (List.range m.width).map (fun k => (k, d.tileRow m row k))
  let join := fun (p : TileRow → Nat) => (cols.map (fun x => p x.2 * 2 ^ (560 - 80 * x.1))).sum
  let x := d.tileRow m row 0
  { d.tcamRow m.table row with data := join (·.data), mask := join (·.mask), prio := x.prio, odd := x.odd, even := x.even }

/-- The scrubber meets an uncorrectable golden-copy line: the row in it is rebuilt from the lowest-numbered enabled group that
holds it, or stays in error until its next record write (R192); the stack has reported an uncorrectable error (R439).  Which row a line holds is a free value (log entry 1). -/
def Device.goldenLineBad (d : Device) : Device :=
  let r := (d.stackError 3).takeFree
  let d := r.2
  match d.srh.rows[r.1 % (d.srh.rows.length + 1)]? with
  | none => d
  | some e =>
    let t := e.1 / 2 ^ 17
    let row := e.1 % 2 ^ 17
    match d.holders t row with
    | m :: _ => (d.setTcamRow t row (d.tilesContent m row)).hbmWork true 1
    | [] => { d with srh := { d.srh with goldenErrors := (e.1 :: d.srh.goldenErrors).eraseDups } }

/-- The scrubber reads a line (R192). -/
def Device.scrubLine (d : Device) (found : EccOutcome) : Device :=
  let l := d.scrubNext
  let d : Device := { d with srh := { d.srh with scrubAt := (l + 1) % (4096 * regionLines) } }
  let d := d.hbmWork false 1
  match found with
  | .clean => d
  | .correctable => (d.bump Obj.srhHbmEccCorrected).tallyPlain islMEM 4 1
  | .uncorrectable => if lineRegion l < 4088 then d.tableLineBad l else d.goldenLineBad

/-- HBM_SCRUB_LINE (R192). -/
def execHbmScrubLine (found : EccOutcome) (s : State) : Host.Outcome State Fault Refusal :=
  .next { s with d := s.d.scrubLine found }

end Sys2Proof.Machine
end

