-- ==== Sys2Proof/Machine/TrafficManager.lean ====
section
/-!
DEFINITION. The traffic manager's commands (chapter 11): the scheduler's choice, shapers that become eligible, sampling
rounds and the telemetry ring.
-/
namespace Sys2Proof.Machine

/-! ### The scheduler's choice -/

/-- The bytes of a copy as it leaves its port: edited and padded for an external port (R223), the stored bytes
for an internal one (R298). -/
def Device.outBytes (d : Device) (c : Copy) : Bytes :=
  let f := d.frame c.frame
  if c.port < 128 then egressEdit f.bytes f.result (d.sthType f.parity) else editHead f.bytes f.result.head f.result.eIn

/-- The cells of a copy that hold an uncorrectable error. -/
def Device.badCellsOf (d : Device) (i : Nat) : List Nat :=
  ((d.chain (d.copyRec i).chain).cells).filter (fun x => d.swc.badCells.contains x)

/-- The reads of a chosen copy's cells, and whether one meets an uncorrectable error (R288, R306).  A new error stays with its
cell until the cell is allocated again, so every copy of the chain meets it; which cell of the chain it is in is a free value
(log entry 1).  A copy whose cells have been read once, and that expiry sends to port 128, is not read again: the editor holds its
bytes (DESIGN CHOICE, log entry 54). -/
def Device.readCells (d : Device) (i : Nat) (cell : EccOutcome) : Device × Bool :=
  let c := d.copyRec i
  let t := (d.frame c.frame).tenant
  if c.released then (d, false)
  else
  let d := (d.spend islSWC 8 t c.cells).tally islSWC 1 c.cells t
  match cell with
  | .clean => (d, !(d.badCellsOf i).isEmpty)
  | .correctable => (d.bump Obj.swcCellEccCorrected, !(d.badCellsOf i).isEmpty)
  | .uncorrectable =>
    let cells := (d.chain c.chain).cells
    let r := d.takeFree
    ({ r.2 with swc := { r.2.swc with badCells := cells.getD (r.1 % max 1 cells.length) 0 :: r.2.swc.badCells } }, true)

/-- An uncorrectable cell error: the copy is dropped before any of its bytes leave (R306). -/
def Device.cellError (d : Device) (i : Nat) : Device :=
  ((d.bump Obj.swcCellEccDrops).fire islSWC 613 ((d.badCellsOf i).headD 0)).endCopy 25 i

/-- The editor has read every cell of a chosen copy, so that the chain reference of one for a MAC goes (R304, R305); at an
internal port it goes with the consumer, unless it has gone already. -/
def Device.editCopy (d : Device) (i : Nat) : Device :=
  let c := d.copyRec i
  let f := d.frame c.frame
  let mac := decide (c.port < 128)
  let d : Device := if mac ∧ f.result.sa.isSome then { d with cry := { d.cry with outbound := d.cry.outbound ++ [i] } } else d
  let d := d.setCopy i { c with out := some (d.outBytes c), needsCrypto := mac && f.result.sa.isSome, released := c.released || mac }
  let d := d.setPort c.port { d.port c.port with tx := (d.port c.port).tx ++ [i] }
  if mac && !c.released then d.decref (releaseRequester c.port) f.tenant c.chain else d

/-- The editor reads a chosen copy (R305, R306). -/
def Device.readCopy (d : Device) (i : Nat) (cell : EccOutcome) : Device :=
  match d.readCells i cell with
  | (d, true) => d.cellError i
  | (d, false) => d.editCopy i

/-- Whether a port's scheduler may choose: an external port that is UP (R325), with at most two copies chosen and not
yet taken (R324); the recirculation queues are chosen from by their parsers (R318). -/
def Device.mayChoose (d : Device) (p : Nat) : Bool :=
  (decide (128 ≤ p) || d.link p == lkUP) && decide ((d.port p).tx.length < 2) && p != 129 && d.dataRuns

/-- SCHEDULER_CHOICE (R323). -/
def execSchedulerChoice (p : Fin 132) (cell : EccOutcome) (s : State) : Host.Outcome State Fault Refusal :=
  if s.d.mayChoose p then
    match s.d.chooseCopy p with
    | (d, some i) => .next { s with d := d.readCopy i cell }
    | (d, none) => .next { s with d := d }
  else .next s

/-- The scheduler node of a shaper. -/
def nodeIdKey (n : NodeId) : Nat :=
  match n with
  | .port p => p
  | .group g => groupNode g
  | .tenantNode t => tenantNode t
  | .queue q => queueNode q

/-- SHAPER_ELIGIBLE (R323): a negative shaper's refill has reached zero, and its node rejoins its parent's list. -/
def Device.shaperRejoin (d : Device) (n : Nat) : Device := d.settle 4 n

/-- SHAPER_ELIGIBLE (R323). -/
def execShaperEligible (node : NodeId) (s : State) : Host.Outcome State Fault Refusal :=
  if s.d.dataRuns then .next { s with d := s.d.shaperRejoin (nodeIdKey node) } else .next s

/-! ### Sampling (R328 to R332) -/

/-- Insert into an ascending list. -/
def insertAsc (x : Nat) : List Nat → List Nat
  | [] => [x]
  | y :: ys => if x ≤ y then x :: y :: ys else y :: insertAsc x ys

/-- Ascending order. -/
def sortAsc (l : List Nat) : List Nat := l.foldl (fun a x => insertAsc x a) []

/-- The queues SAMPLE_SELECT selects, ascending: queue q is bit (q mod 64) of the word at offset 8 × ⌊q/64⌋. -/
def Device.selectedQueues (d : Device) : List Nat :=
  sortAsc ((d.dict.mem.filter (fun e => e.1 / 2 ^ 32 == Obj.domSampleSelect)).flatMap (fun e =>
    let o := e.1 % 2 ^ 32
    (setBits 8 e.2.toNat).map (fun b => 64 * (o / 8) + 8 * (7 - o % 8) + b)))

/-- The round in hand is over, and the next has the next number (Table 11-8). -/
def Device.roundOver (d : Device) : Device :=
  { d with tm := { d.tm with round := (d.tm.round + 1) % 2 ^ 32, roundLeft := [], roundPart := 0 } }

/-- A sample record (Table 11-8). -/
def Device.sampleRecord (d : Device) (q : Nat) (first : Bool) : Bytes :=
  leBytes 8 (d.timeAt islSWC) ++ leBytes 2 q ++ leBytes 1 (b2n d.tm.phase + 2 * b2n first) ++ [0]
  ++ leBytes 4 (d.queueDepth q) ++ leBytes 4 (d.queueOf q).length ++ leBytes 4 (min (d.headSojourn q) 0xFFFFFFFF)
  ++ leBytes 4 d.tm.round ++ zeros 4

/-- A record is written to the telemetry ring, or discarded when it has no room (R330); the alarm of R332.  While the PF issues
no DMA the record is not written and takes no place in the ring (R399, log entry 11). -/
def Device.writeSample (d : Device) (q : Nat) (first : Bool) : Device :=
  let alarm := d.get Obj.tmSojournAlarmNs
  let d :=
    if alarm ≠ 0 ∧ alarm < min (d.headSojourn q) 0xFFFFFFFF then (d.bump Obj.tmSojournAlarms).fire islSWC 706 q else d
  let n := d.get Obj.telemEntries
  let tail := d.get Obj.telemTail
  let next := (tail + 1) % n
  if !d.dmaOk 0 then d
  else if next = d.get Obj.telemHead then (d.bump Obj.ringDrops).fire islSWC 704 0
  else
    let d := (d.dmaWrite 0 (d.get Obj.telemBase + 32 * tail) (d.sampleRecord q first) false).tallyPlain islMGT 2 1
    let d := d.put Obj.telemTail next
    if next = 0 then { d with tm := { d.tm with phase := !d.tm.phase } } else d

/-- A round that starts: the first selected queue's record is taken, and the queues are walked as time passes (R328). -/
def Device.sampleRound (d : Device) : Device :=
  let qs := d.selectedQueues
  let d := d.bump Obj.sampleRounds
  let d : Device := { d with tm := { d.tm with roundLeft := qs, roundPart := 0 } }
  match qs with
  | [] => d.roundOver
  | q :: _ => d.writeSample q true

/-- The walk leaves a queue and takes the next one's record; after the last the round is over. -/
def Device.roundNext (d : Device) : Device :=
  let d : Device := { d with tm := { d.tm with roundLeft := d.tm.roundLeft.drop 1, roundPart := d.tm.roundPart - 16000 } }
  match d.tm.roundLeft with
  | [] => d.roundOver
  | q :: _ => d.writeSample q false

/-- `n` nanoseconds of a round pass: 256 queues in a microsecond with SWC at k = 16, and k/16 of that otherwise. -/
def Device.runRound (d : Device) (n : Nat) : Device :=
  if d.tm.roundLeft.isEmpty ∨ !d.dataRuns then d
  else
    let d : Device := { d with tm := { d.tm with roundPart := d.tm.roundPart + 256 * d.clockK islSWC * n } }
    (List.range (min d.tm.roundLeft.length (d.tm.roundPart / 16000))).foldl (fun d _ => d.roundNext) d

/-- A round start that falls: skipped while Barometer defers or a round runs (R328, R329). -/
def Device.roundStart (d : Device) : Device :=
  if 1 ≤ d.level then d.bump Obj.sampleDeferred
  else if !d.tm.roundLeft.isEmpty then (d.bump Obj.sampleOverruns).fire islSWC 705 0
  else d.sampleRound

/-- SAMPLE_ROUND_START (R328): a multiple of SAMPLE_INTERVAL_NS has been reached while TELEM_ENABLE is 1. -/
def execSampleRoundStart (s : State) : Host.Outcome State Fault Refusal :=
  let n := s.d.get Obj.sampleIntervalNs
  let t := s.d.timeAt islSWC
  if s.d.dataRuns ∧ s.d.get Obj.telemEnable = 1 ∧ s.d.tm.sampleAt / n < t / n then
    .next { s with d := Device.roundStart { s.d with tm := { s.d.tm with sampleAt := t } } }
  else .next s

/-- TELEM_ENABLE = 1: TAIL and HEAD 0, PHASE 1, the round number from 0 (R331, Table 11-8); 0 stops sampling. -/
def Device.telemSet (d : Device) (v : Nat) : Device :=
  let d := d.put Obj.telemEnable v
  if v = 1 then
    let d := (d.put Obj.telemTail 0).put Obj.telemHead 0
    { d with tm := { d.tm with phase := true, round := 0, roundLeft := [], roundPart := 0, sampleAt := d.timeAt islSWC } }
  else { d with tm := { d.tm with roundLeft := [], roundPart := 0 } }

/-- QMAX_CLEAR: the maxima of queues FIRST to LAST are zeroed (R327). -/
def Device.qmaxClear (d : Device) (first last : Nat) : Device :=
  let keep := fun (e : Nat × Byte) =>
    !(e.1 / 2 ^ 32 == Obj.domQueueStatus
      && decide (first ≤ e.1 % 2 ^ 32 / 32) && decide (e.1 % 2 ^ 32 / 32 ≤ last)
      && decide (8 ≤ e.1 % 32) && decide (e.1 % 32 < 16))
  { d with dict := { d.dict with mem := d.dict.mem.filter keep } }

/-- A queue's status entry (Table 11-7): the depth and copies as they are, the maxima and counts as kept. -/
def Device.queueStatusBytes (d : Device) (q : Nat) : Bytes :=
  beBytes 4 (d.queueDepth q) ++ beBytes 4 (d.queueOf q).length ++ d.memRead Obj.domQueueStatus (qsOff q + 8) 24

end Sys2Proof.Machine
end

