-- ==== Sys2Proof/Machine/Parser.lean ====
section
/-!
DEFINITION. The parser pipelines and the key builder (chapter 05): the merge, the graph walk of a frame and its outcome,
the pre-lookups, and the scrub of the graph store.
-/
namespace Sys2Proof.Machine

/-! ### The graph store -/

/-- The key of a node in a port group's storage copy. -/
def graphKey (pg : Nat) (copy : Bool) (node : Nat) : Nat := (pg * 2 + b2n copy) * 256 + node

/-- A node as a frame of a parity reads it, and whether its record is uncorrectable (R143). -/
def Device.graphNode (d : Device) (pg : Nat) (par : Bool) (n : Nat) : PNode × Bool :=
  let isl := islPG pg
  (PNode.ofBytes (d.cfgRead isl par Obj.domParseGraph (128 * n) 128),
   d.pkt.graphErr.contains (graphKey pg ((d.ptr isl).copy par 2) n))

/-- An uncorrectable node record is met (R143). -/
def Device.graphError (d : Device) (pg node : Nat) (par : Bool) : Device :=
  ((d.bump (Obj.pgGraphEccUncorrectable pg)).put (Obj.pgLastEccNode pg) node).fire (islPG pg) 196
    (b2n par * 2 ^ 8 + node)

/-! ### Choosing a frame (R133) -/

/-- The frames of a port group's recirculation queues. -/
def Device.recircWaits (d : Device) (pg : Nat) : Bool := !(d.node (132 + pg)).list.isEmpty

/-- A recirculated copy, its cells read, re-enters as a frame of its next pass: its bytes are those the editor left; its tenant,
parity, class, next order domain and metadata are kept (R32, R157).  It is neither an entry to the census nor a leave (R243). -/
def Device.recircFrame (d : Device) (pg i : Nat) : Device × Nat :=
  let c := d.copyRec i
  let f := d.frame c.frame
  let g : Frame := { bytes := d.outBytes c, port := 129, origin := f.origin, pg := pg, tenant := f.tenant, cls := c.cls,
                     parity := f.parity, entered := f.entered, pass := f.pass + 1, tag := f.tag, mword := f.mword,
                     nextOd := f.result.nextOd, since := d.now, decrypted := false }
  let r := ((d.detachCopy i).dropRecord 24 i).putFrame g
  (r.1.removeFrame c.frame, r.2)

/-- A pipeline reads a recirculated copy (R304, R306): its frame, or none where a cell is uncorrectable. -/
def Device.recircTake (d : Device) (pg i : Nat) (cell : EccOutcome) : Device × Option Nat :=
  match d.readCells i cell with
  | (d, true) => (d.cellError i, none)
  | (d, false) =>
    let r := (d.bump (Obj.pgRecircParsed pg)).recircFrame pg i
    (r.1, some r.2)

/-- An inject frame is stamped as it enters the merge, and enters the census (R136, R243). -/
def Device.injectFrame (d : Device) (pg i : Nat) : Device :=
  let par := (d.ptr (islPG pg)).parity
  let d := d.setPg pg { d.pgs pg with inject := (d.pgs pg).inject.drop 1 }
  (d.setFrame i { d.frame i with parity := par, entered := d.timeAt (islPG pg), stage := .merge }).censusIn (islPG pg) par

/-- The frame a free pipeline takes: an external one first; then the inject queue and the recirculation queue, which
alternate when both wait. -/
def Device.mergeTake (d : Device) (pg : Nat) (cell : EccOutcome) : Device × Option Nat :=
  let g := d.pgs pg
  match g.merge with
  | i :: rest => ((d.setPg pg { g with merge := rest }).bump (Obj.pgFramesParsed pg), some i)
  | [] =>
    match g.inject with
    | i :: _ =>
      if g.recircNext ∧ d.recircWaits pg then
        match (d.setPg pg { g with recircNext := false }).chooseCopy (132 + pg) with
        | (d, some j) => d.recircTake pg j cell
        | (d, none) => (d, none)
      else
        let d := (d.injectFrame pg i).bump (Obj.pgInjectParsed pg)
        (d.setPg pg { d.pgs pg with recircNext := true }, some i)
    | [] =>
      match d.chooseCopy (132 + pg) with
      | (d, some j) => d.recircTake pg j cell
      | (d, none) => (d, none)

/-! ### The walk and its outcome -/

/-- The counter of a parser reason. -/
def parseCounter (pg reason : Nat) : Nat :=
  match reason with
  | 1 => Obj.pgParseDepthCount pg
  | 2 => Obj.pgParseLengthCount pg
  | 3 => Obj.pgFragmentCount pg
  | 4 => Obj.pgParseUnknownCount pg
  | _ => Obj.pgOptionsCount pg

/-- A parse that ended in a trap (R148). -/
def Device.parseTrap (d : Device) (pg i reason node off : Nat) (ecc : Bool) : Device :=
  let f := d.frame i
  let prof := d.cfg (islPG pg) f.parity (Obj.tenParseProfile f.tenant)
  let d := if ecc then d.graphError pg node f.parity else d
  let drop := bit (d.cfg (islPG pg) f.parity (Obj.profTrapAction prof)) (reason - 1)
  let d := (d.bump (parseCounter pg reason)).fire (islPG pg) (192 + pg)
    (2 ^ (reason - 1) + (if drop then 32 else 0))
  if drop then (d.bump (Obj.pgParseDrops pg)).leave i
  else
    let f := { f with reason := reason, trapNode := node, trapOff := off, result := trapResult f reason,
                      viaEngine := false }
    (d.setFrame i f).handToSwitch i

/-- What the parser hands to the key builder at END: the summary, the key area, the key profile (R149, R151). -/
def parsedFrame (f : Frame) (profile payload : Nat) (w : Walk) (cycle : Nat) : Frame :=
  let kp := w.profile.getD profile
  { f with
    stage := .parser, walked := true, since := cycle, profile := kp, key := w.key
    summary := summaryWords (if f.port = 129 then 129 else if f.port = 128 then 128 else f.port) f.tenant f.cls f.pass
      f.parity (f.bytes.length + 4) (f.tag == .stag) kp w payload
    secEnd := match w.lastType with
      | .esp => 1
      | .sectag => 2
      | _ => 0
    secOff := w.sec % 512
    slots := List.replicate 4 {} }

/-- The graph walk over a frame. -/
def Device.walk (d : Device) (pg i : Nat) : Walk × ParseEnd :=
  let isl := islPG pg
  let f := d.frame i
  let prof := d.cfg isl f.parity (Obj.tenParseProfile f.tenant)
  let g := fun k => d.cfg isl f.parity k
  let lim : ParseLimits := ⟨g (Obj.profMaxDepth prof), g (Obj.profMaxHeaders prof), g (Obj.profMaxTunnel prof)⟩
  parseFrame (d.graphNode pg f.parity) lim f.bytes (g (if f.port = 129 then Obj.profRecircStart prof else Obj.profExtStart prof))

/-- The walk of a frame comes upon an error in a node's record, if it reads that record and finds no standing error there: a
correctable one is corrected in the read and in the store, whatever test the node then fails; an uncorrectable one stays in the
parity copy (R143). -/
def Device.graphUpset (d : Device) (pg i node : Nat) (found : EccOutcome) : Device :=
  let par := (d.frame i).parity
  let meets := (d.walk pg i).1.reads.contains node && !(d.graphNode pg par node).2
  match found with
  | .clean => d
  | .correctable => if meets then d.bump (Obj.pgGraphEccCorrected pg) else d
  | .uncorrectable =>
    let k := graphKey pg ((d.ptr (islPG pg)).copy par 2) node
    if meets then { d with pkt := { d.pkt with graphErr := k :: d.pkt.graphErr } } else d

/-- A pipeline walks the graph over a frame (R140 to R149); a node's record may be found in error. -/
def Device.parse (d : Device) (pg i node : Nat) (found : EccOutcome) : Device :=
  let isl := islPG pg
  let f := d.frame i
  let d := d.graphUpset pg i node found
  match d.walk pg i with
  | (_, .trap reason node off ecc) => d.parseTrap pg i reason node off ecc
  | (w, .done payload) =>
    let kp := d.cfg isl f.parity (Obj.profDefaultKeyProfile (d.cfg isl f.parity (Obj.tenParseProfile f.tenant)))
    let d := d.setFrame i (parsedFrame f kp payload w (d.cycleOf isl))
    d.setPg pg { d.pgs pg with parser := (d.pgs pg).parser ++ [i] }

/-- Whether a pipeline of a port group is free: each of the four holds a frame for each of its 64 cycles (R131, R134), and while
the key builder is held they fill and the merge waits (R37, R135). -/
def Device.pipelineFree (d : Device) (pg : Nat) : Bool := decide ((d.pgs pg).parser.length < 4 * 64)

/-- A pipeline takes a frame. -/
def Device.merge (d : Device) (pg : Nat) (cell : EccOutcome) (node : Nat) (found : EccOutcome) : Device :=
  match d.mergeTake pg cell with
  | (d, none) => d.tallyPlain (islPG pg) 1 1
  | (d, some i) =>
    let f := d.frame i
    let d := d.tally (islPG pg) 0 1 f.tenant
    let d := if f.port = 129 then d.tally (islPG pg) 2 1 f.tenant else d
    match d.sweep i with
    | some d => d
    | none => d.parse pg i node found

/-- INGRESS_MERGE (R131, R133): a free pipeline of a port group takes its next frame. -/
def execIngressMerge (take : Sys2Proof.MergeTake) (s : State) : Host.Outcome State Fault Refusal :=
  if s.d.dataRuns ∧ s.d.pipelineFree take.pg then
    .next { s with d := s.d.merge take.pg take.cell take.node take.found }
  else .next s

/-! ### The key builder (R134, R153 to R156) -/

/-- A frame's slot. -/
def Frame.slot (f : Frame) (n : Nat) : Slot := f.slots.getD n {}

/-- Set a frame's slot. -/
def Frame.setSlot (f : Frame) (n : Nat) (x : Slot) : Frame := { f with slots := f.slots.set n x }

/-- A pre-lookup is issued: its slot is outstanding (R155). -/
def Device.preLookup (d : Device) (pg i : Nat) (p : PreLookup) : Device :=
  let f := d.frame i
  let vrf := d.cfg (islPG pg) f.parity (Obj.tenVrf f.tenant)
  let req : LookupReq :=
    { kind := p.kind, table := p.table, key := slice f.key p.keyOff p.keyLen, vrf := vrf, tenant := f.tenant,
      parity := f.parity, frame := i, pass := f.pass, slot := p.slot }
  ((d.setFrame i (f.setSlot p.slot { pending := true })).askComplex pg req).tally (islPG pg) 3 1 f.tenant

/-- A frame's key profile. -/
def Device.keyProfile (d : Device) (pg : Nat) (f : Frame) : Bytes :=
  d.cfgRead (islPG pg) f.parity Obj.domKeyProfiles (128 * f.profile) 128

/-- A frame is given its built key, its pre-lookups are issued, and it waits at the dispatch input, after CRY when its
parse ended at an ESP or SECTAG node (R149, R257). -/
def Device.buildFrame (d : Device) (pg i : Nat) : Device :=
  let f := d.frame i
  let prof := d.keyProfile pg f
  let key := buildKey prof f.key (summaryBytes f.summary)
  let d := d.setFrame i { f with key := key, stage := if f.secEnd = 0 then .dispatchWait else .decrypt, since := d.now }
  let d : Device := if f.secEnd = 0 then d else { d with cry := { d.cry with inbound := d.cry.inbound ++ [i] } }
  let d := (preLookups prof).foldl (fun d p => d.preLookup pg i p) d
  let g := d.pgs pg
  d.setPg pg { g with parser := g.parser.erase i, keyq := g.keyq ++ [i] }

/-- Whether a parsed frame has spent its 64 cycles, the complex can take its pre-lookups (R134, R19, R171), and the release
buffer, of 4,096 frames, has room for it (R260). -/
def Device.parserReady (d : Device) (pg i : Nat) : Bool :=
  let f := d.frame i
  decide (f.since + 64 ≤ d.cycleOf (islPG pg)) && d.complexRoom pg (preLookups (d.keyProfile pg f)).length
  && decide ((d.pgs pg).keyq.length < 4096)

/-- PARSE_COMPLETE (R134): the oldest frame in the parser leaves it for the key builder. -/
def execParseComplete (pg : Fin 4) (s : State) : Host.Outcome State Fault Refusal :=
  match (s.d.pgs pg).parser with
  | [] => .next s
  | i :: _ =>
    if !s.d.dataRuns ∨ !s.d.parserReady pg i then .next s
    else match s.d.sweep i with
      | some d => .next { s with d := d }
      | none => .next { s with d := s.d.buildFrame pg i }

/-! ### Scrubbing the graph store -/

/-- The scrub of a node's record meets an error or none (R143).  Event 196 names a parity; where the storage copy serves both
parities or neither, the spec does not say which, and its bit is 0 (DESIGN CHOICE, log entry 29). -/
def Device.graphScrub (d : Device) (pg : Nat) (copy : Bool) (node : Nat) (found : EccOutcome) : Device :=
  match found with
  | .clean => d
  | .correctable => d.bump (Obj.pgGraphEccCorrected pg)
  | .uncorrectable =>
    let k := graphKey pg copy node
    let d : Device := { d with pkt := { d.pkt with graphErr := if d.pkt.graphErr.contains k then d.pkt.graphErr
                                                               else k :: d.pkt.graphErr } }
    let par := ((d.ptr (islPG pg)).copy true 2 == copy) && !((d.ptr (islPG pg)).copy false 2 == copy)
    d.graphError pg node par

/-- GRAPH_SCRUB (R143). -/
def execGraphScrub (pg : Fin 4) (copy : Bool) (node : Fin 256) (found : EccOutcome) (s : State) :
    Host.Outcome State Fault Refusal :=
  .next { s with d := s.d.graphScrub pg copy node found }

end Sys2Proof.Machine
end

