-- ==== Sys2Proof/Machine/Engine.lean ====
section
/-!
DEFINITION. A packet engine's issue of one microword (chapter 07): the waits of R197, the units of the nanoword, the
sequencing modes, yields, ends, the watchdog, and precise sampling (R374, R375).
-/
namespace Sys2Proof.Machine

/-! ### Reading a thread -/

/-- PLEN: FRAME_LENGTH − E_in + E_out. -/
def Thread.plen (t : Thread) (f : Frame) : Nat := f.bytes.length + 4 + t.window.eOut - t.window.eIn

/-- The value of an operand (Table 7-3). -/
def Thread.read (t : Thread) (f : Frame) (imm op : Nat) : Nat :=
  if op < 16 then t.g.getD op 0
  else if op < 24 then t.m.getD (op - 16) 0
  else if op < 28 then (f.slot (op - 24)).word
  else match op with
    | 28 => t.cursor
    | 29 => imm
    | 31 => t.plen f
    | _ => 0

/-- A write to CURSOR: the low 9 bits, at most 256 (R204). -/
def cursorOf (v : Nat) : Nat := min (v % 512) 256

/-- A write to an operand; those that are read only discard it (R204). -/
def Thread.write (t : Thread) (op v : Nat) : Thread :=
  if op < 16 then { t with g := t.g.set op v }
  else if op < 24 then { t with m := t.m.set (op - 16) v }
  else if op = 28 then { t with cursor := cursorOf v }
  else t

/-- Four bits as a number. -/
def nibble (a b c d : Bool) : Nat := b2n a + 2 * b2n b + 4 * b2n c + 8 * b2n d

/-- A bit of each slot. -/
def Frame.slotBits (f : Frame) (p : Slot → Bool) : Nat := nibble (p (f.slot 0)) (p (f.slot 1)) (p (f.slot 2)) (p (f.slot 3))

/-- The OUTCOME of a returned result: 0 MISS, 1 HIT, 2 ERROR, 3 DENIED (Table 6-2); a slot never named reads 0. -/
def Slot.outcome (x : Slot) : Nat := if x.pending then 0 else bits x.status 31 30

/-- A condition group (Table 7-4). -/
def condGroup (t : Thread) (f : Frame) (group : Nat) : Nat :=
  let w0 := f.summary.getD 0 0
  let w1 := f.summary.getD 1 0
  match group with
  | 0 => t.flagsA
  | 1 => t.flagsB
  | 2 => f.slotBits (fun x => !x.pending)
  | 3 => f.slotBits (fun x => x.outcome == 1)
  | 4 => f.slotBits (fun x => decide (2 ≤ x.outcome))
  | 5 => nibble (f.decrypted && f.verdict.isNone) t.verified f.decrypted t.hwFault
  | 6 => nibble (!t.poolPending) (t.poolOut == 1) (t.poolOut == 2) (t.poolOut == 3)
  | 7 => nibble (bit w1 0) (bit w1 1) (bit w1 4) (bit w1 3)
  | 8 => nibble (bit w1 7) (bit w1 6) (bit w1 5) (bit w0 37)
  | 9 => (bits w0 40 38 + 3) % 4 + 4 * b2n (f.port == 129) + 8 * b2n (f.port == 128)
  | 10 => bits t.user 3 0
  | 11 => bits t.user 7 4
  | 12 => bits t.user 11 8
  | 13 => bits t.user 15 12
  | 14 => nibble (t.tenant == 0) t.callRet.isSome false false
  | _ => 1

/-! ### The instruction a thread is at -/

/-- A microword with its nanoword. -/
structure Word2 where
  mw : Nat
  nw : Nat
  deriving DecidableEq, Repr

/-- The words at an address of an image. -/
def Image.fetch (x : Image) (pc : Nat) : Word2 := ⟨x.micro.getD pc 0, x.nano.getD (mwNano (x.micro.getD pc 0)) 0⟩

/-- Whether a fetch meets an uncorrectable error in the microstore or the nanostore (R230). -/
def Cluster.fetchError (c : Cluster) (pc : Nat) : Bool :=
  c.storeErrors.contains pc || c.storeErrors.contains (16384 + mwNano (c.image.micro.getD pc 0))

/-- The sequencing mode. -/
def Word2.seq (w : Word2) : Seq := Seq.ofCode (mwSeq w.mw)
/-- Whether ALU A acts. -/
def Word2.enA (w : Word2) : Bool := bit (nwAluA w.nw) 31
/-- Whether ALU B acts. -/
def Word2.enB (w : Word2) : Bool := bit (nwAluB w.nw) 31
/-- The window operation. -/
def Word2.winOp (w : Word2) : Nat := bits (nwWindow w.nw) 47 45
/-- Whether the window unit takes its length from SRCB. -/
def Word2.lenReg (w : Word2) : Bool := w.winOp != 0 && bit (nwWindow w.nw) 35
/-- Whether a lookup is issued. -/
def Word2.lookup (w : Word2) : Bool := bit (nwLookup w.nw) 31
/-- The slot of the lookup. -/
def Word2.lookupSlot (w : Word2) : Nat := bits (nwLookup w.nw) 28 27
/-- Whether the lookup takes its VRF from SRCB. -/
def Word2.vrfReg (w : Word2) : Bool := w.lookup && bits (nwLookup w.nw) 30 29 == 2 && bit (nwLookup w.nw) 20
/-- Whether the action group uses its result word. -/
def Word2.usesResultWord (w : Word2) : Bool := bits (nwAction w.nw) 26 23 != 0
/-- The pool operation. -/
def Word2.poolOp (w : Word2) : Nat := bits (nwSide w.nw) 23 21
/-- Whether the side group uses its side word. -/
def Word2.usesSideWord (w : Word2) : Bool := bits (nwSide w.nw) 26 24 != 0 || w.poolOp != 0
/-- Whether the microword is a verify yield. -/
def Word2.verifyYield (w : Word2) : Bool := w.seq == .yield && bit (nwSide w.nw) 20

/-- Whether the microword ends the thread: END, or a RETURN with no call outstanding (R208). -/
def Word2.ends (w : Word2) (t : Thread) : Bool :=
  w.seq == .stop || (w.seq == .call && mwTarget w.mw == 0x3FFF && t.callRet.isNone)

/-- The registers of a key taken from general registers (R211). -/
def keyRegs (lk : Nat) : List Nat := (List.range (ceilDiv (bits lk 9 3) 8)).map (fun i => bits lk 13 10 + i)

/-- The operands that the units that act read (R197, R210). -/
def Word2.reads (w : Word2) : List Nat :=
  (if w.enA then [mwSrcA w.mw, mwSrcB w.mw] else [])
  ++ (if w.enB then [bits (nwAluB w.nw) 4 0] else [])
  ++ (if w.lenReg || w.vrfReg then [mwSrcB w.mw] else [])
  ++ (if w.winOp = 2 then [bits (nwWindow w.nw) 28 24] else [])
  ++ (if w.usesResultWord then [bits (nwAction w.nw) 31 27] else [])
  ++ (if w.usesSideWord then [bits (nwSide w.nw) 31 27] else [])
  ++ (if w.lookup ∧ bits (nwLookup w.nw) 18 17 = 2 then (keyRegs (nwLookup w.nw)).filter (fun r => decide (r < 16)) else [])
  ++ (if w.poolOp ≠ 0 then [14] else [])

/-- How many slots' condition bits a WAY mode uses. -/
def Seq.wayBits (s : Seq) : Nat :=
  match s with
  | .way2 => 1 | .way4 => 2 | .way16 => 4 | _ => 0

/-- Why a thread waits with its next microword: the bank code of the wait (Table 13-5), or none (R197).  A lookup
that its complex cannot take waits too (R171). -/
def Device.waits (d : Device) (t : Thread) (f : Frame) (w : Word2) : Option Nat :=
  let out := fun s => (f.slot s).pending
  let rdstat := fun g en => en && bits g 30 26 == 0x14 && out (bits g 21 20)
  let lookup :=
    w.reads.any (fun r => decide (24 ≤ r) && decide (r < 28) && out (r - 24))
    || rdstat (nwAluA w.nw) w.enA || rdstat (nwAluB w.nw) w.enB
    || ((mwCsel w.mw == 3 || mwCsel w.mw == 4) && (List.range w.seq.wayBits).any out)
    || (w.lookup && (out w.lookupSlot || !d.complexRoom f.pg 1))
  if lookup then some 2
  else if t.poolPending ∧ (w.reads.contains 15 ∨ w.poolOp ≠ 0) then some 3
  else if f.decrypted ∧ f.verdict = none ∧ (w.verifyYield ∨ w.ends t) then some 4
  else if (w.seq = .yield ∨ w.ends t) ∧ !t.sides.isEmpty then some 5
  else none

/-! ### Ending a thread (R203, R218, R221, R230, R244, R261) -/

/-- What ended a thread (END_CAUSE of Table 13-8). -/
inductive EndCause where
  | finish | stop | watchdog | verifyFail | storeEcc | flush
  deriving DecidableEq, Repr

/-- The code of a cause. -/
def EndCause.code (c : EndCause) : Nat :=
  match c with
  | .finish => 0 | .stop => 1 | .watchdog => 2 | .verifyFail => 3 | .storeEcc => 4 | .flush => 5

/-- A cluster's sampler. -/
def Device.sampler (d : Device) (c : Nat) : Sampler := d.ev.samplers.getD (fun _ => {}) c

/-- Set a cluster's sampler. -/
def Device.setSampler (d : Device) (c : Nat) (x : Sampler) : Device :=
  { d with ev := { d.ev with samplers := d.ev.samplers.set (fun _ => {}) c x } }

/-- The cycles an engine has run. -/
def Device.engCycle (d : Device) (c e : Nat) : Nat := d.eng.cycle.getD (fun _ => 0) (c * 64 + e)

/-- A sample record, its PHASE zero until it is drained (Table 13-8). -/
def sampleRecordOf (k cycle : Nat) (t : Thread) (f : Frame) (cause : EndCause) (s : Nat × Nat × Nat) : Bytes :=
  leBytes 8 s.1 ++ leBytes 2 s.2.1 ++ leBytes 1 (k / 16 % 64) ++ leBytes 1 (k % 16 + 16 * (k / 1024)) ++ leBytes 2 s.2.2
  ++ leBytes 2 f.domain ++ leBytes 2 f.seq ++ leBytes 1 cause.code ++ leBytes 1 f.pass
  ++ leBytes 4 (min (cycle - t.start) 0xFFFFFFFF) ++ leBytes 4 t.issued ++ leBytes 4 (min t.waited 0xFFFFFFFF)

/-- A pending sample is completed as its thread becomes ENDING (R375). -/
def Device.completeSample (d : Device) (k : Nat) (t : Thread) (cause : EndCause) : Device :=
  match t.sample with
  | none => d
  | some s =>
    let c := k / 1024
    let x := d.sampler c
    d.setSampler c { x with
      buffer := x.buffer ++ [sampleRecordOf k (d.engCycle c (k / 16 % 64)) t (d.frame t.frame) cause s] }

/-- A thread becomes ENDING with a result (Table 7-16). -/
def Device.endThread (d : Device) (k : Nat) (t : Thread) (cause : EndCause) (r : Result) : Device :=
  let f := d.frame t.frame
  let d := d.completeSample k t cause
  d.setThread k { t with
    state := .ending, sample := none
    result := { r with tenant := t.tenant, parity := f.parity, domain := f.domain, seq := f.seq,
                       eIn := t.window.eIn, eOut := t.window.eOut, head := (fit 256 t.window.bytes).take t.window.eOut } }

/-- A trap the device makes: its reason is the frame's (Table 1-11). -/
def Device.deviceTrap (d : Device) (t : Thread) (reason : Nat) : Device :=
  d.setFrame t.frame { d.frame t.frame with reason := reason }

/-- The result that carries a device trap. -/
def trapped (r : Result) (reason : Nat) : Result := { r with disp := .trap, mcast := false, reason := reason }

/-- A thread ends with an ENGINE_TORN trap that carries the address not issued (R221, R230), whatever it had recorded. -/
def Device.tear (d : Device) (k : Nat) (t : Thread) (cause : EndCause) : Device :=
  let d := d.deviceTrap t 0x08
  let r := { trapped t.result 0x08 with torn := true, stopAddr := t.pc }
  d.endThread k t cause r

/-- The watchdog kills a thread about to issue at a yield count of 512 (R221). -/
def Device.overrun (d : Device) (k : Nat) (t : Thread) : Device :=
  let c := k / 1024
  let d := ((d.bump (Obj.clYieldOverruns c)).put (Obj.clLastTornAddress c) t.pc).fireOf c (256 + 16 * c) c t.pc 0
  d.tear k t .watchdog

/-- A hard Frost of a cluster: admission stops and its flush starts (R101, R230, R232), however many functions are FROSTING (DESIGN
CHOICE, log entry 56). -/
def Device.hardFrostCluster (d : Device) (c : Nat) : Device :=
  d.setFrost 3 c { state := 1, asked := d.now, deadline := none, flushing := true }

/-- A fetch meets an uncorrectable error (R230). -/
def Device.storeError (d : Device) (k : Nat) (t : Thread) : Device :=
  let c := k / 1024
  let d := (d.bump (Obj.clStoreEccUncorrectable c)).fireOf c (256 + 16 * c + 1) c t.pc 0
  let d := d.tear k t .storeEcc
  let d := d.setFrame t.frame { d.frame t.frame with cause := trapSTORE }
  let d := if d.frostState 3 c ≤ 1 then d.hardFrostCluster c else d
  let d := if d.get (Obj.clAutoReload c) = 1 then d.setCluster c { d.cluster c with autoPending := true } else d
  d.recheck

/-- Whether a Frost flush stops a thread of a tenant in a cluster (R218, Table 3-10). -/
def Device.flushStops (d : Device) (c tenant : Nat) : Bool := d.flushedTenant tenant || (d.frostFn 3 c).flushing

/-- A thread at a yield or its END meets the stop requests of R218 and R244: what ended it, or none.  A frame that R85 has given
up, or whose result was already formed as DROP at END, stays counted under that cause; a DROP that a program has only recorded
at a yield is not yet a drop. -/
def Device.takeStop (d : Device) (k : Nat) (t : Thread) (atEnd : Bool) : Option Device :=
  let c := k / 1024
  let f := d.frame t.frame
  let stop := fun (d : Device) => d.tallyAt c 11 1 t.tenant true (k / 16 % 64)
  let counted := f.denied || (atEnd && t.result.disp == .drop)
  if d.flushStops c t.tenant then
    let d := if counted then d else (d.frostDrop t.tenant).setFrame t.frame { f with cause := dropFLUSH }
    some ((stop d).endThread k t .flush { t.result with disp := .drop })
  else if d.expires f.parity then
    if counted then some ((stop d).endThread k t .stop t.result)
    else some (((stop d).setFrame t.frame { f with cause := dropEXPIRED }).endThread k t .stop t.result)
  else none

/-- An inline authentication failure is met (R261): a trap 0x09, which a stop request in hand replaces by DROP (R218), or a
drop. -/
def Device.verifyFailed (d : Device) (k : Nat) (t : Thread) : Device :=
  let f := d.frame t.frame
  let s := f.sa.getD 0
  let trap := bit (beNat (d.cfgRead islCRY f.parity Obj.domSaTable (32 * s) 8)) 19
  let d := d.bump Obj.resultVerifyFail
  if trap then
    let d := d.deviceTrap t 0x09
    let t := { t with result := trapped t.result 0x09 }
    match d.takeStop k t true with
    | some d => d
    | none => d.endThread k t .verifyFail t.result
  else (d.setFrame t.frame { d.frame t.frame with cause := dropVERIFY }).endThread k t .verifyFail
    { t.result with disp := .drop }

/-- A thread ends at END: after the verdict, a stop request replaces its result by DROP (R218, R261). -/
def Device.finish (d : Device) (k : Nat) (t : Thread) : Device :=
  let d := d.tallyAt (k / 1024) 7 1 t.tenant true (k / 16 % 64)
  if (d.frame t.frame).decrypted ∧ (d.frame t.frame).verdict = some false then d.verifyFailed k t
  else match d.takeStop k t true with
    | some d => d
    | none => d.endThread k t .finish t.result

/-! ### The units (R205 to R216) -/

/-- One ALU: its value to its destination, its flags and its user bits (R209). -/
def Thread.alu (t : Thread) (isA : Bool) (g dst a b stat : Nat) : Thread :=
  let op := bits g 30 26
  let v := aluValue op (bits g 25 20) (bits g 19 14) a b stat
  let t := if aluWrites op then t.write dst v else t
  let t := if bit g 13 then
      (if isA then { t with flagsA := aluFlags op a b v } else { t with flagsB := aluFlags op a b v })
    else t
  if bit g 12 then
    let p := 4 * bits g 11 10
    { t with user := t.user - (bits t.user (p + 3) p) * 2 ^ p + (v % 16) * 2 ^ p }
  else t

/-- The window unit at an offset with a length: the thread, and whether the operation failed (R205, R206).  `reg` is the
operand of EXTRACT and OVERWRITE, `v` what OVERWRITE writes.  EXTRACT updates the extent as R205 states (Table 7-22
shows it otherwise at 0x0230; DEDUCED, log entry 24). -/
def Thread.windowAt (t : Thread) (op q n reg v : Nat) : Thread × Bool :=
  let w := t.window
  let bad := decide (256 < n) || ((op == 1 || op == 2) && decide (8 < n)) || w.fails q (if op = 3 then 0 else n) (if op = 3 then n else 0)
  if n = 0 then (t, false)
  else if bad then
    ({ (if op = 1 then t.write reg 0 else t) with hwFault := true }, true)
  else
    let t := { t with hwFault := false }
    match op with
    | 1 => ({ t with window := w.reach q n }.write reg (beNat (slice w.padded q n)), false)
    | 2 => ({ t with window := w.overwrite q (beBytes n v) }, false)
    | 3 => ({ t with window := w.insert q n }, false)
    | _ => ({ t with window := w.delete q n }, false)

/-- The window unit of a microword, with the values the thread held at issue.  SETCUR lands after an ALU's write of CURSOR in the same
microword, for which R210 gives no order (DESIGN CHOICE, log entry 24). -/
def Thread.windowUnit (t : Thread) (t0 : Thread) (f : Frame) (imm : Nat) (w : Word2) : Thread × Bool :=
  let g := nwWindow w.nw
  let q := bits g 43 36 + (if bit g 44 then t0.cursor else 0)
  let n := if bit g 35 then t0.read f imm (mwSrcB w.mw) % 512 else bits g 34 29 + 1
  let reg := bits g 28 24
  match w.winOp with
  | 0 => (t, false)
  | 5 => ({ t with cursor := cursorOf q }, false)
  | op => t.windowAt op q n reg (t0.read f imm reg)

/-- The key of an engine lookup (R211). -/
def lookupKey (t : Thread) (f : Frame) (lk : Nat) : Bytes :=
  let o := bits lk 16 10
  let n := bits lk 9 3
  match bits lk 18 17 with
  | 0 => slice (f.key.take 80) o n
  | 1 => slice ((fit 256 t.window.bytes).take t.window.len) (t.cursor + o) n
  | _ => slice ((t.g.drop (o % 16)).flatMap (beBytes 8)) 0 n

/-- A lookup is issued: its slot is outstanding (R211). -/
def Device.issueLookup (d : Device) (k : Nat) (t : Thread) (imm : Nat) (w : Word2) : Device :=
  let c := k / 1024
  let lk := nwLookup w.nw
  let f := d.frame t.frame
  let kind := bits lk 30 29
  let own := d.cfg c f.parity (Obj.tenVrf t.tenant)
  let vrf := if w.vrfReg then t.read f imm (mwSrcB w.mw) % 4096 else own
  let req : LookupReq :=
    { kind := kind, table := if kind = 2 then bits lk 26 19 % 2 else bits lk 26 19, key := lookupKey t f lk, vrf := vrf,
      vrfOk := t.tenant == 0 || vrf == own, tenant := t.tenant, parity := f.parity, frame := t.frame, pass := f.pass,
      slot := w.lookupSlot }
  ((d.setFrame t.frame (f.setSlot w.lookupSlot { pending := true })).askComplex f.pg req).tallyAt c 9 1
    t.tenant true (k / 16 % 64)

/-- CNT_EN (R214): the counter check of Table 3-3, then the side effect. -/
def Device.sideCount (d : Device) (k : Nat) (t0 : Thread) (sides : List SideEffect) (word plen : Nat) :
    Device × List SideEffect :=
  let f := d.frame t0.frame
  let n := bits word 15 0
  let page := d.cfg (k / 1024) f.parity (Obj.tenCounterPage t0.tenant)
  if t0.tenant ≠ 0 ∧ (page = 0xFFFF ∨ 256 ≤ n ∨ d.frostState 1 t0.tenant = 3) then (d.failScope t0.frame t0.tenant, sides)
  else (d, sides ++ [.count t0.tenant n plen f.parity])

/-- METER_EN (R214): the meter check, then the record. -/
def Device.sideMeter (d : Device) (k : Nat) (t0 : Thread) (r : Result) (word : Nat) : Device × Result :=
  let f := d.frame t0.frame
  let c := k / 1024
  let j := bits word 30 16
  if t0.tenant ≠ 0 ∧ d.cfg c f.parity (Obj.tenMeterCount t0.tenant) ≤ j then (d.failScope t0.frame t0.tenant, r)
  else (d, { r with meter := some ((d.cfg c f.parity (Obj.tenMeterBase t0.tenant) + j) % 32768) })

/-- The key check of Table 3-3 on an SA for a frame: in the tenant's key scope, and KEY_USE in target 1; a denial is
recorded (R92). -/
def Device.keyScope (d : Device) (isl : Nat) (par : Bool) (t s : Nat) : Device × Bool :=
  let base := d.cfg isl par (Obj.tenKeyBase t)
  if t ≠ 0 ∧ !(decide (base ≤ s) && decide (s < base + d.cfg isl par (Obj.tenKeyCount t))) then (d, false)
  else if d.mayFrame islCRY par 1 t s rKEYUSE then (d, true)
  else (d.deny 1 t s, false)

/-- ENCRYPT (R214): the crypto check, then the record. -/
def Device.sideEncrypt (d : Device) (k : Nat) (t0 : Thread) (r : Result) (word : Nat) : Device × Result :=
  let s := bits word 47 32
  match d.keyScope (k / 1024) (d.frame t0.frame).parity t0.tenant s with
  | (d, true) => (d, { r with sa := some s })
  | (d, false) => (d.failScope t0.frame t0.tenant, r)

/-- A pool operation (R215), refused before a verify yield has passed (R220). -/
def Device.sidePool (d : Device) (k : Nat) (t0 t : Thread) (op word : Nat) : Device × Thread :=
  let f := d.frame t0.frame
  let c := k / 1024
  let arg := if op = 1 then t0.g.getD 14 0 % 256 else t0.g.getD 14 0 % 2 ^ 21
  if f.decrypted ∧ !t.verified then
    ((d.bump (Obj.clVerifyViolations c)).fireOf c (256 + 16 * c + 4) c t0.pc 0, { t.write 15 0 with poolOut := 3 })
  else
    (d, { t with poolPending := true, sides := t.sides ++ [.pool op (bits word 52 48) arg t0.tenant t0.frame f.parity] })

/-- The side-effect group (Table 7-14), with the values the thread and its frame `f` held at issue. -/
def Device.sideUnit (d : Device) (k : Nat) (f : Frame) (t0 t : Thread) (imm : Nat) (w : Word2) : Device × Thread :=
  let g := nwSide w.nw
  let word := t0.read f imm (bits g 31 27)
  let r1 := if bit g 26 then d.sideCount k t0 t.sides word (t0.plen f) else (d, t.sides)
  let t := { t with sides := r1.2 }
  let r2 := if bit g 25 then r1.1.sideMeter k t0 t.result word else (r1.1, t.result)
  let r3 := if bit g 24 then r2.1.sideEncrypt k t0 r2.2 word else r2
  let t := { t with result := r3.2 }
  if w.poolOp = 0 then (r3.1, t) else r3.1.sidePool k t0 t w.poolOp word

/-- The disposition and fields that the action group records (R212, R224, Table 7-13). -/
def Result.act (r : Result) (g word : Nat) : Result :=
  let r := if bit g 26 then
      { r with disp := .forward, port := bits word 7 0, queue := bits word 23 8, mcast := bit word 38, group := bits word 37 24 }
    else r
  let r := if bit g 25 then { r with colour := min (bits word 40 39) 2 } else r
  let r := if bit g 24 then { r with cls := bits word 43 41 } else r
  let r := if bit g 23 then { r with nextOd := some (bits word 63 48) } else r
  let r := if bits g 10 9 ≠ 0 then { r with sthOp := bits g 10 9 } else r
  if bit g 21 then { r with disp := .drop }
  else if bit g 20 then { r with disp := .trap, reason := trapReason (bits g 19 12) }
  else if bit g 22 then { r with disp := .recirc }
  else r

/-- The action group (Table 7-12); TENANT_EN acts while the tenant ID is 0, else it is counted (R80, R213). -/
def Device.actionUnit (d : Device) (f : Frame) (t0 t : Thread) (imm : Nat) (w : Word2) : Device × Thread :=
  let g := nwAction w.nw
  let t := { t with result := t.result.act g (t0.read f imm (bits g 31 27)) }
  if bit g 11 then
    if t0.tenant = 0 then (d, { t with tenant := imm % 4096 }) else (d.isolation t0.tenant, t)
  else (d, t)

/-- Every unit of a microword acts with the values the thread held at issue (R210). -/
def Device.units (d : Device) (k : Nat) (t0 : Thread) (w : Word2) : Device × Thread :=
  let f := d.frame t0.frame
  let imm := nwImm w.nw
  let stat := fun g => (f.slot (bits g 21 20)).status
  let ga := nwAluA w.nw
  let gb := nwAluB w.nw
  let t := if w.enA then t0.alu true ga (mwDst w.mw) (t0.read f imm (mwSrcA w.mw)) (t0.read f imm (mwSrcB w.mw)) (stat ga)
           else t0
  let t := if w.enB then t.alu false gb (bits gb 9 5) (t0.read f imm (bits gb 4 0)) imm (stat gb) else t
  let r := t.windowUnit t0 f imm w
  let d := if r.2 then d.tallyAt (k / 1024) 10 1 t0.tenant true (k / 16 % 64) else d
  let d := if w.lookup then d.issueLookup k t0 imm w else d
  let s := d.sideUnit k f t0 r.1 imm w
  s.1.actionUnit f t0 s.2 imm w

/-! ### Sequencing (R207, R208, R217, R219) -/

/-- A misuse of CALL or RETURN (R208). -/
def Device.sequenceFault (d : Device) (k pc : Nat) : Device :=
  let c := k / 1024
  (d.bump (Obj.clSequenceFaults c)).fireOf c (256 + 16 * c + 3) c pc 0

/-- PC + 1 (R207). -/
def nextPc (pc : Nat) : Nat := (pc + 1) % 16384

/-- A yield's commit point: the yield count restarts, and a stop request is taken (R217, R218). -/
def Device.yieldPoint (d : Device) (k : Nat) (t : Thread) : Device :=
  let d := d.tallyAt (k / 1024) 8 1 t.tenant true (k / 16 % 64)
  let t := { t with yieldCount := 0, pc := nextPc t.pc }
  match d.takeStop k t false with
  | some d => d
  | none => d.setThread k t

/-- The next address, or the end of the thread (Table 7-6); `t0` and `f` are the thread and its frame at issue, whose
condition bits a WAY mode reads. -/
def Device.sequence (d : Device) (k : Nat) (f : Frame) (t0 t : Thread) (w : Word2) : Device :=
  let target := mwTarget w.mw
  let cond := condGroup t0 f (mwCsel w.mw)
  match w.seq with
  | .next => d.setThread k { t with pc := nextPc t.pc }
  | .jump => d.setThread k { t with pc := target }
  | .way2 => d.setThread k { t with pc := target ||| cond % 2 }
  | .way4 => d.setThread k { t with pc := target ||| cond % 4 }
  | .way16 => d.setThread k { t with pc := target ||| cond % 16 }
  | .yield => d.yieldPoint k t
  | .call =>
    if target = 0x3FFF then
      match t.callRet with
      | some a => d.setThread k { t with pc := a, callRet := none }
      | none => (d.sequenceFault k t.pc).finish k t
    else
      let d := if t.callRet.isSome then d.sequenceFault k t.pc else d
      d.setThread k { t with pc := target, callRet := some (nextPc t.pc) }
  | .stop => d.finish k t

/-! ### Issue (R196, R374) -/

/-- One step of the sampling LFSR. -/
def lfsrStep (x : Nat) : Nat :=
  let b := (x ^^^ (x >>> 2) ^^^ (x >>> 3) ^^^ (x >>> 5)) % 2
  (x >>> 1) ||| (b <<< 15)

/-- The samples pending in a cluster's threads. -/
def Device.pendingSamples (d : Device) (c : Nat) : Nat :=
  (d.eng.threads.filter (fun e => e.1 / 1024 == c && e.2.sample.isSome)).length

/-- The sampler at the issue of a microword: the thread with its sample, if it takes one (R374, R375). -/
def Device.sampleIssue (d : Device) (k : Nat) (t : Thread) : Device × Thread :=
  let c := k / 1024
  if d.get (Obj.smpSampleEnable c) ≠ 1 then (d, t)
  else
    let x := d.sampler c
    let interval := d.get (Obj.smpSamplePeriod c) + x.lfsr % 2 ^ d.get (Obj.smpSampleJitter c)
    let want := d.get (Obj.smpSampleTenant c)
    if x.count < interval ∨ t.sample.isSome ∨ (want ≠ 0xFFFF ∧ want ≠ t.tenant) then
      (d.setSampler c { x with count := x.count + 1 }, t)
    else if 4096 ≤ x.buffer.length + d.pendingSamples c then
      ((d.bump (Obj.smpSamplesLost c)).setSampler c { x with count := 0 }, t)
    else
      ((d.bump (Obj.smpSamplesTaken c)).setSampler c { x with count := 0, lfsr := lfsrStep x.lfsr },
       { t with sample := some (d.timeAt c, t.pc, t.tenant) })

/-- A thread issues its microword.  VERIFIED is set once its units have acted, so that a pool operation of the verify yield's own
microword is still refused (DESIGN CHOICE, log entry 24). -/
def Device.issue (d : Device) (k : Nat) (t : Thread) (w : Word2) : Device :=
  let c := k / 1024
  let e := k / 16 % 64
  let r := d.sampleIssue k t
  let d := ((r.1.bump (Obj.clMicrowords c)).spend c 4 t.tenant 1).tallyAt c 0 1 t.tenant true e
  let t0 := { r.2 with yieldCount := t.yieldCount + 1, issued := t.issued + 1, nextIssue := d.engCycle c e + 4 }
  let f := d.frame t.frame
  if w.verifyYield ∧ f.decrypted ∧ f.verdict = some false then d.verifyFailed k t0
  else
    let u := d.units k t0 w
    let t1 := if w.verifyYield ∧ f.decrypted then { u.2 with verified := true } else u.2
    u.1.sequence k f t0 t1 w

/-- The thread an engine would take: READY, past its three cycles, and not waiting. -/
def Device.mayIssue (d : Device) (c e n : Nat) : Bool :=
  match d.thread? (threadKey c e n) with
  | some t =>
    t.state == .ready && decide (t.nextIssue ≤ d.engCycle c e)
    && ((d.cluster c).fetchError t.pc || (d.waits t (d.frame t.frame) ((d.cluster c).image.fetch t.pc)).isNone)
  | none => false

/-- A thread that waits in an engine cycle: its wait is counted. -/
def Device.countWait (d : Device) (c e n : Nat) : Device :=
  let k := threadKey c e n
  match d.thread? k with
  | some t =>
    if t.state = .ready ∧ t.nextIssue ≤ d.engCycle c e ∧ !(d.cluster c).fetchError t.pc then
      match d.waits t (d.frame t.frame) ((d.cluster c).image.fetch t.pc) with
      | some code => (d.setThread k { t with waited := t.waited + 1 }).tallyAt c code 1 t.tenant true e
      | none => d
    else d
  | none => d

/-- The sixteen threads in rotating order after one. -/
def rotation16 (last : Nat) : List Nat := (List.range 16).map (fun i => (last + 1 + i) % 16)

/-- One engine cycle (R196): the first thread in rotating order that may issue does; its error in the stores or its yield
count may end it instead.  `fetch` is what its fetch meets: a correctable error is corrected there and in the store (R230). -/
def Device.engineCycle (d : Device) (c e : Nat) (fetch : EccOutcome) : Device :=
  let i := c * 64 + e
  let d : Device := { d with eng := { d.eng with cycle := d.eng.cycle.set (fun _ => 0) i (d.engCycle c e + 1) } }
  let last := d.eng.last.getD (fun _ => 15) i
  let pick := (rotation16 last).find? (fun n => d.mayIssue c e n)
  let d := (List.range 16).foldl (fun d n => d.countWait c e n) d
  match pick with
  | none => d.tallyAt c 1 1 0 false e
  | some n =>
    let k := threadKey c e n
    match d.thread? k with
    | none => d
    | some t =>
      let d : Device := { d with eng := { d.eng with last := d.eng.last.set (fun _ => 15) i n } }
      let d := if fetch = .correctable then d.bump (Obj.clStoreEccCorrected c) else d
      if (d.cluster c).fetchError t.pc ∨ fetch = .uncorrectable then (d.tallyAt c 1 1 0 false e).storeError k t
      else if 512 ≤ t.yieldCount then (d.tallyAt c 1 1 0 false e).overrun k t
      else d.issue k t ((d.cluster c).image.fetch t.pc)

/-- MICROWORD_ISSUE (R196): one cycle of an engine. -/
def execMicrowordIssue (c : Fin 16) (slot : Sys2Proof.IssueSlot) (s : State) : Host.Outcome State Fault Refusal :=
  if s.d.dataRuns then .next { s with d := s.d.engineCycle c slot.engine slot.fetch } else .next s

end Sys2Proof.Machine
end

