-- ==== Sys2Proof/Machine/Clusters.lean ====
section
/-!
DEFINITION. Dispatch, the arrivals at a thread, the delivery of its result, the small control stores, and the loading,
resetting and scrubbing of a cluster's stores (chapter 07).
-/
namespace Sys2Proof.Machine

/-! ### Dispatch and order domains (R198 to R202) -/

/-- The credits a dispatcher holds for its threads in a cluster. -/
def Device.credits (d : Device) (pg c : Nat) : Nat := 256 - d.eng.spent.getD (fun _ => 0) (pg * 16 + c)

/-- The clusters considered for a frame: in service, and in the mask of its key profile. -/
def Device.considered (d : Device) (pg : Nat) (f : Frame) : List Nat :=
  let mask := d.cfg (islPG pg) f.parity (Obj.dispClusterMask f.profile)
  (List.range 16).filter (fun c => mask.testBit c && d.inService c)

/-- The considered cluster with the most credits; among equals the first in cyclic order after the last one (R199). -/
def Device.pickCluster (d : Device) (pg last : Nat) (cs : List Nat) : Nat :=
  let order := (rotation16 last).filter (fun c => cs.contains c)
  order.foldl (fun b c => if d.credits pg b < d.credits pg c then c else b) (order.headD 0)

/-- The free threads of an engine. -/
def Device.freeThreads (d : Device) (c e : Nat) : List Nat :=
  (List.range 16).filter (fun t => (d.thread? (threadKey c e t)).isNone)

/-- The engine of a port group's share with the most free threads, the lowest on ties. -/
def Device.pickEngine (d : Device) (pg c : Nat) : Nat :=
  (List.range 16).foldl (fun b i =>
    let e := 16 * pg + i
    if (d.freeThreads c b).length < (d.freeThreads c e).length then e else b) (16 * pg)

/-- The local part of a frame's order domain (R201). -/
def Device.orderLocal (d : Device) (pg : Nat) (f : Frame) : Nat :=
  match f.nextOd with
  | some x => x % 16384
  | none =>
    let g := fun k => d.cfg (islPG pg) f.parity k
    match g (Obj.dispOdMode f.profile) with
    | 0 => bits (f.summary.getD 0 0) 63 56
    | 1 => crc32c 0 (slice (f.key.take 80) (g (Obj.dispOdOffset f.profile)) (g (Obj.dispOdLength f.profile))) % 16384
    | _ => g (Obj.dispOdFixed f.profile)

/-- A thread as dispatch leaves it (Table 7-2). -/
def newThread (i : Nat) (f : Frame) (entry cycle : Nat) : Thread :=
  let w := min 256 f.bytes.length
  { frame := i, g := f.summary ++ List.replicate 12 0, m := f.mword, window := { bytes := fit 256 (f.bytes.take w), first := w },
    pc := entry, nextIssue := cycle, start := cycle, tenant := f.tenant,
    result := { tenant := f.tenant, cls := bits (f.summary.getD 0 0) 43 41, parity := f.parity } }

/-- A frame is dispatched to a cluster. -/
def Device.dispatchTo (d : Device) (pg i c : Nat) : Device :=
  let f := d.frame i
  let dom := 16384 * pg + d.orderLocal pg f
  let seq := d.eng.odSeq.getD (fun _ => 0) dom
  let e := d.pickEngine pg c
  let k := threadKey c e ((d.freeThreads c e).headD 0)
  let f := { f with domain := dom, seq := seq, stage := .thread }
  let spent := d.eng.spent.getD (fun _ => 0) (pg * 16 + c)
  let d : Device := { d with eng := { d.eng with
    odSeq := d.eng.odSeq.set (fun _ => 0) dom ((seq + 1) % 65536)
    spent := d.eng.spent.set (fun _ => 0) (pg * 16 + c) (spent + 1)
    poolAnswers := d.eng.poolAnswers.filter (fun x => x.1 != k) } }
  let d := ((d.setFrame i f).land i).bump (Obj.dispStatDispatched pg)
  let g := d.pgs pg
  let d := d.setPg pg { g with keyq := g.keyq.erase i, lastCluster := c }
  let d := d.tallyAt c 6 1 f.tenant true e
  let entry := (d.cluster c).image.entries.getD f.profile 0x3FFF
  let t := newThread i f entry (d.engCycle c e)
  if entry = 0x3FFF then d.finish k t else d.setThread k t

/-- The frame at the head of a port group's dispatch input (R199, R200, R260, R285). -/
def Device.dispatchHead (d : Device) (pg i : Nat) : Device :=
  let f := d.frame i
  if f.stage = .decrypt then d
  else match d.sweep i with
  | some d => d
  | none =>
  if !f.walked ∨ f.reason ≠ 0 then
    if d.roomToLand i then
      let g := d.pgs pg
      (d.setPg pg { g with keyq := g.keyq.erase i }).handToSwitch i
    else d
  else
    let cs := d.considered pg f
    if cs.isEmpty then (d.bump (Obj.dispStatNoClusterDrops pg)).leave i
    else
      let c := d.pickCluster pg (d.pgs pg).lastCluster cs
      if d.credits pg c = 0 ∨ !d.roomToLand i then d else d.dispatchTo pg i c

/-- DISPATCH (R199). -/
def execDispatch (pg : Fin 4) (s : State) : Host.Outcome State Fault Refusal :=
  match (s.d.pgs pg).keyq with
  | i :: _ => if s.d.dataRuns then .next { s with d := s.d.dispatchHead pg i } else .next s
  | [] => .next s

/-- A credit on its way back reaches the dispatcher. -/
def Device.creditBack (d : Device) (pg c : Nat) : Device :=
  let i := pg * 16 + c
  let r := d.eng.returning.getD (fun _ => 0) i
  if r = 0 then d
  else { d with eng := { d.eng with
    returning := d.eng.returning.set (fun _ => 0) i (r - 1)
    spent := d.eng.spent.set (fun _ => 0) i (d.eng.spent.getD (fun _ => 0) i - 1) } }

/-- CREDIT_RETURN (R198). -/
def execCreditReturn (pg : Fin 4) (c : Fin 16) (s : State) : Host.Outcome State Fault Refusal :=
  if s.d.dataRuns then .next { s with d := s.d.creditBack pg c } else .next s

/-! ### Arrivals at a thread -/

/-- The oldest result on a cluster's channel, and the others. -/
def takeResult (onChannel : LookupRes → Bool) : List LookupRes → Option (LookupRes × List LookupRes)
  | [] => none
  | r :: rs =>
    if onChannel r then some (r, rs)
    else match takeResult onChannel rs with
      | some (x, l) => some (x, r :: l)
      | none => none

/-- Whether a cluster has the thread of a frame. -/
def Device.clusterHolds (d : Device) (c i : Nat) : Bool := d.eng.threads.any (fun e => e.1 / 1024 == c && e.2.frame == i)

/-- The lookup result at the head of a cluster's channel reaches its slot with its status (R19, R156, R169), if it is a frame's. -/
def Device.lookupArrives (d : Device) (c i : Nat) : Device :=
  match takeResult (fun r => d.clusterHolds c r.frame) d.srh.results with
  | none => d
  | some (r, rest) =>
    if r.frame ≠ i then d
    else
      let d : Device := { d with srh := { d.srh with results := rest } }
      d.setFrame i ((d.frame i).setSlot r.slot { word := r.word, status := r.status })

/-- LOOKUP_RESULT_ARRIVAL (R156). -/
def execLookupResultArrival (c : Fin 16) (e : Fin 64) (t : Fin 16) (s : State) : Host.Outcome State Fault Refusal :=
  match s.d.thread? (threadKey c e t) with
  | some x => if s.d.dataRuns then .next { s with d := s.d.lookupArrives c x.frame } else .next s
  | none => .next s

/-- VERDICT_ARRIVAL (R260): the verdict reaches the frame's thread. -/
def execVerdictArrival (c : Fin 16) (e : Fin 64) (t : Fin 16) (s : State) : Host.Outcome State Fault Refusal :=
  match s.d.thread? (threadKey c e t) with
  | some x => if s.d.dataRuns then .next { s with d := s.d.settleVerdict x.frame } else .next s
  | none => .next s

/-- The oldest of the switch core's answers on its way to a cluster. -/
def Device.answerTo (d : Device) (c : Nat) : Option (Nat × Nat × Nat) := d.eng.poolAnswers.find? (fun x => x.1 / 1024 == c)

/-- The switch core's answer at the head of a cluster's channel reaches the thread, if it is the thread's (R19, R215). -/
def Device.poolArrives (d : Device) (k : Nat) (t : Thread) : Device :=
  match d.answerTo (k / 1024) with
  | none => d
  | some (j, code, head) =>
    if j ≠ k then d
    else
    let d : Device := { d with eng := { d.eng with poolAnswers := d.eng.poolAnswers.filter (fun x => x.1 != k) } }
    d.setThread k { t.write 15 (if code = 0 then head else 0) with
      poolPending := false, poolOut := if code = 0 then 1 else if code = 1 then 2 else 3 }

/-- POOL_RESULT_ARRIVAL (R215). -/
def execPoolResultArrival (c : Fin 16) (e : Fin 64) (t : Fin 16) (s : State) : Host.Outcome State Fault Refusal :=
  match s.d.thread? (threadKey c e t) with
  | some x => if s.d.dataRuns then .next { s with d := s.d.poolArrives (threadKey c e t) x } else .next s
  | none => .next s

/-- A channel accepts the oldest side effect a thread has issued (R197). -/
def Device.acceptSide (d : Device) (k : Nat) (t : Thread) : Device :=
  match t.sides with
  | [] => d
  | x :: rest =>
    let c := k / 1024
    let d := d.setThread k { t with sides := rest }
    { d with eng := { d.eng with
        channel := d.eng.channel.set (fun _ => []) c (d.eng.channel.getD (fun _ => []) c ++ [(k, x)]) } }

/-- SIDE_EFFECT_ACCEPTED (R197). -/
def execSideEffectAccepted (c : Fin 16) (e : Fin 64) (t : Fin 16) (s : State) : Host.Outcome State Fault Refusal :=
  match s.d.thread? (threadKey c e t) with
  | some x => if s.d.dataRuns then .next { s with d := s.d.acceptSide (threadKey c e t) x } else .next s
  | none => .next s

/-! ### The result (R203) -/

/-- The chains a thread holds are held no longer; those a flush has marked are released (R288, R294). -/
def Device.unhold (d : Device) (k : Nat) : Device :=
  (d.swc.chains.filter (fun e => e.2.holder == some k)).foldl (fun d e =>
    let d := d.setChain e.1 { e.2 with holder := none, doomed := false }
    if e.2.doomed ∧ e.2.allocated then d.release e.1 else d) d

/-- The channel to SWC accepts a thread's result, after the side effects that the thread has issued, which stand whatever ended
it (R214, R217): the frame goes to the reorder stage with it, and the thread is FREE.  A flush of the cluster or of the tenant
makes the result a DROP (R101), save that of a store error, for which the cluster itself is flushed (R230). -/
def Device.deliver (d : Device) (k : Nat) (t : Thread) : Device :=
  let c := k / 1024
  let i := t.frame
  let d := d.settleVerdict i
  let f := d.frame i
  let pg := f.pg
  let d := d.setFrame i { f with stage := .reorder, result := t.result, viaEngine := true, tenant := t.tenant,
                                 mword := t.m }
  let d := if d.flushedTenant t.tenant || ((d.frostFn 3 c).flushing && f.cause != trapSTORE) then d.flushResult i else d
  let d := (d.unhold k).bump (Obj.clFramesEnded c)
  { d with
    swc := { d.swc with results := d.swc.results.set (fun _ => []) pg (d.swc.results.getD (fun _ => []) pg ++ [i]) }
    eng := { d.eng with
      threads := d.eng.threads.drop k
      channel := d.eng.channel.set (fun _ => []) c (d.eng.channel.getD (fun _ => []) c ++ t.sides.map (fun x => (k, x)))
      poolAnswers := d.eng.poolAnswers.filter (fun x => x.1 != k)
      returning := d.eng.returning.set (fun _ => 0) (pg * 16 + c) (d.eng.returning.getD (fun _ => 0) (pg * 16 + c) + 1) } }

/-- RESULT_ACCEPTED (R203). -/
def execResultAccepted (c : Fin 16) (e : Fin 64) (t : Fin 16) (s : State) : Host.Outcome State Fault Refusal :=
  match s.d.thread? (threadKey c e t) with
  | some x =>
    if s.d.dataRuns ∧ x.state = .ending then .next { s with d := s.d.deliver (threadKey c e t) x } else .next s
  | none => .next s

/-! ### Small control stores (R226) -/

/-- A sequencer executes one microword; the effects of its nanoword are those its block's commands state. -/
def SmallStore.stepOn (x : SmallStore) (cond : Bool) : SmallStore :=
  let w := x.micro.getD x.pc 0
  let taken := match bits w 13 10 with
    | 0 => false
    | 15 => true
    | _ => cond
  { x with pc := if taken then (x.pc + 1) % 1024 else bits w 23 14 }

/-- SMALL_STORE_MICROWORD (R226): stores 0 CRY job sequencer, 1 SRH maintenance, 2 MGT boot. -/
def execSmallStoreMicroword (store : Fin 3) (cond : Bool) (s : State) : Host.Outcome State Fault Refusal :=
  let x := s.d.eng.small.getD (fun _ => {}) store
  let d : Device :=
    { s.d with eng := { s.d.eng with small := s.d.eng.small.set (fun _ => {}) store (x.stepOn cond) } }
  .next { s with d := if store = 0 then d.tallyPlain islCRY 7 1 else d }

/-! ### An island takes the generation pointer (R239, R242, R368) -/

/-- A bank's counters are cleared as a new setting reaches its island (R368). -/
def Device.clearBank (d : Device) (b : Nat) : Device :=
  let d : Device := { d with ev := { d.ev with
    counters := d.ev.counters.filter (fun e => e.1 / 512 != b)
    wraps := d.ev.wraps.filter (fun e => e.1 != b)
    cycleMark := d.ev.cycleMark.set (fun _ => 0) b (d.cycleOf b) } }
  d.put (Obj.bankOverflow b) 0

/-- MODE and SELECT of a bank, as its island has taken them. -/
def Device.bankSetting (d : Device) (b : Nat) : List Nat :=
  d.arr b (Obj.bankMode b) :: (List.range 8).map (fun j => d.arr b (Obj.bankSelect0 b j))

/-- An island's copy of the pointer takes a value; a bank whose setting changes with it is cleared (R368).  A stopped cluster's
setting is the one it had when it stopped. -/
def Device.setPointer (d : Device) (isl : Nat) (p : IslPtr) : Device :=
  let old := if d.stopped isl then (d.cluster isl).setting else d.bankSetting isl
  let e : Device := { d with ptrs := d.ptrs.set (fun _ => {}) isl p }
  if e.bankSetting isl = old then e else e.clearBank isl

/-- An island that leaves the stopped condition takes the current pointer from MGT; a front in hand counts it as heard
(R242). -/
def Device.takePointer (d : Device) (isl : Nat) : Device :=
  let d := d.setPointer isl (d.ptr islMGT)
  if d.front.acks.contains isl then d else { d with front := { d.front with acks := d.front.acks ++ [isl] } }

/-! ### Loading, resetting and scrubbing (R230 to R232) -/

/-- UNLOADED. -/
def ldUNLOADED : Nat := 0
/-- DRAINING. -/
def ldDRAINING : Nat := 1
/-- LOADING. -/
def ldLOADING : Nat := 2
/-- TESTING. -/
def ldTESTING : Nat := 3
/-- LOADED. -/
def ldLOADED : Nat := 4

/-- LOAD_STATE takes a value, with event CLUSTER_STATE. -/
def Device.clusterTo (d : Device) (c n : Nat) : Device :=
  (d.put (Obj.clLoadState c) n).fire c (256 + 16 * c + 2) n

/-- The AGE of a value that a running island holds, a free value within the bounds of R55 (log entry 1). -/
def Device.runningAge (d : Device) (isl : Nat) : Device × Nat :=
  let r := d.takeFree
  (r.2, if d.clockK isl = 16 then 1 + r.1 % 3 else r.1 % (20 - d.clockK isl))

/-- The threads of a cluster that own no frame (FREE_THREADS). -/
def Device.freeCount (d : Device) (c : Nat) : Nat := 1024 - (d.eng.threads.filter (fun e => e.1 / 1024 == c)).length

/-- The objects that a cluster holds and MGT mirrors (RM of Tables 7-24, 13-11 and 13-12), with their values. -/
def Device.mirrored (d : Device) (c : Nat) : List (Nat × Nat) :=
  (Obj.clFreeThreads c, d.freeCount c) :: (Obj.bankCycles c, d.bankCyclesOf c)
  :: (Obj.bankSnapCycles c, d.ev.snapCycles.getD (fun _ => 0) c) :: (Obj.smpBufferFill c, (d.sampler c).buffer.length)
  :: ((List.range 8).map (fun i => Obj.clMicrowords c + i) ++ [Obj.smpSamplesTaken c, Obj.smpSamplesLost c]).map
       (fun k => (k, d.get k))

/-- A running cluster stops: its mirror copies are refreshed no more (R50, R55). -/
def Device.stopIsland (d : Device) (c : Nat) : Device :=
  if d.stopped c then d
  else
    let r := d.runningAge c
    r.1.setCluster c { r.1.cluster c with
      stoppedAt := d.now, stoppedAge := r.2, setting := d.bankSetting c
      mirror := (d.mirrored c).foldl (fun l e => l.set objDefault e.1 e.2) [] }

/-- A load begins: the cluster stops, the bound slot is taken, and the stores are being written. -/
def Device.beginLoad (d : Device) (c : Nat) : Device :=
  let d := d.stopIsland c
  d.setCluster c { d.cluster c with slot := d.get (Obj.clImageSlot c), image := {}, storeErrors := [], autoPending := false }

/-- Whether a reload runs (R231). -/
def Device.reloadRuns (d : Device) : Bool :=
  (List.range 16).any (fun c => decide (1 ≤ d.get (Obj.clLoadState c)) && decide (d.get (Obj.clLoadState c) ≤ 3))

/-- A RELOAD is accepted (Table 7-19).  The Frost that it makes is not one that R100 refuses, so that it may be the 65th function
FROSTING (DESIGN CHOICE, log entry 56). -/
def Device.startReload (d : Device) (c : Nat) : Device :=
  let active := d.frostState 3 c == 0
  let d := d.setCluster c { d.cluster c with wasActive := active }
  if d.get (Obj.clLoadState c) = ldUNLOADED then (d.beginLoad c).put (Obj.clLoadState c) ldLOADING
  else if active then
    ((d.clusterTo c ldDRAINING).setFrost 3 c
      { state := 1, asked := d.now, deadline := some (d.now + us 950), flushing := false }).recheck
  else (d.beginLoad c).clusterTo c ldLOADING

/-- A cluster is unloaded: its stores are cleared. -/
def Device.unloadCluster (d : Device) (c : Nat) : Device :=
  let d := d.stopIsland c
  ((d.setCluster c { d.cluster c with
      slot := 0, wasActive := false, resetPending := false, autoPending := false, image := {}, storeErrors := [] }).clusterTo c
    ldUNLOADED).recheck

/-- A frozen or disabled cluster is reset (R232, R377). -/
def Device.resetCluster (d : Device) (c : Nat) : Device :=
  let d := d.stopIsland c
  let x := d.sampler c
  let d := d.bumpBy (Obj.smpSamplesLost c) x.buffer.length
  (d.setSampler c { x with buffer := [] }).unloadCluster c

/-- What follows a cluster's becoming FROZEN: a reset, or a load that waited for the drain (Table 7-19, R230). -/
def Device.clusterFrozen (d : Device) (c : Nat) : Device :=
  let x := d.cluster c
  if x.resetPending then d.resetCluster c
  else if d.get (Obj.clLoadState c) = ldDRAINING then (d.beginLoad c).put (Obj.clLoadState c) ldLOADING
  else if x.autoPending then
    ((d.setCluster c { x with wasActive := true }).beginLoad c).clusterTo c ldLOADING
  else d

/-- The frames in a cluster's threads. -/
def Device.clusterBusy (d : Device) (c : Nat) : Bool := d.eng.threads.any (fun e => e.1 / 1024 == c)

/-- A write of CLUSTER_RESET (R232); a cluster that is ACTIVE or FROSTING is hard-Frosted first. -/
def Device.startClusterReset (d : Device) (c : Nat) : Device :=
  if d.frostState 3 c ≤ 1 then
    ((d.hardFrostCluster c).setCluster c { d.cluster c with resetPending := true }).recheck
  else d.resetCluster c

/-- A load ends without an image: UNLOADED, and event 801 (R231). -/
def Device.rejectLoad (d : Device) (c : Nat) : Device := (d.fire islMGT 801 (c * 256)).unloadCluster c

/-- Whether the loader accepts an image (R207, R216, R222). -/
def Image.loadable (x : Image) : Bool :=
  x.nano.all nanowordOk && x.micro.all (microwordOk x.nano) && decide (x.yieldBound ≤ 256)

/-- The stores of a loading cluster are written, unless the image is not the slot's or the loader rejects it (R207, R216,
R231). -/
def Device.storesWritten (d : Device) (c : Nat) (hashOk : Bool) : Device :=
  if !d.dataRuns ∨ d.get (Obj.clLoadState c) ≠ ldLOADING then d
  else
    let x := d.cluster c
    if !hashOk ∨ !(d.eng.images.getD (fun _ => {}) x.slot).loadable then d.rejectLoad c
    else (d.setCluster c { x with image := d.eng.images.getD (fun _ => {}) x.slot }).put (Obj.clLoadState c) ldTESTING

/-- RELOAD_STORES_WRITTEN (R231). -/
def execReloadStoresWritten (c : Fin 16) (hashOk : Bool) (s : State) : Host.Outcome State Fault Refusal :=
  if s.d.awake then .next { s with d := s.d.storesWritten c hashOk } else .next s

/-- The self-test of a loaded cluster ends (R231). -/
def Device.selftestDone (d : Device) (c : Nat) (pass : Bool) : Device :=
  if !d.dataRuns ∨ d.get (Obj.clLoadState c) ≠ ldTESTING then d
  else if !pass then d.unloadCluster c
  else
    let x := d.cluster c
    let d := if x.wasActive ∧ d.frostState 3 c = 2 then d.setFrost 3 c {} else d
    let d := (d.setCluster c { x with wasActive := false }).bumpBy (Obj.clReloads c) 1
    ((d.takePointer c).clusterTo c ldLOADED).recheck

/-- RELOAD_SELFTEST_DONE (R231). -/
def execReloadSelftestDone (c : Fin 16) (pass : Bool) (s : State) : Host.Outcome State Fault Refusal :=
  if s.d.awake then .next { s with d := s.d.selftestDone c pass } else .next s

/-- The scrub of a running cluster's store meets an address (R230): an uncorrectable word stays until a fetch meets it. -/
def Device.storeScrub (d : Device) (c : Nat) (nano : Bool) (addr : Nat) (found : EccOutcome) : Device :=
  if d.stopped c then d
  else match found with
  | .clean => d
  | .correctable => d.bump (Obj.clStoreEccCorrected c)
  | .uncorrectable =>
    let x := d.cluster c
    let a := if nano then 16384 + addr % 4096 else addr
    if x.storeErrors.contains a then d else d.setCluster c { x with storeErrors := a :: x.storeErrors }

/-- STORE_SCRUB (R230). -/
def execStoreScrub (c : Fin 16) (nano : Bool) (addr : Fin 16384) (found : EccOutcome) (s : State) :
    Host.Outcome State Fault Refusal :=
  .next { s with d := s.d.storeScrub c nano addr found }

end Sys2Proof.Machine
end

