-- ==== Sys2Proof/Machine/Aes.lean ====
section
/-!
DEFINITION. AES (FIPS 197), GCM and GMAC (NIST SP 800-38D), XTS with ciphertext stealing (IEEE 1619), and AES key
unwrap (RFC 3394): the algorithms that the crypto chapter names.  Blocks are 16-byte strings.
-/
namespace Sys2Proof.Machine

/-! ### The field of AES -/

/-- Multiplication by x in GF(2^8). -/
def xtime (a : Nat) : Nat := if 128 ≤ a then (2 * a % 256) ^^^ 0x1B else 2 * a

/-- Multiplication in GF(2^8), by the low `n` bits of `b`. -/
def gmul8 : Nat → Nat → Nat → Nat
  | 0, _, _ => 0
  | n + 1, a, b => (if b % 2 = 1 then a else 0) ^^^ gmul8 n (xtime a) (b / 2)

/-- The inverse: a^254. -/
def ginv8 (a : Nat) : Nat :=
  let m := gmul8 8
  let a2 := m a a
  let a4 := m a2 a2
  let a8 := m a4 a4
  let a16 := m a8 a8
  let a32 := m a16 a16
  let a64 := m a32 a32
  let a128 := m a64 a64
  m (m (m a128 a64) (m a32 a16)) (m (m a8 a4) a2)

/-- A byte rotated left. -/
def rotl8 (n x : Nat) : Nat := ((x <<< n) % 256) ||| (x >>> (8 - n))

/-- The S-box. -/
def sbox (a : Nat) : Nat :=
  let i := ginv8 a
  i ^^^ rotl8 1 i ^^^ rotl8 2 i ^^^ rotl8 3 i ^^^ rotl8 4 i ^^^ 0x63

/-- The inverse S-box. -/
def invSbox (a : Nat) : Nat := ginv8 (rotl8 1 a ^^^ rotl8 3 a ^^^ rotl8 6 a ^^^ 0x05)

/-- The S-box as a table. -/
def sboxTable : List Nat := (List.range 256).map sbox

/-- The inverse S-box as a table. -/
def invSboxTable : List Nat := (List.range 256).map invSbox

/-! ### Key schedule -/

/-- SubWord. -/
def subWord (w : List Nat) : List Nat := w.map sbox

/-- RotWord. -/
def rotWord (w : List Nat) : List Nat := w.drop 1 ++ w.take 1

/-- Exclusive or of two words. -/
def xorWords (a b : List Nat) : List Nat := List.zipWith (fun x y => x ^^^ y) a b

/-- The key schedule: `n` more words after those listed (newest first), for a key of `nk` words; `i` is the number of the
next word and `rc` the round constant. -/
def keyWords (nk : Nat) : Nat → Nat → Nat → List (List Nat) → List (List Nat)
  | 0, _, _, w => w
  | n + 1, i, rc, w =>
    let prev := w.headD []
    let old := w.getD (nk - 1) []
    if i % nk = 0 then keyWords nk n (i + 1) (xtime rc) (xorWords old (xorWords (subWord (rotWord prev)) [rc, 0, 0, 0]) :: w)
    else if nk = 8 ∧ i % nk = 4 then keyWords nk n (i + 1) rc (xorWords old (subWord prev) :: w)
    else keyWords nk n (i + 1) rc (xorWords old prev :: w)

/-- The round keys of a 16-byte or 32-byte key, first round first. -/
def roundKeys (key : Bytes) : List (List Nat) :=
  let nk := key.length / 4
  let w0 := (chunks 4 key).map (fun c => c.map BitVec.toNat)
  let ws := (keyWords nk (4 * (nk + 7) - nk) nk 1 w0.reverse).reverse
  (List.range (nk + 7)).map (fun r => ((ws.drop (4 * r)).take 4).flatten)

/-! ### The cipher -/

/-- ShiftRows on a column-major state. -/
def shiftRows (s : List Nat) : List Nat :=
  (List.range 16).map (fun i => s.getD ((i % 4 + 4 * ((i / 4 + i % 4) % 4))) 0)

/-- The inverse of ShiftRows. -/
def invShiftRows (s : List Nat) : List Nat :=
  (List.range 16).map (fun i => s.getD ((i % 4 + 4 * ((i / 4 + 4 - i % 4) % 4))) 0)

/-- A column multiplied by a circulant of `c`. -/
def mixColumn (c : List Nat) (col : List Nat) : List Nat :=
  (List.range 4).map (fun r =>
    (List.range 4).foldl (fun a j => a ^^^ gmul8 4 (col.getD j 0) (c.getD ((j + 4 - r) % 4) 0)) 0)

/-- MixColumns with a circulant. -/
def mixWith (c : List Nat) (s : List Nat) : List Nat :=
  (List.range 4).flatMap (fun k => mixColumn c ((s.drop (4 * k)).take 4))

/-- The middle rounds of encryption. -/
def aesRounds (tbl : List Nat) : List (List Nat) → List Nat → List Nat
  | [], s => s
  | [k], s => xorWords (shiftRows (s.map (fun b => tbl.getD b 0))) k
  | k :: ks, s => aesRounds tbl ks (xorWords (mixWith [2, 3, 1, 1] (shiftRows (s.map (fun b => tbl.getD b 0)))) k)

/-- AES encryption of a block under round keys. -/
def aesEnc (ks : List (List Nat)) (b : Bytes) : Bytes :=
  match ks with
  | [] => b
  | k :: rest => (aesRounds sboxTable rest (xorWords ((fit 16 b).map BitVec.toNat) k)).map byte

/-- The rounds of decryption, with the round keys last round first. -/
def aesInvRounds (tbl : List Nat) : List (List Nat) → List Nat → List Nat
  | [], s => s
  | [k], s => xorWords ((invShiftRows s).map (fun b => tbl.getD b 0)) k
  | k :: ks, s =>
    aesInvRounds tbl ks (mixWith [14, 11, 13, 9] (xorWords ((invShiftRows s).map (fun b => tbl.getD b 0)) k))

/-- AES decryption of a block under round keys. -/
def aesDec (ks : List (List Nat)) (b : Bytes) : Bytes :=
  match ks.reverse with
  | [] => b
  | k :: rest => (aesInvRounds invSboxTable rest (xorWords ((fit 16 b).map BitVec.toNat) k)).map byte

/-! ### GCM -/

/-- Multiplication in GF(2^128) of GCM: `n` bits of `x` from the most significant, with `v` the multiple of H. -/
def gmul128 : Nat → Nat → Nat → Nat → Nat
  | 0, _, _, z => z
  | n + 1, x, v, z =>
    gmul128 n x (if v % 2 = 1 then (v / 2) ^^^ (0xE1 * 2 ^ 120) else v / 2) (if x.testBit n then z ^^^ v else z)

/-- GHASH of whole blocks. -/
def ghash (h : Nat) (b : Bytes) : Nat := (chunks 16 b).foldl (fun y c => gmul128 128 (y ^^^ beNat (fit 16 c)) h 0) 0

/-- Zero bytes to a multiple of 16. -/
def pad16 (b : Bytes) : Bytes := b ++ zeros ((16 - b.length % 16) % 16)

/-- Counter-mode encryption from a counter block's number. -/
def gctr (ks : List (List Nat)) (iv : Bytes) : Nat → List Bytes → Bytes
  | _, [] => []
  | n, c :: cs => xorBytes c (aesEnc ks (iv ++ beBytes 4 n)) ++ gctr ks iv (n + 1) cs

/-- The GCM tag of a ciphertext with a 12-byte IV and associated data. -/
def gcmTag (ks : List (List Nat)) (iv aad c : Bytes) : Bytes :=
  let h := beNat (aesEnc ks (zeros 16))
  let s := ghash h (pad16 aad ++ pad16 c ++ beBytes 8 (8 * aad.length) ++ beBytes 8 (8 * c.length))
  xorBytes (beBytes 16 s) (aesEnc ks (iv ++ beBytes 4 1))

/-- AES-GCM encryption: ciphertext and tag. -/
def gcmEncrypt (key iv aad p : Bytes) : Bytes × Bytes :=
  let ks := roundKeys key
  let c := gctr ks iv 2 (chunks 16 p)
  (c, gcmTag ks iv aad c)

/-- AES-GCM decryption: plaintext, and whether the tag agrees. -/
def gcmDecrypt (key iv aad c tag : Bytes) : Bytes × Bool :=
  let ks := roundKeys key
  (gctr ks iv 2 (chunks 16 c), decide (gcmTag ks iv aad c = tag))

/-! ### XTS -/

/-- The tweak of the next block: multiplication by x in the little-endian field of XTS. -/
def xtsNext (t : Nat) : Nat := if t.testBit 127 then (2 * t % 2 ^ 128) ^^^ 0x87 else 2 * t

/-- One block under a tweak. -/
def xtsBlock (f : Bytes → Bytes) (t : Nat) (b : Bytes) : Bytes :=
  let tb := leBytes 16 t
  xorBytes (f (xorBytes b tb)) tb

/-- Encryption of the blocks of a unit; a short last block steals from the one before it. -/
def xtsEncBlocks (f : Bytes → Bytes) : Nat → List Bytes → Bytes
  | _, [] => []
  | t, [b] => xtsBlock f t b
  | t, [b, c] =>
    if c.length = 16 then xtsBlock f t b ++ xtsBlock f (xtsNext t) c
    else
      let x := xtsBlock f t b
      xtsBlock f (xtsNext t) (c ++ x.drop c.length) ++ x.take c.length
  | t, b :: c :: d :: cs => xtsBlock f t b ++ xtsEncBlocks f (xtsNext t) (c :: d :: cs)

/-- Decryption of the blocks of a unit. -/
def xtsDecBlocks (f : Bytes → Bytes) : Nat → List Bytes → Bytes
  | _, [] => []
  | t, [b] => xtsBlock f t b
  | t, [b, c] =>
    if c.length = 16 then xtsBlock f t b ++ xtsBlock f (xtsNext t) c
    else
      let x := xtsBlock f (xtsNext t) b
      xtsBlock f t (c ++ x.drop c.length) ++ x.take c.length
  | t, b :: c :: d :: cs => xtsBlock f t b ++ xtsDecBlocks f (xtsNext t) (c :: d :: cs)

/-- The first tweak of a data unit: its number, least significant byte first, under Key2. -/
def xtsTweak (key2 : Bytes) (dun : Nat) : Nat := leNat (aesEnc (roundKeys key2) (leBytes 16 dun))

/-- XTS-AES-256 encryption of a data unit. -/
def xtsEncrypt (key1 key2 : Bytes) (dun : Nat) (p : Bytes) : Bytes :=
  xtsEncBlocks (aesEnc (roundKeys key1)) (xtsTweak key2 dun) (chunks 16 p)

/-- XTS-AES-256 decryption of a data unit. -/
def xtsDecrypt (key1 key2 : Bytes) (dun : Nat) (c : Bytes) : Bytes :=
  xtsDecBlocks (aesDec (roundKeys key1)) (xtsTweak key2 dun) (chunks 16 c)

/-! ### Key unwrap (RFC 3394) -/

/-- One pass of the unwrap over the blocks R[n] … R[1], given newest first, with t counting down. -/
def unwrapPass (ks : List (List Nat)) : Nat → Nat → List Bytes → Nat × List Bytes
  | a, _, [] => (a, [])
  | a, t, r :: rs =>
    let b := aesDec ks (beBytes 8 (a ^^^ t) ++ r)
    let x := unwrapPass ks (beNat (b.take 8)) (t - 1) rs
    (x.1, b.drop 8 :: x.2)

/-- `j` passes. -/
def unwrapPasses (ks : List (List Nat)) (n : Nat) : Nat → Nat → List Bytes → Nat × List Bytes
  | 0, a, rs => (a, rs)
  | j + 1, a, rs =>
    let x := unwrapPass ks a (n * (j + 1)) rs
    unwrapPasses ks n j x.1 x.2

/-- AES key unwrap: the key data when the integrity check passes. -/
def keyUnwrap (kek wrapped : Bytes) : Option Bytes :=
  let rs := (chunks 8 (wrapped.drop 8)).reverse
  let x := unwrapPasses (roundKeys kek) rs.length 6 (beNat (wrapped.take 8)) rs
  if x.1 = 0xA6A6A6A6A6A6A6A6 then some x.2.reverse.flatten else none

end Sys2Proof.Machine
end

