-- ==== Sys2Proof/Machine/Events.lean ====
section
/-!
DEFINITION. The event unit (R354 to R365): limiter keys, the order queue and the pending slots, records and their rings,
MSI-X messages and INT_N; the counter banks' overflow bits and snapshots (R368 to R370); and the sample ring (R376).
-/
namespace Sys2Proof.Machine

/-! ### Routing and limits (R356, R363) -/

/-- The EVENT_CONFIG entry of a source, as MGT has taken it. -/
def Device.eventConfig (d : Device) (source : Nat) : Nat := beNat (d.arrRead islMGT Obj.domEventConfig (4 * source) 4)

/-- Whether a source is limited to one record per millisecond per key. -/
def limitedSource (s : Nat) : Bool :=
  [13, 14, 18, 35, 36, 196, 197, 198, 202, 203, 204, 515, 516, 520, 521, 608, 609, 610, 612, 613, 704, 705, 706, 770, 773,
    865, 866, 867].contains s
  || (decide (192 ≤ s) && decide (s ≤ 195)) || (decide (576 ≤ s) && decide (s ≤ 607))
  || (decide (256 ≤ s) && decide (s < 512) && (s % 16 == 0 || s % 16 == 3 || s % 16 == 4))

/-- The limiter key of an occurrence: its source, and the instance where the limit is per instance (R356). -/
def limiterKey (o : Occurrence) : Nat := o.source * 65536 + (if limitedSource o.source then o.inst else 0)

/-- The source of a limiter key. -/
def keySource (k : Nat) : Nat := k / 65536

/-- One millisecond in nanoseconds. -/
def oneMs : Nat := 1000000

/-- Whether a key's limit allows a record now: 1 ms has passed since its last record (R356). -/
def Device.limitOpen (d : Device) (k : Nat) : Bool :=
  !limitedSource (keySource k) || (match d.ev.lastRecord.find k with
    | some t => decide (t + oneMs ≤ d.now)
    | none => true)

/-- The function whose ring takes a source's records. -/
def Device.routeOf (d : Device) (source : Nat) : Nat := bits (d.eventConfig source) 29 25

/-- Whether a function's event ring is enabled and its DMA may run. -/
def Device.ringOn (d : Device) (f : Nat) : Bool := d.get (Obj.erRingEnable f) == 1 && d.dmaOk f

/-- Whether an event ring has room (R361). -/
def Device.ringRoom (d : Device) (f : Nat) : Bool :=
  (d.get (Obj.erRingTail f) + 1) % d.get (Obj.erRingEntries f) != d.get (Obj.erRingHead f)

/-! ### Folding (R357) -/

/-- A key's pending slot. -/
def Device.slotOf (d : Device) (k : Nat) : Pending := d.ev.pending.getD (fun _ => {}) k

/-- Set a key's pending slot. -/
def Device.setSlotOf (d : Device) (k : Nat) (p : Pending) : Device :=
  { d with ev := { d.ev with pending := d.ev.pending.set (fun _ => {}) k p } }

/-- Whether a source's detail is a bitmap that folds by OR. -/
def bitmapSource (s : Nat) : Bool := decide (192 ≤ s) && decide (s ≤ 195)

/-- Whether a source's ENABLE is 1 (R359). -/
def Device.sourceOn (d : Device) (source : Nat) : Bool := bit (d.eventConfig source) 31

/-- A slot with one more occurrence: it holds the fields of the one that arrived last (R357). -/
def Pending.take (p : Pending) (o : Occurrence) : Pending :=
  let n := satAdd 32 p.count 1
  let bitmap := if bitmapSource o.source then p.detail ||| o.detail else o.detail
  if 0 < p.count ∧ o.arrived < p.arrived then
    { p with count := n, detail := if bitmapSource o.source then bitmap else p.detail }
  else { p with count := n, arrived := o.arrived, isl := o.isl, time := o.time, detail := bitmap, detail2 := o.detail2 }

/-- An occurrence is folded into its key's pending slot. -/
def Device.fold (d : Device) (o : Occurrence) : Device :=
  let k := limiterKey o
  let f := d.routeOf o.source
  let d := d.bump Obj.evFolded
  let d := if d.ringOn f ∧ !d.ringRoom f then d.bump (Obj.erRingFullFolds f) else d
  d.setSlotOf k ((d.slotOf k).take o)

/-- Whether an occurrence makes a record of its own accord: its ring is enabled with room, and an unlimited key has no folded
occurrence and finds the queue with room (R357), or a limited key's limit is open and no other occurrence triggers it (R356). -/
def Device.triggers (d : Device) (o : Occurrence) : Bool :=
  let f := d.routeOf o.source
  let k := limiterKey o
  d.ringOn f && d.ringRoom f
  && (if limitedSource o.source then d.limitOpen k && !(d.slotOf k).triggered
      else decide (d.ev.queue.length < 4096) && (d.slotOf k).count == 0)

/-- An occurrence that triggers a record: an unlimited key's enters the order queue; a limited key's waits for the writer with
what its slot counts, and is not folded. -/
def Device.trigger (d : Device) (o : Occurrence) : Device :=
  let k := limiterKey o
  if limitedSource o.source then d.setSlotOf k { (d.slotOf k).take o with triggered := true }
  else { d with ev := { d.ev with queue := d.ev.queue ++ [o] } }

/-- An occurrence reaches the event unit. -/
def Device.occur (d : Device) (o : Occurrence) : Device :=
  let d := d.memBump Obj.domEventStatus (16 * o.source) 8 1
  if !d.sourceOn o.source then d
  else
    let o := { o with arrived := d.ev.arrivals + 1 }
    let d : Device := { d with ev := { d.ev with arrivals := d.ev.arrivals + 1 } }
    if d.triggers o then d.trigger o else d.fold o

/-- EVENT_OCCURRENCE (R355): the oldest occurrence on its way from an island reaches the event unit. -/
def execEventOccurrence (isl : Fin 25) (s : State) : Host.Outcome State Fault Refusal :=
  match s.d.ev.flight.getD (fun _ => []) isl with
  | [] => .next s
  | o :: rest =>
    let d : Device := { s.d with ev := { s.d.ev with flight := s.d.ev.flight.set (fun _ => []) isl rest } }
    .next { s with d := d.occur o }

/-! ### Interrupts (R364, R365) -/

/-- INT_N follows INT_STATUS and INT_PIN_ENABLE. -/
def Device.intPin (d : Device) : Device :=
  let low := d.get Obj.evIntStatus == 1 && d.get Obj.evIntPinEnable == 1 && d.devState != stRESET
  { d with sys := { d.sys with intN := !low } }

/-- The key of an MSI-X vector. -/
def vecKey (fn v : Nat) : Nat := fn * 2048 + v

/-- A vector's state. -/
def Device.vec (d : Device) (k : Nat) : MsixVec := d.ev.vectors.getD (fun _ => {}) k

/-- Set a vector's state. -/
def Device.setVec (d : Device) (k : Nat) (x : MsixVec) : Device :=
  { d with ev := { d.ev with vectors := d.ev.vectors.set (fun _ => {}) k x } }

/-- A message is sent, or is left pending by a mask or by a function that issues no DMA. -/
def Device.sendMsix (d : Device) (fn v : Nat) : Device :=
  let k := vecKey fn v
  let x := d.vec k
  if x.masked ∨ d.ev.fnMasked.contains fn ∨ !d.dmaOk fn then d.setVec k { x with waiting := true, due := none }
  else (d.setVec k { x with waiting := false, due := none, lastAt := some d.now }).emit (.msix fn v)

/-- A message under an interval: within it of the vector's last message, one message waits for its end. -/
def Device.msixEvery (d : Device) (fn v interval : Nat) : Device :=
  let x := d.vec (vecKey fn v)
  match x.lastAt with
  | some t => if d.now < t + interval then d.setVec (vecKey fn v) { x with due := some (t + interval) } else d.sendMsix fn v
  | none => d.sendMsix fn v

/-- MSIX_MODERATION_EXPIRY (R364). -/
def execMsixModerationExpiry (fn : Fin 32) (vector : Nat) (s : State) : Host.Outcome State Fault Refusal :=
  match (s.d.vec (vecKey fn vector)).due with
  | some t => if t ≤ s.d.now then .next { s with d := s.d.sendMsix fn vector } else .next s
  | none => .next s

/-- A vector whose mask and function mask are clear sends the message it holds. -/
def Device.sendWaiting (d : Device) (fn v : Nat) : Device :=
  if (d.vec (vecKey fn v)).waiting then d.sendMsix fn v else d

/-- A host write clears an MSI-X vector's mask, or a function's mask (R364). -/
def Device.unmask (d : Device) (fn : Nat) (vector : Option (Fin 2048)) : Device :=
  match vector with
  | some v => (d.setVec (vecKey fn v) { d.vec (vecKey fn v) with masked := false }).sendWaiting fn v
  | none =>
    let d : Device := { d with ev := { d.ev with fnMasked := d.ev.fnMasked.erase fn } }
    (d.ev.vectors.filter (fun e => e.1 / 2048 == fn)).foldl (fun d e => d.sendWaiting fn (e.1 % 2048)) d

/-- MSIX_VECTOR_UNMASK (R364). -/
def execMsixVectorUnmask (fn : Fin 32) (vector : Option (Fin 2048)) (s : State) : Host.Outcome State Fault Refusal :=
  .next { s with d := s.d.unmask fn vector }

/-! ### Records (R358, R360, R361) -/

/-- An event ring's producer state. -/
def Device.evRing (d : Device) (f : Nat) : EvRing := d.ev.rings.getD (fun _ => {}) f

/-- An event record (Table 13-2). -/
def recordBytes (o : Occurrence) (count : Nat) (r : EvRing) : Bytes :=
  leBytes 8 o.time ++ leBytes 2 (o.source % 1024) ++ leBytes 1 (b2n r.phase + 2 * b2n (decide (1 < count))) ++ leBytes 1 o.isl
  ++ leBytes 4 count ++ leBytes 8 o.detail ++ leBytes 4 r.seq ++ leBytes 4 o.detail2

/-- A record of `count` occurrences is written to the ring of its source's function, with its pin and its message. -/
def Device.writeRecord (d : Device) (o : Occurrence) (count : Nat) : Device :=
  let cfg := d.eventConfig o.source
  let f := bits cfg 29 25
  let r := d.evRing f
  let tail := d.get (Obj.erRingTail f)
  let next := (tail + 1) % d.get (Obj.erRingEntries f)
  let d := d.dmaWrite f (d.get (Obj.erRingBase f) + 32 * tail) (recordBytes o count r) false
  let d := ((d.put (Obj.erRingTail f) next).bump Obj.evRecordsWritten).tallyPlain islMGT 1 1
  let d : Device := { d with ev := { d.ev with writtenAt := some (d.cycleOf islMGT) } }
  let r' : EvRing := { phase := if next = 0 then !r.phase else r.phase, seq := (r.seq + 1) % 2 ^ 32 }
  let d : Device := { d with ev := { d.ev with rings := d.ev.rings.set (fun _ => {}) f r' } }
  let d := d.tallyPlain islMGT 2 1
  let d := if bit cfg 30 then (d.put Obj.evIntStatus 1).intPin else d
  d.msixEvery f (bits cfg 7 0) (us (d.get (Obj.erModerationUs f)))

/-- The last occurrence that a slot of a key holds. -/
def Pending.last (p : Pending) (k : Nat) : Occurrence :=
  ⟨keySource k, k % 65536, p.isl, p.time, p.detail, p.detail2, p.arrived⟩

/-- What a queue entry's record carries when `rest` is still queued: the entry and what its key's slot counts, with the fields
of the last of them (Table 13-2).  Where occurrences of the key are queued that arrived before those the slot counts, the entry
goes alone, so that records keep the order of arrival (R358). -/
def entryCarries (o : Occurrence) (p : Pending) (rest : List Occurrence) : Option Pending :=
  let k := limiterKey o
  if p.count = 0 ∨ (o.arrived < p.arrived ∧ rest.any (fun x => limiterKey x == k)) then none else some (p.take o)

/-- A queue entry's record. -/
def Device.writeEntry (d : Device) (o : Occurrence) : Device :=
  let k := limiterKey o
  match entryCarries o (d.slotOf k) d.ev.queue with
  | some p => (d.setSlotOf k {}).writeRecord (p.last k) p.count
  | none => d.writeRecord o 1

/-- The head of the queue whose ring has room is written; the entries before it are folded.  An entry whose source is no longer
enabled makes no record and is not folded (R359, log entry 51). -/
def Device.writeQueue : List Occurrence → Device → Device
  | [], d => { d with ev := { d.ev with queue := [] } }
  | o :: rest, d =>
    let f := d.routeOf o.source
    if !d.sourceOn o.source then Device.writeQueue rest d
    else if d.ringOn f && d.ringRoom f then
      Device.writeEntry { d with ev := { d.ev with queue := rest } } o
    else Device.writeQueue rest (d.fold o)

/-- The first ready pending slot, in ascending source and instance. -/
def Device.readySlot (d : Device) : Option (Nat × Pending) :=
  d.ev.pending.find? (fun e =>
    let f := d.routeOf (keySource e.1)
    decide (0 < e.2.count) && d.sourceOn (keySource e.1) && d.limitOpen e.1 && d.ringOn f && d.ringRoom f
    && !d.ev.queue.any (fun x => limiterKey x == e.1))

/-- A ready pending slot's record; a limited key's next is 1 ms away (R356). -/
def Device.writeSlot (d : Device) (k : Nat) (p : Pending) : Device :=
  let d := d.setSlotOf k {}
  let d : Device :=
    if limitedSource (keySource k) then { d with ev := { d.ev with lastRecord := d.ev.lastRecord.put k d.now } } else d
  d.writeRecord (p.last k) p.count

/-- The record writer writes one record, from the queue and the ready slots in turn (R358). -/
def Device.recordWrite (d : Device) : Device :=
  let turn := fun (b : Bool) (d : Device) => { d with ev := { d.ev with fromQueue := b } }
  match d.readySlot with
  | some (k, p) =>
    if d.ev.fromQueue ∧ !d.ev.queue.isEmpty then turn false (d.writeQueue d.ev.queue)
    else turn true (d.writeSlot k p)
  | none => turn false (d.writeQueue d.ev.queue)

/-- Whether 20 MGT cycles have passed since the last record (R358). -/
def Device.writerFree (d : Device) : Bool :=
  match d.ev.writtenAt with
  | some c => decide (c + 20 ≤ d.cycleOf islMGT)
  | none => true

/-- EVENT_RECORD_WRITE (R358). -/
def execEventRecordWrite (s : State) : Host.Outcome State Fault Refusal :=
  if s.d.writerFree then .next { s with d := s.d.recordWrite } else .next s

/-- A write of an event ring's RING_ENABLE that is accepted (R362). -/
def Device.eventRingSet (d : Device) (f v : Nat) : Device :=
  let d := d.put (Obj.erRingEnable f) v
  if v = 1 then
    let d := (d.put (Obj.erRingTail f) 0).put (Obj.erRingHead f) 0
    { d with ev := { d.ev with rings := d.ev.rings.drop f } }
  else d

/-- A write of 1 to INT_ACK (R365). -/
def Device.ackInt (d : Device) : Device := (d.put Obj.evIntStatus 0).intPin

/-! ### Counter banks (R366, R368 to R370) -/

/-- COUNTER_WRAP (R369): the report of a wrap sets its sticky bit. -/
def Device.noteWrap (d : Device) (b n : Nat) : Device :=
  if d.ev.wraps.contains (b, n) then
    let d : Device := { d with ev := { d.ev with wraps := d.ev.wraps.erase (b, n) } }
    d.put (Obj.bankOverflow b) (setBit (d.get (Obj.bankOverflow b)) n true)
  else d

/-- COUNTER_WRAP (R369). -/
def execCounterWrap (bank : Fin 25) (counter : Fin 512) (s : State) : Host.Outcome State Fault Refusal :=
  .next { s with d := s.d.noteWrap bank counter }

/-- A bank's cycles and counters are copied at one cycle (R370). -/
def Device.snapBank (d : Device) (b : Nat) : Device :=
  let keep := d.ev.snaps.filter (fun e => e.1 / 512 != b)
  let snaps := (d.ev.counters.filter (fun e => e.1 / 512 == b)).foldl (fun l e => Assoc.put l e.1 e.2) keep
  { d with ev := { d.ev with snaps := snaps, snapCycles := d.ev.snapCycles.set (fun _ => 0) b (d.bankCyclesOf b) } }

/-! ### The sample ring (R376) -/

/-- A write of SRING_ENABLE that is accepted. -/
def Device.sringSet (d : Device) (v : Nat) : Device :=
  let d := d.put Obj.sringEnable v
  if v = 1 then
    let d := (d.put Obj.sringTail 0).put Obj.sringHead 0
    { d with ev := { d.ev with sringPhase := true } }
  else d

/-- A record with the ring's PHASE. -/
def phased (phase : Bool) (b : Bytes) : Bytes := b.set 10 (byte (byteAt b 10 + 64 * b2n phase))

/-- Completed records are drained until none is left or the ring is full. -/
def Device.drainSamples (c : Nat) : List Bytes → Device → Device
  | [], d => d.setSampler c { d.sampler c with buffer := [] }
  | b :: rest, d =>
    let tail := d.get Obj.sringTail
    let next := (tail + 1) % d.get Obj.sringEntries
    if next = d.get Obj.sringHead then
      ((d.setSampler c { d.sampler c with buffer := b :: rest }).bump Obj.sringStalls).fire islMGT 18 c
    else
      let d := (d.dmaWrite 0 (d.get Obj.sringBase + 32 * tail) (phased d.ev.sringPhase b) false).put Obj.sringTail next
      let d := d.tallyPlain islMGT 2 1
      let d : Device := if next = 0 then { d with ev := { d.ev with sringPhase := !d.ev.sringPhase } } else d
      Device.drainSamples c rest d

/-- Whether a cluster that runs drains now: 64 completed records, or 100 µs since its last drain, unless Barometer defers. -/
def Device.drainsNow (d : Device) (c : Nat) : Bool :=
  d.dataRuns && !d.stopped c && d.get Obj.sringEnable == 1 && d.dmaOk 0 && decide (d.level = 0)
  && (decide (64 ≤ (d.sampler c).buffer.length) || decide (d.ev.drainAt.getD (fun _ => 0) c + us 100 ≤ d.now))

/-- SAMPLE_DRAIN (R376). -/
def execSampleDrain (c : Fin 16) (s : State) : Host.Outcome State Fault Refusal :=
  if s.d.drainsNow c then
    let d : Device := { s.d with ev := { s.d.ev with drainAt := s.d.ev.drainAt.set (fun _ => 0) c s.d.now } }
    .next { s with d := d.drainSamples c (d.sampler c).buffer }
  else .next s

end Sys2Proof.Machine
end

