-- ==== Sys2Proof/Machine/Sha2.lean ====
section
/-!
DEFINITION. The SHA-2 hashes (FIPS 180-4), HMAC (RFC 2104), HKDF with SHA-256 (RFC 5869) and the mask generation function
MGF1 (RFC 8017), which the spec names for trailers, measurements, keys and signatures.  One definition serves SHA-256 and
SHA-512; words are natural numbers.
-/
namespace Sys2Proof.Machine

/-- What tells one hash of the family from another: its word width, its rounds, the rotations of its two large sums, and
the two rotations and the shift of its two small ones. -/
structure Sha2 where
  width : Nat
  rounds : Nat
  large0 : Nat × Nat × Nat
  large1 : Nat × Nat × Nat
  small0 : Nat × Nat × Nat
  small1 : Nat × Nat × Nat
  deriving DecidableEq, Repr

/-- SHA-256. -/
def sha256Of : Sha2 := ⟨32, 64, (2, 13, 22), (6, 11, 25), (7, 18, 3), (17, 19, 10)⟩

/-- SHA-512. -/
def sha512Of : Sha2 := ⟨64, 80, (28, 34, 39), (14, 18, 41), (1, 8, 7), (19, 61, 6)⟩

/-- The first 64 bits of the fractional parts of the cube roots of the first 80 primes, the first of them highest. -/
def cubeRoots : Nat :=
  0x428a2f98d728ae227137449123ef65cdb5c0fbcfec4d3b2fe9b5dba58189dbbc3956c25bf348b53859f111f1b605d019923f82a4af194f9bab1c5ed5da6d8118d807aa98a303024212835b0145706fbe243185be4ee4b28c550c7dc3d5ffb4e272be5d74f27b896f80deb1fe3b1696b19bdc06a725c71235c19bf174cf692694e49b69c19ef14ad2efbe4786384f25e30fc19dc68b8cd5b5240ca1cc77ac9c652de92c6f592b02754a7484aa6ea6e4835cb0a9dcbd41fbd476f988da831153b5983e5152ee66dfaba831c66d2db43210b00327c898fb213fbf597fc7beef0ee4c6e00bf33da88fc2d5a79147930aa72506ca6351e003826f142929670a0e6e7027b70a8546d22ffc2e1b21385c26c9264d2c6dfc5ac42aed53380d139d95b3df650a73548baf63de766a0abb3c77b2a881c2c92e47edaee692722c851482353ba2bfe8a14cf10364a81a664bbc423001c24b8b70d0f89791c76c51a30654be30d192e819d6ef5218d69906245565a910f40e35855771202a106aa07032bbd1b819a4c116b8d2d0c81e376c085141ab532748774cdf8eeb9934b0bcb5e19b48a8391c0cb3c5c95a634ed8aa4ae3418acb5b9cca4f7763e373682e6ff3d6b2b8a3748f82ee5defb2fc78a5636f43172f6084c87814a1f0ab728cc702081a6439ec90befffa23631e28a4506cebde82bde9bef9a3f7b2c67915c67178f2e372532bca273eceea26619cd186b8c721c0c207eada7dd6cde0eb1ef57d4f7fee6ed17806f067aa72176fba0a637dc5a2c898a6113f9804bef90dae1b710b35131c471b28db77f523047d8432caab7b40c724933c9ebe0a15c9bebc431d67c49c100d4c4cc5d4becb3e42b6597f299cfc657e2a5fcb6fab3ad6faec6c44198c4a475817

/-- The first 64 bits of the fractional parts of the square roots of the first 8 primes, the first of them highest. -/
def squareRoots : Nat :=
  0x6a09e667f3bcc908bb67ae8584caa73b3c6ef372fe94f82ba54ff53a5f1d36f1510e527fade682d19b05688c2b3e6c1f1f83d9abfb41bd6b5be0cd19137e2179

/-- The constant of round `i`: the leading bits of the cube root. -/
def Sha2.constant (p : Sha2) (i : Nat) : Nat := (cubeRoots >>> (64 * (80 - i) - p.width)) % 2 ^ p.width

/-- Word `i` of the initial hash value. -/
def Sha2.initial (p : Sha2) (i : Nat) : Nat := (squareRoots >>> (64 * (8 - i) - p.width)) % 2 ^ p.width

/-- A word rotated right. -/
def Sha2.rotr (p : Sha2) (n x : Nat) : Nat := (x >>> n) ||| ((x <<< (p.width - n)) % 2 ^ p.width)

/-- A large sum: three rotations. -/
def Sha2.large (p : Sha2) (r : Nat × Nat × Nat) (x : Nat) : Nat := p.rotr r.1 x ^^^ p.rotr r.2.1 x ^^^ p.rotr r.2.2 x

/-- A small sum: two rotations and a shift. -/
def Sha2.small (p : Sha2) (r : Nat × Nat × Nat) (x : Nat) : Nat := p.rotr r.1 x ^^^ p.rotr r.2.1 x ^^^ (x >>> r.2.2)

/-- One round: the eight working words, and the next sixteen words of the message schedule, oldest first. -/
def Sha2.round (p : Sha2) (s : List Nat × List Nat) (i : Nat) : List Nat × List Nat :=
  match s with
  | ([a, b, c, d, e, f, g, h], w) =>
    let t := h + p.large p.large1 e + (g ^^^ (e &&& (f ^^^ g))) + p.constant i + w.headD 0
    let u := p.large p.large0 a + ((a &&& b) ||| (c &&& (a ||| b)))
    let next := p.small p.small1 (w.getD 14 0) + w.getD 9 0 + p.small p.small0 (w.getD 1 0) + w.headD 0
    ([(t + u) % 2 ^ p.width, a, b, c, (d + t) % 2 ^ p.width, e, f, g], w.tail ++ [next % 2 ^ p.width])
  | s => s

/-- One block into a hash value. -/
def Sha2.compress (p : Sha2) (h : List Nat) (block : Bytes) : List Nat :=
  let s := (List.range p.rounds).foldl p.round (h, (chunks (p.width / 8) block).map beNat)
  List.zipWith (fun x y => (x + y) % 2 ^ p.width) h s.1

/-- A message with its padding: a 1 bit, zeros, and its length in bits in two words. -/
def Sha2.padded (p : Sha2) (m : Bytes) : Bytes :=
  let block := 2 * p.width
  let tail := p.width / 4
  m ++ 0x80 :: zeros ((block - (m.length + 1 + tail) % block) % block) ++ beBytes tail (8 * m.length)

/-- The hash of a message. -/
def Sha2.hash (p : Sha2) (m : Bytes) : Bytes :=
  ((chunks (2 * p.width) (p.padded m)).foldl p.compress ((List.range 8).map p.initial)).flatMap (beBytes (p.width / 8))

/-- HMAC under one of the hashes. -/
def Sha2.hmac (p : Sha2) (key m : Bytes) : Bytes :=
  let block := 2 * p.width
  let k := fit block (if key.length ≤ block then key else p.hash key)
  let keyed := fun (pad : Byte) (x : Bytes) => p.hash (k.map (fun b => b ^^^ pad) ++ x)
  keyed 0x5c (keyed 0x36 m)

/-- MGF1 to `n` bytes under one of the hashes. -/
def Sha2.mask (p : Sha2) (seed : Bytes) (n : Nat) : Bytes :=
  ((List.range (ceilDiv n p.width + 1)).flatMap (fun i => p.hash (seed ++ beBytes 4 i))).take n

/-- SHA-256. -/
def sha256 (m : Bytes) : Bytes := sha256Of.hash m

/-- HMAC-SHA-256. -/
def hmac (key m : Bytes) : Bytes := sha256Of.hmac key m

/-- HKDF-Extract. -/
def hkdfExtract (salt ikm : Bytes) : Bytes := hmac salt ikm

/-- The blocks T(i+1) … of HKDF-Expand. -/
def hkdfBlocks (prk info : Bytes) : Nat → Nat → Bytes → Bytes
  | 0, _, _ => []
  | n + 1, i, prev =>
    let t := hmac prk (prev ++ info ++ [byte i])
    t ++ hkdfBlocks prk info n (i + 1) t

/-- HKDF-Expand to `n` bytes. -/
def hkdfExpand (prk info : Bytes) (n : Nat) : Bytes := (hkdfBlocks prk info (ceilDiv n 32) 1 []).take n

/-- HKDF (extract, then expand). -/
def hkdf (salt ikm info : Bytes) (n : Nat) : Bytes := hkdfExpand (hkdfExtract salt ikm) info n

end Sys2Proof.Machine
end

