-- ==== Sys2Proof/Machine/Operands.lean ====
section
/-!
DEFINITION. The operand forms of the commands that carry bytes: Kaznu messages (Tables 2-7 to 2-12) and the responses
their transports take back (R73, R75, R459), and the frames that enter admission at a named queue (R297).
-/
namespace Sys2Proof.Machine

/-! ### Response codes (Table 2-10) -/

/-- The response codes. -/
inductive Code where
  | ok | noObject | noSub | type | range | access | locked | busy | auth | state | pending
  deriving DecidableEq, Repr

/-- The number of a code. -/
def Code.num (c : Code) : Nat :=
  match c with
  | .ok => 0 | .noObject => 1 | .noSub => 2 | .type => 3 | .range => 4 | .access => 5 | .locked => 6 | .busy => 7
  | .auth => 8 | .state => 9 | .pending => 10

/-! ### Requests (Tables 2-7 to 2-9) -/

/-- A Kaznu request: its header's fields, its payload and whether its form passes the first check of Table 2-10. -/
structure Request where
  op : Nat := 0
  session : Nat := 0xFF
  seq : Nat := 0
  index : Nat := 0
  sub : Nat := 0
  aux : Nat := 0
  payload : Bytes := []
  formOk : Bool := false
  deriving DecidableEq, Repr

/-- READ of Table 2-8. -/
def opREAD : Nat := 1
/-- WRITE. -/
def opWRITE : Nat := 2
/-- READ_BLOCK. -/
def opREADBLOCK : Nat := 3
/-- WRITE_BLOCK. -/
def opWRITEBLOCK : Nat := 4
/-- COMMIT. -/
def opCOMMIT : Nat := 5
/-- STATUS. -/
def opSTATUS : Nat := 6

/-- The largest payload of a transport: mailbox 4,080 (R73), management ports and in band 1,024. -/
def Source.payloadMax (s : Source) : Nat :=
  match s with
  | .mailbox _ => 4080
  | _ => 1024

/-- The SESSION a message of a source carries (Table 2-7). -/
def Source.sessionField (s : Source) : Nat :=
  match s with
  | .session n _ _ => n
  | _ => 0xFF

/-- The bytes of a message that a source's transport delivered after the header, without a trailer. -/
def Source.body (s : Source) (msg : Bytes) : Bytes :=
  match s with
  | .session _ _ _ => (msg.drop 16).take (msg.length - 32)
  | _ => msg.drop 16

/-- The AUX bits a request of an opcode may set (Table 2-9). -/
def auxAllowed (op : Nat) : Nat :=
  if op = opREAD ∨ op = opSTATUS then 1 else if op = opWRITEBLOCK then 2 else 0

/-- A request as its transport delivered it.  On the mailbox the payload is LENGTH bytes of the request buffer; in band
it is the LENGTH bytes after the header (R459); on a management port it is all that stands before the trailer. -/
def parseRequest (src : Source) (msg : Bytes) : Request :=
  let op := byteAt msg 1 % 16
  let aux := byteAt msg 11
  let len := beAt msg 12 2
  let body := src.body msg
  let lenOk := match src with
    | .session _ _ _ => len == body.length
    | .mailbox _ => true
    | .inband _ _ _ _ => decide (len ≤ body.length)
  let index := beAt msg 8 2
  let sub := byteAt msg 10
  let placed := op != opCOMMIT && (op != opSTATUS || aux % 2 == 1) || (index == 0 && sub == 0)
  { op := op, session := byteAt msg 2, seq := beAt msg 4 4, index := index, sub := sub, aux := aux
    payload := fit len body
    formOk := byteAt msg 0 == 1 && byteAt msg 1 / 16 == 0 && decide (1 ≤ op) && decide (op ≤ 6) && byteAt msg 3 == 0
      && (aux &&& (255 - auxAllowed op)) == 0 && beAt msg 14 2 == 0 && placed
      && byteAt msg 2 == src.sessionField && decide (len ≤ src.payloadMax) && lenOk }

/-- The request of a waiting message. -/
def Waiting.request (w : Waiting) : Request := parseRequest w.src w.msg

/-- The master a source acts as (Table 3-1). -/
def Source.master (s : Source) : Nat :=
  match s with
  | .mailbox fn => 4096 + fn
  | .session n _ _ => 4128 + n
  | .inband t _ _ _ => t

/-- Whether a source is in band. -/
def Source.isInband (s : Source) : Bool :=
  match s with
  | .inband _ _ _ _ => true
  | _ => false

/-- The number a written value spells in a payload (Table 2-2): text is padded with zero bytes. -/
def valueOf (ty : ObjTy) (b : Bytes) : Nat :=
  match ty with
  | .text n => beNat (fit n b)
  | _ => beNat b

/-- The value a WRITE stores in a subindex: the reserved bits of a CLASS_MASK are ignored and read zero (R2, Table 3-5). -/
def ObjRow.value (r : ObjRow) (b : Bytes) : Nat :=
  if r.first = 0x1100 ∧ r.ty = .bits 16 then valueOf r.ty b % 2 ^ 14 else valueOf r.ty b

/-- The size of a value of a type in a payload (Table 2-2); of a domain, its granule. -/
def ObjTy.size (t : ObjTy) : Nat :=
  match t with
  | .bool => 1 | .u8 => 1 | .u16 => 2 | .u32 => 4 | .i32 => 4 | .u64 => 8 | .i64 => 8 | .time => 8 | .bits _ => 8
  | .octets n => n | .text n => n | .domain _ g => g

/-- The type code of Table 2-2. -/
def ObjTy.code (t : ObjTy) : Nat :=
  match t with
  | .bool => 1 | .u8 => 2 | .u16 => 3 | .u32 => 4 | .u64 => 5 | .i32 => 6 | .i64 => 7 | .bits _ => 8 | .octets _ => 9
  | .text _ => 10 | .domain _ _ => 11 | .time => 13

/-- The access code of Table 2-3. -/
def Access.code (a : Access) : Nat :=
  match a with
  | .ro => 1 | .rw => 2 | .rws => 3 | .wo => 4 | .wos => 5 | .w1r => 6 | .w1f => 7 | .rm => 8

/-! ### Responses -/

/-- The header of a response (Table 2-7). -/
def responseHeader (r : Request) (session : Nat) (code : Code) (aux age len : Nat) : Bytes :=
  [byte 1, byte (0x80 + r.op % 16), byte session, byte code.num] ++ beBytes 4 r.seq ++ beBytes 2 r.index
  ++ [byte r.sub, byte aux] ++ beBytes 2 len ++ beBytes 2 age

/-- A response: its code, AUX, AGE and payload. -/
structure Response where
  code : Code
  aux : Nat := 0
  age : Nat := 0
  payload : Bytes := []
  deriving DecidableEq, Repr

/-- A response message to a request of a source. -/
def Response.message (x : Response) (src : Source) (r : Request) : Bytes :=
  responseHeader r src.sessionField x.code x.aux x.age x.payload.length ++ x.payload

/-! ### Frames that enter admission at a named queue (R297) -/

/-- A frame made inside the device enters admission with a destination port and queue, in a port group's pipeline, and
is stamped there (R243). -/
def Device.admitDirect (d : Device) (pipe : Nat) (f : Frame) (dest : Nat × Nat) : Device :=
  let r := d.newFrame islSWC { f with pg := pipe, parity := d.swcParity, stage := .admitting, direct := some dest }
  r.1.setPg pipe { r.1.pgs pipe with admitting := (r.1.pgs pipe).admitting ++ [r.2] }

/-- The queues 0 to 65,471 enabled under a port at SWC's parity, that are listed in the dictionary. -/
def Device.queuesUnder (d : Device) (p : Nat) : List Nat :=
  let c := (d.ptr islSWC).copy (d.ptr islSWC).parity 9
  let listed := ((if c then d.dict.mem1 else d.dict.mem0).filter (fun e =>
    e.1 / 2 ^ 32 == Obj.domSchedQueues && e.1 % 16 == 0)).map (fun e => e.1 % 2 ^ 32 / 16)
  listed.filter (fun q => d.queueUnder (d.ptr islSWC).parity q p)

/-- The queue of an in-band response: the spec names the port it leaves by and no queue, so a queue under that port is a
free choice; where none stands under it, so is the queue named (log entry 16). -/
def Device.inbandQueue (d : Device) (p : Nat) : Device × Nat :=
  let r := d.takeFree
  match d.queuesUnder p with
  | [] => (r.2, r.1 % 65472)
  | q :: qs => (r.2, (q :: qs).getD (r.1 % (q :: qs).length) q)

/-- A response in band (R459): a frame to the requester that leaves by the port the request arrived on. -/
def Device.inbandResponse (d : Device) (port cls : Nat) (head msg : Bytes) : Device :=
  let bytes := slice head 6 6 ++ slice head 0 6 ++ head.drop 12 ++ msg
  let bytes := bytes ++ zeros (60 - bytes.length)
  let r := d.inbandQueue port
  r.1.admitDirect (port / 32) { bytes := bytes, port := 131, origin := 131, cls := cls } (port, r.2)

/-- A response is kept and sent by a session (R75): header, payload and trailer. -/
def Device.sessionResponse (d : Device) (n mport addr : Nat) (msg : Bytes) : Device :=
  let x := d.session n
  match x.key with
  | none => d.setSession n { x with executing := none }
  | some key =>
    let m := msg ++ (hmac key msg).take 16
    ((d.setSession n { x with executing := none, kept := some m }).bump (Obj.sessionRequests n)).emit (.kaznu mport addr m)

/-- A response reaches a mailbox (Table 2-16, R407). -/
def Device.mailboxResponse (d : Device) (fn : Nat) (msg : Bytes) : Device :=
  let m := d.mailbox fn
  let d := d.setMailbox fn { m with state := 2, completions := (m.completions + 1) % 65536, response := msg }
  if m.irqEn then d.sendMsix fn (d.get (Obj.mbVector fn)) else d

/-- A response to a request that was taken; one that its source no longer waits for is discarded (Tables 2-16, 8-5). -/
def Device.respond (d : Device) (w : Waiting) (x : Response) : Device :=
  if w.discard then d
  else
    let msg := x.message w.src w.request
    match w.src with
    | .mailbox fn => d.mailboxResponse fn msg
    | .session n mport addr => d.sessionResponse n mport addr msg
    | .inband _ port cls head => d.inbandResponse port cls head msg

end Sys2Proof.Machine
end

