-- ==== Sys2Proof/Machine/Fronts.lean ====
section
/-!
DEFINITION. Generation fronts (chapter 08): the flip, the front's way through the islands, the census, expiry and release
(Table 8-3), and what a flip does to security associations (R253, R280).
-/
namespace Sys2Proof.Machine

/-! ### The flip (R237, R253, R280) -/

/-- The pointer after a flip: COPY_n is the complement of COPY_c for the groups named, and equal to it for the others. -/
def IslPtr.flipped (p : IslPtr) (mask : Nat) : IslPtr :=
  if p.parity then { p with parity := false, copyEven := p.copyOdd ^^^ mask }
  else { p with parity := true, copyOdd := p.copyEven ^^^ mask }

/-- An SA's configuration part in a storage copy (Table 9-1). -/
def Device.saRecord (d : Device) (c : Bool) (s : Nat) : Bytes := d.copyRead c Obj.domSaTable (32 * s) 32

/-- An SA's key material in a storage copy (Table 9-2). -/
def Device.saKeys (d : Device) (c : Bool) (s : Nat) : Bytes := d.copyRead c Obj.domSaKeys (128 * s) 128

/-- The SAs that have a listed byte in either copy, or a delivered key that waits. -/
def Device.saListed (d : Device) : List Nat :=
  let of := fun (l : Assoc Byte) => l.filterMap (fun e =>
    if e.1 / 2 ^ 32 = Obj.domSaTable then some (e.1 % 2 ^ 32 / 32)
    else if e.1 / 2 ^ 32 = Obj.domSaKeys then some (e.1 % 2 ^ 32 / 128) else none)
  (of d.dict.mem0 ++ of d.dict.mem1 ++ (d.cry.sas.filter (fun e => e.2.pendingEpoch.isSome)).map Prod.fst).eraseDups

/-- A flip from copy `a` to copy `b` meets an SA: KEY_SERIAL advances, and its threshold is armed again, where its
configuration or key changes (Table 9-3); its dynamic state is reset where its TYPE or key changes; and a delivered key becomes
current (R253, R280). -/
def Device.flipSa (d : Device) (a b : Bool) (s : Nat) : Device :=
  let x := d.saState s
  let ra := d.saRecord a s
  let rb := d.saRecord b s
  let keyed := d.saKeys a s != d.saKeys b s
  let changed := keyed || ra != rb
  if !changed ∧ x.pendingEpoch.isNone then d
  else
    let fresh := keyed || byteAt ra 0 / 16 != byteAt rb 0 / 16
    let mark := d.get (if bit (byteAt rb 0) 2 then Obj.threshold64 else Obj.threshold32)
    let y : SaState := if changed then { x with serial := (x.serial + 1) % 2 ^ 32, mark := mark, warned := false } else x
    let y := if fresh then { y with tx := 1, rxHigh := 0, accepted := [], waiting := [], exhausted := false } else y
    let d : Device := if fresh then { d with cry := { d.cry with oldSas := d.cry.oldSas.put s x } } else d
    match x.pendingEpoch with
    | some e => (d.setSa s { y with isSealed := true, epoch := e, pendingEpoch := none }).fire islCRY 514 s
    | none => d.setSa s y

/-- The in-band bucket is full from the moment a new rate takes effect (R77); it is kept in 10⁻⁹ requests. -/
def fullBucket : Nat := 64000000000

/-- Sequencer preparation completes: the pointer flips, MGT takes its objects, the COMMIT is answered (Table 8-3, row
PREPARE). -/
def Device.flip (d : Device) : Device :=
  let old := d.ptr islMGT
  let mask := d.front.mask
  let rate := d.active Obj.inbandRate
  let d := (d.put Obj.generation ((d.get Obj.generation + 1) % 2 ^ 64)).setPointer islMGT (old.flipped mask)
  let d := (((d.put Obj.draining 1).put Obj.frontLastFlipTime d.now).put Obj.frontPhase 2).bump Obj.frontFronts
  let d : Device := { d with front := { d.front with acks := [], finals := [], oldParity := old.parity } }
  let d := if bit mask 7 then
      d.saListed.foldl (fun d s => d.flipSa (old.copy old.parity 7) (d.activeCopy 7) s) d
    else d
  let d : Device := if d.active Obj.inbandRate = rate then d
    else { d with svc := { d.svc with bucket := fullBucket, bucketAt := d.now } }
  match d.svc.committing with
  | some w =>
    let d : Device := { d with svc := { d.svc with committing := none } }
    d.respond w { code := .ok, payload := beBytes 8 (d.get Obj.generation) }
  | none => d

/-- FRONT_FLIP (R237). -/
def execFrontFlip (s : State) : Host.Outcome State Fault Refusal :=
  if s.d.get Obj.frontPhase = 1 then .next { s with d := s.d.flip } else .next s

/-! ### The way through the islands (R239 to R242) -/

/-- The islands a phase sends the front to: EC0-EC15, SWC, SRH, CRY and MEM, then PG0-PG3. -/
def frontIslands (phase : Nat) : List Nat := if phase = 2 then List.range 16 ++ [20, 21, 22, 23] else [16, 17, 18, 19]

/-- The running islands of the phase that have not acknowledged. -/
def Device.unheard (d : Device) : List Nat :=
  (frontIslands (d.get Obj.frontPhase)).filter (fun i => !d.front.acks.contains i && !d.stopped i)

/-- LOW_FREE of a pool follows a POOL_SIZE that leaves it fewer free cells (0x7010.05). -/
def Device.poolShrunk (d : Device) (p : Nat) : Device :=
  if d.poolFree p < d.get (Obj.poolLowFree p) then d.put (Obj.poolLowFree p) (d.poolFree p) else d

/-- A port in TRAINING whose TRAINING is 0 now goes on to ALIGNING (Table 4-4, R112). -/
def Device.skipTraining (d : Device) (p : Nat) : Device :=
  if d.link p = lkTRAINING ∧ d.arr (portIsl p) (Obj.portTraining p) = 0 then d.align p else d

/-- The acknowledgement of an island that stamps frames carries its final old-parity entry count (R243). -/
def Device.noteFinal (d : Device) (isl : Nat) : Device :=
  if stampers.contains isl then
    { d with front := { d.front with finals := d.front.finals.put isl (d.entriesAt isl d.front.oldParity) } }
  else d

/-- The front reaches an island: it takes the pointer, and a port group the quad modes and TRAINING it now holds (R107,
R112). -/
def Device.arrive (d : Device) (isl : Nat) : Device :=
  let quads := if 16 ≤ isl ∧ isl < 20 then (List.range 8).map (fun i => 8 * (isl - 16) + i) else []
  let old := quads.map (fun q => (q, d.arr isl (Obj.quadMode q)))
  let d := ((d.countIsland isl).takePointer isl).noteFinal isl
  let d := if isl = islSWC then (List.range 32).foldl Device.poolShrunk d else d
  let d := old.foldl (fun d e => if d.arr isl (Obj.quadMode e.1) = e.2 then d else d.quadTaken e.1) d
  (quads.flatMap (fun q => (List.range 4).map (fun i => 4 * q + i))).foldl Device.skipTraining d

/-- FRONT_ARRIVAL (R239). -/
def execFrontArrival (isl : Fin 25) (s : State) : Host.Outcome State Fault Refusal :=
  let ph := s.d.get Obj.frontPhase
  if (ph = 2 ∨ ph = 3) ∧ s.d.unheard.contains isl.val then .next { s with d := s.d.arrive isl } else .next s

/-- FRONT_DISTRIBUTED (R240): every running island of the first step has acknowledged. -/
def execFrontDistributed (s : State) : Host.Outcome State Fault Refusal :=
  if s.d.get Obj.frontPhase = 2 ∧ s.d.unheard.isEmpty then .next { s with d := s.d.put Obj.frontPhase 3 } else .next s

/-! ### Expiry (R244) -/

/-- The expiry point: 100 µs before the drain bound. -/
def Device.expiryPoint (d : Device) : Nat := d.get Obj.frontLastCommitTime + us d.front.boundUs - us 100

/-- Old-parity frames that no thread has and that the switch core does not hold yet. -/
def Device.oldWaiting (d : Device) : List Nat :=
  (d.pkt.frames.filter (fun e => e.2.parity == d.front.oldParity
    && (e.2.stage == .merge || e.2.stage == .parser || e.2.stage == .decrypt || e.2.stage == .dispatchWait))).map Prod.fst

/-- Whether a copy's transmission has begun at a MAC. -/
def Device.onWire (d : Device) (i : Nat) : Bool :=
  decide ((d.copyRec i).port < 128) && d.transmitting (d.copyRec i).port == some i

/-- Copies of old-parity frames whose transmission has not begun. -/
def Device.oldCopies (d : Device) : List Nat :=
  (d.pkt.copies.filter (fun e => (d.frame e.2.frame).parity == d.front.oldParity && !d.onWire e.1)).map Prod.fst

/-- Expiry starts: what the parsers, the dispatch input and the switch core hold is removed; threads, results and frames
on their way meet it as they come (Table 8-4). -/
def Device.startExpiry (d : Device) : Device :=
  let d := d.bump Obj.frontFrontsExpired
  let d : Device := { d with front := { d.front with expiring := true } }
  let d := d.oldWaiting.foldl (fun d i => d.expireFrame i) d
  d.oldCopies.foldl (fun d i => d.expireCopy i) d

/-- PG0 to PG3 have acknowledged: the old-parity entry total is final. -/
def Device.stamped (d : Device) : Device :=
  let d := (d.put Obj.frontLastStampTime d.now).put Obj.frontPhase 4
  let d : Device := { d with front := { d.front with finalEntries := (stampers.map (fun i => d.finalOf i)).sum } }
  if d.expiryPoint ≤ d.now then d.startExpiry else d

/-- FRONT_STAMPED (R241). -/
def execFrontStamped (s : State) : Host.Outcome State Fault Refusal :=
  if s.d.get Obj.frontPhase = 3 ∧ s.d.unheard.isEmpty then .next { s with d := s.d.stamped } else .next s

/-- FRONT_STALL (R246): an island has been silent for 1 ms since the flip; once per front. -/
def execFrontStall (s : State) : Host.Outcome State Fault Refusal :=
  let d := s.d
  let ph := d.get Obj.frontPhase
  match d.unheard with
  | i :: is =>
    if (ph = 2 ∨ ph = 3) ∧ !d.front.stalled ∧ d.get Obj.frontLastFlipTime + oneMs ≤ d.now then
      let e := (d.bump Obj.frontStalls).fire islMGT 17 ((i :: is).foldl min i)
      .next { s with d := { e with front := { e.front with stalled := true } } }
    else .next s
  | [] => .next s

/-- FRONT_EXPIRED (R244): the expiry point is reached in DRAIN.  Where the census is at zero the row above it in Table 8-3 holds
(R10). -/
def execFrontExpired (s : State) : Host.Outcome State Fault Refusal :=
  if s.d.get Obj.frontPhase = 4 ∧ !s.d.front.expiring ∧ s.d.oldResident ≠ 0 ∧ s.d.expiryPoint ≤ s.d.now then
    .next { s with d := s.d.startExpiry }
  else .next s

/-! ### The census and release (R238, R243, R245) -/

/-- CENSUS_ZERO (R243). -/
def execCensusZero (s : State) : Host.Outcome State Fault Refusal :=
  if s.d.get Obj.frontPhase = 4 ∧ s.d.oldResident = 0 then .next { s with d := s.d.put Obj.frontPhase 5 } else .next s

/-- The entries of a copy after release: those of the groups whose other copy holds the committed values are replaced. -/
def releaseCopy {α : Type} (mine other : Assoc α) (replace : Nat → Bool) : Assoc α :=
  (other.filter (fun e => replace e.1)).foldl (fun l e => l.put e.1 e.2) (mine.filter (fun e => !replace e.1))

/-- For each named group the committed copy is copied into the other one (R238); `p` is the pointer after the flip. -/
def Dict.release (t : Dict) (p : IslPtr) (mask : Nat) : Dict :=
  let named := fun (committed : Bool) (g : Nat) => bit mask g && (p.copy p.parity g == committed)
  { t with
    copy0 := releaseCopy t.copy0 t.copy1 (fun k => named true (groupOf (k / 256)))
    copy1 := releaseCopy t.copy1 t.copy0 (fun k => named false (groupOf (k / 256)))
    mem0 := releaseCopy t.mem0 t.mem1 (fun k => named true (groupOf (k / 2 ^ 32)))
    mem1 := releaseCopy t.mem1 t.mem0 (fun k => named false (groupOf (k / 2 ^ 32))) }

/-- A pointer after release: both parities name the committed copies. -/
def IslPtr.released (p : IslPtr) : IslPtr := if p.parity then { p with copyEven := p.copyOdd } else { p with copyOdd := p.copyEven }

/-- A release of group 2 writes the committed copy's nodes into the other copy, those in error with them (R143, log entry
29). -/
def Device.graphReleased (d : Device) (p : IslPtr) (mask : Nat) : Device :=
  if bit mask 2 then
    let kept := d.pkt.graphErr.filter (fun k => (k / 256 % 2 == 1) == p.copy p.parity 2)
    { d with pkt := { d.pkt with graphErr := kept ++ kept.map (fun k => if k / 256 % 2 = 1 then k - 256 else k + 256) } }
  else d

/-- Release completes and the front returns to IDLE (R245); a stopped cluster takes the pointer when it runs again (R242). -/
def Device.released (d : Device) : Device :=
  let p := d.ptr islMGT
  let mask := d.front.mask
  let d := (d.releaseTables mask p.parity).graphReleased p mask
  let q := p.released
  let d : Device := { d with
    dict := d.dict.release p mask
    ptrs := (List.range 25).foldl (fun l i => if d.stopped i then l else l.set (fun _ => {}) i q) d.ptrs
    cry := { d.cry with oldSas := [] } }
  let took := (d.now - d.get Obj.frontLastCommitTime + 999) / 1000
  let d := ((d.put Obj.draining 0).put Obj.frontPhase 0).put Obj.frontLastDrainTime d.now
  let d := if d.get Obj.frontMaxDrainUs < took then d.put Obj.frontMaxDrainUs (min took (2 ^ 32 - 1)) else d
  let expired := d.front.expired
  let d : Device := { d with front := { d.front with acks := [], stalled := false, expiring := false, expired := 0 } }
  let d := d.fire islMGT 16 (d.get Obj.generation % 2 ^ 32)
  if expired = 0 then d else d.fire islMGT 611 (min expired (2 ^ 32 - 1))

/-- FRONT_DRAINED (R245). -/
def execFrontDrained (s : State) : Host.Outcome State Fault Refusal :=
  if s.d.get Obj.frontPhase = 5 then .next { s with d := s.d.released } else .next s

end Sys2Proof.Machine
end

