-- ==== Sys2Proof/Machine/Keccak.lean ====
section
/-!
DEFINITION. The Keccak sponge (FIPS 202), which ML-KEM's functions are built on: SHA3-256, SHA3-512, SHAKE128 and SHAKE256.
The state is one natural number of 1,600 bits, lane (x, y) at bit 64 (5 y + x).
-/
namespace Sys2Proof.Machine

/-- Lane (x, y) of a state. -/
def lane (s x y : Nat) : Nat := (s >>> (64 * (5 * (y % 5) + x % 5))) % 2 ^ 64

/-- The state with the lanes that `f` gives. -/
def lanes (f : Nat → Nat → Nat) : Nat :=
  (List.range 25).foldr (fun i a => a * 2 ^ 64 + f (i % 5) (i / 5)) 0

/-- A lane rotated towards its most significant bit. -/
def rotl64 (n x : Nat) : Nat := (x <<< n) % 2 ^ 64 ||| x >>> (64 - n)

/-- The rotation of lane (x, y), by the walk of FIPS 202 from (1, 0): step t turns (x, y) into (y, 2x + 3y). -/
def laneTurn (x y : Nat) : Nat :=
  let walk := (List.range 24).foldl (fun (s : Nat × Nat × Nat) t =>
    if s.1 = x ∧ s.2.1 = y then (5, 5, (t + 1) * (t + 2) / 2 % 64)
    else if s.1 = 5 then s else (s.2.1, (2 * s.1 + 3 * s.2.1) % 5, 0)) (1, 0, 0)
  walk.2.2

/-- The rotations of the 25 lanes. -/
def laneTurns : List Nat := (List.range 25).map (fun i => laneTurn (i % 5) (i / 5))

/-- The register of the round constants after `n` shifts. -/
def roundRegister : Nat → Nat
  | 0 => 1
  | n + 1 => let r := roundRegister n * 2; if r < 256 then r else (r ^^^ 0x171)

/-- The constant of a round: bit 2^j - 1 is the register's output at step 7 i + j. -/
def roundConstant (i : Nat) : Nat :=
  (List.range 7).foldl (fun a j => a ||| (roundRegister (7 * i + j) % 2) <<< (2 ^ j - 1)) 0

/-- The constants of the 24 rounds. -/
def roundConstants : List Nat := (List.range 24).map roundConstant

/-- One round. -/
def keccakRound (s rc : Nat) : Nat :=
  let column := (List.range 5).map (fun x => (List.range 5).foldl (fun a y => a ^^^ lane s x y) 0)
  let parity := (List.range 5).map (fun x => column.getD ((x + 4) % 5) 0 ^^^ rotl64 1 (column.getD ((x + 1) % 5) 0))
  let mixed := lanes (fun x y => lane s x y ^^^ parity.getD x 0)
  let moved := lanes (fun x y => rotl64 (laneTurns.getD (5 * x + (x + 3 * y) % 5) 0) (lane mixed (x + 3 * y) x))
  lanes (fun x y => lane moved x y ^^^ ((2 ^ 64 - 1 - lane moved (x + 1) y) &&& lane moved (x + 2) y)) ^^^ rc

/-- The permutation. -/
def keccak (s : Nat) : Nat := roundConstants.foldl keccakRound s

/-- A message in blocks of `rate` bytes, with its suffix bits and the padding. -/
def spongeBlocks (rate : Nat) (suffix : Byte) (m : Bytes) : List Bytes :=
  let n := rate - m.length % rate
  let tail := suffix :: zeros (n - 1)
  chunks rate (m ++ tail.set (n - 1) (tail.getD (n - 1) 0 ^^^ 0x80))

/-- The blocks that a state gives out. -/
def squeeze (rate : Nat) : Nat → Nat → Bytes
  | 0, _ => []
  | n + 1, s => leBytes rate s ++ squeeze rate n (keccak s)

/-- The sponge: `n` bytes from a message. -/
def sponge (rate : Nat) (suffix : Byte) (m : Bytes) (n : Nat) : Bytes :=
  (squeeze rate (ceilDiv n rate) ((spongeBlocks rate suffix m).foldl (fun s b => keccak (s ^^^ leNat b)) 0)).take n

/-- SHA3-256. -/
def sha3x256 (m : Bytes) : Bytes := sponge 136 0x06 m 32

/-- SHA3-512. -/
def sha3x512 (m : Bytes) : Bytes := sponge 72 0x06 m 64

/-- SHAKE128. -/
def shake128 (m : Bytes) (n : Nat) : Bytes := sponge 168 0x1F m n

/-- SHAKE256. -/
def shake256 (m : Bytes) (n : Nat) : Bytes := sponge 136 0x1F m n

end Sys2Proof.Machine
end

