-- ==== Sys2Proof/Machine/MlKem.lean ====
section
/-!
DEFINITION. ML-KEM-768 (FIPS 203): the encapsulation key of a seed and the decapsulation of a ciphertext, by which a tenant
delivers keys (R280, R391).  A polynomial is a list of 256 coefficients modulo 3329.  The model's reading of that standard is
log entry 2.
-/
namespace Sys2Proof.Machine

/-- The modulus. -/
def kemQ : Nat := 3329

/-- A power of 17, which is a 256th root of unity. -/
def kemRoot (e : Nat) : Nat := (List.range (e % 256)).foldl (fun a _ => a * 17 % kemQ) 1

/-- The powers of 17. -/
def kemRoots : List Nat := (List.range 256).map kemRoot

/-- The seven bits of a number reversed. -/
def reverse7 (i : Nat) : Nat := (List.range 7).foldl (fun a j => 2 * a + b2n (i.testBit j)) 0

/-- Sum of polynomials. -/
def polyAdd (a b : List Nat) : List Nat := List.zipWith (fun x y => (x + y) % kemQ) a b

/-- Difference of polynomials. -/
def polySub (a b : List Nat) : List Nat := List.zipWith (fun x y => (x + kemQ - y) % kemQ) a b

/-- A multiple of a polynomial. -/
def polyScale (k : Nat) (a : List Nat) : List Nat := a.map (fun x => k * x % kemQ)

/-- The transform, as the tree of remainders: node `i` splits its polynomial by the root of `reverse7 i`, and the pairs at
depth 7 are the leaves. -/
def toRemainders : Nat → Nat → List Nat → List Nat
  | 0, _, f => f
  | depth + 1, i, f =>
    let half := f.length / 2
    let high := polyScale (kemRoots.getD (reverse7 i) 0) (f.drop half)
    toRemainders depth (2 * i) (polyAdd (f.take half) high) ++ toRemainders depth (2 * i + 1) (polySub (f.take half) high)

/-- The inverse: the halves' sum and difference, halved, and the difference divided by the root. -/
def ofRemainders : Nat → Nat → List Nat → List Nat
  | 0, _, f => f
  | depth + 1, i, f =>
    let half := f.length / 2
    let left := ofRemainders depth (2 * i) (f.take half)
    let right := ofRemainders depth (2 * i + 1) (f.drop half)
    polyScale 1665 (polyAdd left right)
      ++ polyScale (1665 * kemRoots.getD ((256 - reverse7 i) % 256) 0) (polySub left right)

/-- The number-theoretic transform. -/
def ntt (f : List Nat) : List Nat := toRemainders 7 1 f

/-- Its inverse. -/
def nttInverse (f : List Nat) : List Nat := ofRemainders 7 1 f

/-- The product of transformed polynomials: pair `i` modulo the square of X less an odd power of the root. -/
def nttMul (a b : List Nat) : List Nat :=
  (List.range 128).flatMap (fun i =>
    let a0 := a.getD (2 * i) 0
    let a1 := a.getD (2 * i + 1) 0
    let b0 := b.getD (2 * i) 0
    let b1 := b.getD (2 * i + 1) 0
    [(a0 * b0 + a1 * b1 % kemQ * kemRoots.getD (2 * reverse7 i + 1) 0) % kemQ, (a0 * b1 + a1 * b0) % kemQ])

/-- The inner product of vectors of transformed polynomials. -/
def nttDot (a b : List (List Nat)) : List Nat :=
  (List.zipWith nttMul a b).foldl polyAdd (List.replicate 256 0)

/-- Values of `w` bits in bytes, the lowest bits first. -/
def packBits (w : Nat) (xs : List Nat) : Bytes :=
  leBytes (xs.length * w / 8) (xs.foldr (fun x a => a * 2 ^ w + x % 2 ^ w) 0)

/-- The values of `w` bits that bytes hold. -/
def unpackBits (w : Nat) (b : Bytes) : List Nat :=
  let v := leNat b
  (List.range (8 * b.length / w)).map (fun i => v >>> (w * i) % 2 ^ w)

/-- A coefficient in `w` bits, rounded to the nearest. -/
def kemCompress (w x : Nat) : Nat := (2 ^ (w + 1) * x + kemQ) / (2 * kemQ) % 2 ^ w

/-- The coefficient that `w` bits stand for. -/
def kemExpand (w y : Nat) : Nat := (2 * kemQ * y + 2 ^ w) / 2 ^ (w + 1)

/-- The 12-bit candidates of a stream that are below the modulus. -/
def acceptable (b : Bytes) : List Nat := (unpackBits 12 b).filter (fun x => decide (x < kemQ))

/-- A uniform transformed polynomial from a seed of 34 bytes: the first 256 acceptable candidates of a stream, lengthened
until it holds so many. -/
def kemUniform (seed : Bytes) : Nat → Nat → List Nat
  | 0, n => fit256 (acceptable (shake128 seed (168 * n)))
  | fuel + 1, n =>
    let xs := acceptable (shake128 seed (168 * n))
    if 256 ≤ xs.length then xs.take 256 else kemUniform seed fuel (2 * n)
where
  /-- A list cut, or filled with zeros, to 256. -/
  fit256 (xs : List Nat) : List Nat := (xs ++ List.replicate 256 0).take 256

/-- A small polynomial: each coefficient the difference of two sums of two bits. -/
def kemSmall (seed : Bytes) (n : Nat) : List Nat :=
  (unpackBits 4 (shake256 (seed ++ [byte n]) 128)).map (fun x =>
    (b2n (x.testBit 0) + b2n (x.testBit 1) + kemQ - b2n (x.testBit 2) - b2n (x.testBit 3)) % kemQ)

/-- Entry (i, j) of the public matrix. -/
def kemEntry (rho : Bytes) (i j : Nat) : List Nat := kemUniform (rho ++ [byte j, byte i]) 8 3

/-- The three indices of a vector. -/
def three : List Nat := [0, 1, 2]

/-- A transformed vector in bytes. -/
def packVector (xs : List (List Nat)) : Bytes := xs.flatMap (packBits 12)

/-- The transformed vector of bytes. -/
def unpackVector (b : Bytes) : List (List Nat) := (chunks 384 b).map (fun c => (unpackBits 12 c).map (fun x => x % kemQ))

/-- The encryption key and the secret vector of the first half of a seed. -/
def kemPair (d : Bytes) : Bytes × List (List Nat) :=
  let g := sha3x512 (d ++ [3])
  let rho := g.take 32
  let sigma := g.drop 32
  let s := three.map (fun i => ntt (kemSmall sigma i))
  let t := three.map (fun i =>
    polyAdd (nttDot (three.map (kemEntry rho i)) s) (ntt (kemSmall sigma (3 + i))))
  (packVector t ++ rho, s)

/-- The encapsulation key of a 64-byte seed: d, then z. -/
def kemPublicKey (seed : Bytes) : Bytes := (kemPair (seed.take 32)).1

/-- The encryption of 32 bytes under a key with its randomness. -/
def kemEncrypt (ek m r : Bytes) : Bytes :=
  let t := unpackVector (ek.take 1152)
  let rho := ek.drop 1152
  let y := three.map (fun i => ntt (kemSmall r i))
  let u := three.map (fun i =>
    polyAdd (nttInverse (nttDot (three.map (fun j => kemEntry rho j i)) y)) (kemSmall r (3 + i)))
  let v := polyAdd (polyAdd (nttInverse (nttDot t y)) (kemSmall r 6)) ((unpackBits 1 m).map (kemExpand 1))
  u.flatMap (fun p => packBits 10 (p.map (kemCompress 10))) ++ packBits 4 (v.map (kemCompress 4))

/-- The decryption of a ciphertext with the secret vector. -/
def kemDecrypt (s : List (List Nat)) (c : Bytes) : Bytes :=
  let u := (chunks 320 (c.take 960)).map (fun p => ntt ((unpackBits 10 p).map (kemExpand 10)))
  let v := (unpackBits 4 (c.drop 960)).map (kemExpand 4)
  packBits 1 ((polySub v (nttInverse (nttDot s u))).map (kemCompress 1))

/-- The shared secret and ciphertext of an encapsulation of 32 bytes to a key. -/
def kemEncapsulate (ek m : Bytes) : Bytes × Bytes :=
  let g := sha3x512 (m ++ sha3x256 ek)
  (g.take 32, kemEncrypt ek m (g.drop 32))

/-- The shared secret of a ciphertext of 1,088 bytes under the decapsulation key of a 64-byte seed: a ciphertext that does
not come from an encapsulation gives a value drawn from z and itself. -/
def kemDecapsulate (seed c : Bytes) : Bytes :=
  let pair := kemPair (seed.take 32)
  let e := kemEncapsulate pair.1 (kemDecrypt pair.2 c)
  if c = e.2 then e.1 else shake256 (seed.drop 32 ++ c) 32

end Sys2Proof.Machine
end

