-- ==== Sys2Proof/Machine/Rings.lean ====
section
/-!
DEFINITION. Host rings (chapter 15): ring `g` is receive ring g (0 to 63), inject ring g - 64 (64 to 127) or job ring
g - 128 (128 to 143); ownership, rights, write-back and stop, shared by the ring commands and the job sequencer.
-/
namespace Sys2Proof.Machine

/-- The OWNER function of a ring. -/
def Device.owner (d : Device) (g : Nat) : Nat := d.get (Obj.ringOwner g)

/-- Whether a function is not FROSTING, FROZEN or DISABLED; the PF cannot be Frosted (Table 3-8). -/
def Device.fnActive (d : Device) (fn : Nat) : Bool := fn == 0 || d.frostState 5 fn == 0

/-- Whether a ring is enabled and its owner issues DMA (R399). -/
def Device.ringRuns (d : Device) (g : Nat) : Bool := d.get (Obj.ringEnable g) == 1 && d.dmaOk (d.owner g)

/-- The right that use of a ring needs: target, resource and right (Table 15-4). -/
def ringNeeds (g : Nat) : Nat × Nat × Nat :=
  if g < 64 then (6, g, rREAD) else if g < 128 then (6, g, rINJECT) else (7, g - 128, rWRITE)

/-- Whether the owner's master holds the right on its ring; a denial is recorded (R92). -/
def Device.ringRight (d : Device) (g : Nat) : Device × Bool :=
  let n := ringNeeds g
  let m := 4096 + d.owner g
  if d.mayNow islMGT n.1 m n.2.1 n.2.2 then (d, true) else (d.deny n.1 m n.2.1, false)

/-- The index after `i` on a ring. -/
def Device.ringNext (d : Device) (g i : Nat) : Nat := (i + 1) % d.get (Obj.ringEntries g)

/-- A failed DMA read stops a ring (R408). -/
def Device.ringFailed (d : Device) (g : Nat) : Device :=
  let n := ringNeeds g
  ((d.put (Obj.ringEnable g) 0).bump (Obj.ringDmaErrors g)).fireOf islMGT 866 g (n.2.1 + n.1 * 2 ^ 8) 0

/-- The message of a write-back or completion (R407). -/
def Device.ringNotify (d : Device) (g : Nat) : Device :=
  d.msixEvery (d.owner g) (d.get (Obj.ringVector g)) (us (d.get (Obj.ringModerationUs g)))

/-- A structure is written into the space of a ring's owner, as payload or to publish, unless that function issues no DMA
(R399, R406). -/
def Device.ringDma (d : Device) (g addr : Nat) (b : Bytes) (payload : Bool) : Device :=
  if d.dmaOk (d.owner g) ∧ !b.isEmpty then (d.dmaWrite (d.owner g) addr b payload).tallyPlain islMGT 2 1 else d

/-- A read of host memory is made (DMA_READS, Table 13-5). -/
def Device.dmaRead (d : Device) : Device := d.tallyPlain islMGT 3 1

/-- A job completion is written, with the count of completions, and the owner is told (R405 to R407). -/
def Device.completeRing (d : Device) (r : Nat) (b : Bytes) : Device :=
  let g := 128 + r
  let x := d.ring g
  let d := d.setRing g { x with
    ctail := d.ringNext g x.ctail, taken := x.taken - 1, done := x.done + 1, unread := x.unread + 1 }
  let d := d.bump (Obj.ringEntriesDone g)
  let d := d.ringDma g (d.get (Obj.ringCompBase r) + 32 * x.ctail) b false
  let d := d.ringDma g (d.get (Obj.ringCompTailAddr r)) (leBytes 8 (x.done + 1)) false
  d.ringNotify g

end Sys2Proof.Machine
end

