-- ==== Sys2Proof/Machine/Crypto.lean ====
section
/-!
DEFINITION. The crypto engine (chapter 09): inline decryption and encryption, sector jobs with their classes and
preemption, and tenant key delivery.
-/
namespace Sys2Proof.Machine

/-! ### The SA record (Tables 9-1, 9-2) -/

/-- The configuration part of an SA. -/
structure SaCfg where
  ty : Nat := 0
  aes256 : Bool := false
  ext : Bool := false
  confOff : Bool := false
  sealRequired : Bool := false
  tenant : Nat := 0
  window : Nat := 0
  an : Nat := 0
  maxClass : Nat := 0
  encOffset : Nat := 0
  hostJobs : Bool := false
  jobFailDrop : Bool := false
  spi : Nat := 0
  salt : Nat := 0
  sci : Nat := 0
  deriving DecidableEq, Repr

/-- The configuration part in 32 bytes. -/
def SaCfg.ofBytes (b : Bytes) : SaCfg :=
  let w0 := beAt b 0 8
  { ty := bits w0 63 60, aes256 := bit w0 59, ext := bit w0 58, confOff := bit w0 57, sealRequired := bit w0 56,
    tenant := bits w0 55 44, window := bits w0 43 33, an := bits w0 32 31, maxClass := bits w0 30 29,
    encOffset := bits w0 28 21, hostJobs := bit w0 20, jobFailDrop := bit w0 18, spi := beAt b 8 4,
    salt := beAt b 12 12, sci := beAt b 24 8 }

/-- Types of Table 9-1. -/
def saESPIN : Nat := 1
/-- ESP_OUT. -/
def saESPOUT : Nat := 2
/-- MACSEC_IN. -/
def saMACSECIN : Nat := 3
/-- MACSEC_OUT. -/
def saMACSECOUT : Nat := 4
/-- XTS. -/
def saXTS : Nat := 5

/-- The storage copy of group 7 that serves a parity in CRY. -/
def Device.saCopy (d : Device) (par : Bool) : Bool := (d.ptr islCRY).copy par 7

/-- The storage copy of the current parity in CRY. -/
def Device.saCopyNow (d : Device) : Bool := d.saCopy (d.ptr islCRY).parity

/-- The configuration of an SA in a storage copy. -/
def Device.saCfg (d : Device) (c : Bool) (s : Nat) : SaCfg := .ofBytes (d.saRecord c s)

/-- KEY_PRESENT in a storage copy: the key record is not all zero (R252). -/
def Device.keyPresent (d : Device) (c : Bool) (s : Nat) : Bool := (d.saKeys c s).any (fun b => b != 0)

/-- The GCM key of an SA in a storage copy. -/
def Device.gcmKey (d : Device) (c : Bool) (s : Nat) : Bytes :=
  (d.saKeys c s).take (if (d.saCfg c s).aes256 then 32 else 16)

/-- Words of SA_COUNTERS. -/
def saPROCESSED : Nat := 0
/-- BYTES. -/
def saBYTES : Nat := 8
/-- AUTH_FAILS. -/
def saAUTHFAILS : Nat := 16
/-- REPLAY_DROPS. -/
def saREPLAY : Nat := 24
/-- FROST_DROPS. -/
def saFROST : Nat := 32
/-- NO_KEY_DROPS. -/
def saNOKEY : Nat := 40
/-- MALFORMED_DROPS. -/
def saMALFORMED : Nat := 48
/-- LIMIT_DROPS. -/
def saLIMIT : Nat := 56

/-- A counter of an SA advances. -/
def Device.saCount (d : Device) (s word n : Nat) : Device := d.memBump Obj.domSaCounters (64 * s + word) 8 n

/-- Whether SA `s` lies in the key scope of a tenant at a parity (Table 3-3); tenant 0 is not checked (R86). -/
def Device.inKeyScope (d : Device) (par : Bool) (t s : Nat) : Bool :=
  let b := d.cfg islCRY par (Obj.tenKeyBase t)
  t == 0 || (decide (b ≤ s) && decide (s < b + d.cfg islCRY par (Obj.tenKeyCount t)))

/-- A crypto request that tenant `t` makes for a frame, naming SA `s`, at a parity: whether Table 3-3 and the key store pass it,
with what a refusal counts (R85, R92).  Tenant 0 is checked against the key store alone (R86). -/
def Device.askKey (d : Device) (par : Bool) (t s right : Nat) : Device × Bool :=
  if !d.inKeyScope par t s then (d.isolation t, false)
  else if !d.mayFrame islCRY par 1 t s right then
    let d := d.deny 1 t s
    (if t = 0 then d else d.isolation t, false)
  else (d, true)

/-! ### The pipelines (R262) -/

/-- The lowest-numbered free pipeline of the 192. -/
def Device.freePipe (d : Device) : Option Nat :=
  (List.range 192).find? (fun p => decide (d.cry.pipes.getD (fun _ => 0) p ≤ d.cycleOf islCRY))

/-- How many pipelines are free. -/
def Device.freePipes (d : Device) : Nat := 192 - (d.cry.pipes.filter (fun e => decide (d.cycleOf islCRY < e.2))).length

/-- The frames that wait for decryption, in arrival order. -/
def Device.inboundWaits (d : Device) : List Nat :=
  d.cry.inbound.filter (fun i => d.hasFrame i && (d.frame i).stage == .decrypt)

/-- The copies that wait for encryption, in arrival order. -/
def Device.outboundWaits (d : Device) : List Nat := d.cry.outbound.filter (fun i => (d.copyRec i).needsCrypto)

/-- The pipeline that a request takes now, if it may: each direction is served in arrival order, and while pipelines are fewer
than the requests that wait, the directions are served in turn. -/
def Device.pipeFor (d : Device) (ingress : Bool) (i : Nat) : Option Nat :=
  let mine := if ingress then d.inboundWaits else d.outboundWaits
  let others := if ingress then d.outboundWaits else d.inboundWaits
  let scarce := decide (d.freePipes < mine.length + others.length)
  if mine.head? != some i || (scarce && !others.isEmpty && d.cry.inboundLast == ingress) then none else d.freePipe

/-- Pipeline cycles of a frame of `l` bytes with its FCS (R262). -/
def pipeCycles (l : Nat) : Nat := ceilDiv l 16 + 1

/-- A frame of `l` bytes takes a pipeline: held for its cycles, with blocks and energy, and the SA's counts (R262, R335). -/
def Device.pipelineUse (d : Device) (pipe : Nat) (ingress : Bool) (s t l : Nat) : Device :=
  let n := pipeCycles l
  let d : Device := { d with cry := { d.cry with
    pipes := d.cry.pipes.set (fun _ => 0) pipe (d.cycleOf islCRY + n), inboundLast := ingress
    inbound := d.inboundWaits, outbound := d.outboundWaits } }
  (((d.tallyPlain islCRY 0 n).tally islCRY 1 n t).spend islCRY 5 t n |>.saCount s saPROCESSED 1).saCount s saBYTES l

/-! ### Inline ingress (R256 to R260) -/

/-- The number of an ESP frame with an ESN (RFC 4303, Appendix A). -/
def esnNumber (high window seq : Nat) : Nat :=
  let w := max window 1
  let tl := high % 2 ^ 32
  let th := high / 2 ^ 32
  let bottom := (tl + 1 + 2 ^ 32 - w) % 2 ^ 32
  let h := if w ≤ tl + 1 then (if bottom ≤ seq then th else th + 1) else (if bottom ≤ seq then th + 2 ^ 32 - 1 else th)
  h % 2 ^ 32 * 2 ^ 32 + seq

/-- The number of a MACsec frame with XPN: the half of the number space nearest the next number expected. -/
def xpnNumber (high pn : Nat) : Nat :=
  let next := high + 1
  let lo := next % 2 ^ 32
  let hi := next / 2 ^ 32
  let up := decide (pn < lo) && (bit pn 31 != bit lo 31)
  (if up then hi + 1 else hi) % 2 ^ 32 * 2 ^ 32 + pn

/-- The replay test of R258. -/
def SaState.replayOk (x : SaState) (w n : Nat) : Bool :=
  w == 0 || ((decide (x.rxHigh < n) || decide (x.rxHigh < n + w)) && !x.waiting.contains n && !x.accepted.contains n)

/-- A number is marked as pending. -/
def SaState.mark1 (x : SaState) (w n : Nat) : SaState := if w = 0 then x else { x with waiting := n :: x.waiting }

/-- Where a protected frame's parts lie: the SA's number for it, the text, the bytes before it, the tag, the associated
data and the nonce. -/
structure Protected where
  number : Nat := 0
  text : Bytes := []
  icv : Bytes := []
  aad : Bytes := []
  nonce : Bytes := []
  deriving DecidableEq, Repr

/-- An ESP frame at offset `o`, or `none` where check 4 fails (Table 9-4). -/
def espParts (x : SaState) (c : SaCfg) (b : Bytes) (o : Nat) : Option Protected :=
  let rest := b.length - (o + 8)
  if rest < 26 ∨ (rest - 24) % 4 ≠ 0 then none
  else
    let seq := beAt b (o + 4) 4
    let n := if c.ext then esnNumber x.rxHigh c.window seq else seq
    let spi := slice b o 4
    some { number := n, text := slice b (o + 16) (rest - 24), icv := slice b (b.length - 16) 16
           aad := if c.ext then spi ++ beBytes 8 n else spi ++ beBytes 4 n
           nonce := beBytes 4 (c.salt / 2 ^ 64) ++ slice b (o + 8) 8 }

/-- The nonce of MACsec for a number (IEEE 802.1AE). -/
def macsecNonce (c : SaCfg) (n : Nat) : Bytes :=
  if c.ext then beBytes 12 ((c.spi * 2 ^ 64 + n) ^^^ c.salt) else beBytes 8 c.sci ++ beBytes 4 n

/-- A MACsec frame whose SecTAG's TCI is at offset `o`, or `none` where check 4 fails.  A short length may be followed by
padding to the minimum frame (log entry 17). -/
def macsecParts (x : SaState) (c : SaCfg) (b : Bytes) (o : Nat) : Option Protected :=
  let tci := byteAt b o
  let e := o + (if bit tci 5 then 14 else 6)
  let sl := byteAt b (o + 1)
  let rest := b.length - e
  let fits := if sl = 0 then decide (48 + 16 ≤ rest)
    else decide (sl < 48) && (rest == sl + 16 || (decide (sl + 16 < rest) && b.length == 60))
  if bit tci 7 ∨ rest < 17 ∨ !fits then none
  else
    let u := if sl = 0 then rest - 16 else sl
    let pn := beAt b (o + 2) 4
    let n := if c.ext then xpnNumber x.rxHigh pn else pn
    let user := slice b e u
    some { number := n, text := user, icv := slice b (e + u) 16
           aad := if c.confOff then b.take e ++ user else b.take e
           nonce := macsecNonce c n }

/-- The SA that matches a frame (R256). -/
def Device.matchSa (d : Device) (f : Frame) : Option Nat :=
  let cp := d.saCopy f.parity
  if f.secEnd = 1 then
    let spi := beAt f.bytes f.secOff 4
    let s := spi % 65536
    let c := d.saCfg cp s
    if c.ty = saESPIN ∧ c.spi = spi ∧ c.tenant = f.tenant then some s else none
  else
    let tci := byteAt f.bytes f.secOff
    let sci := if bit tci 5 then beAt f.bytes (f.secOff + 6) 8 else beAt f.bytes 6 6 * 65536 + 1
    (d.saListed).find? (fun s =>
      let c := d.saCfg cp s
      c.ty == saMACSECIN && c.sci == sci && c.an == tci % 4 && c.tenant == f.tenant)

/-- A frame goes on to the dispatch input as it came. -/
def Device.undecrypted (d : Device) (i : Nat) : Device :=
  d.setFrame i { d.frame i with stage := .dispatchWait, since := d.now }

/-- FRAME_LENGTH of a summary's first word. -/
def withLength (w0 len : Nat) : Nat := w0 - bits w0 36 23 * 2 ^ 23 + len % 2 ^ 14 * 2 ^ 23

/-- A decrypted frame is handed back (R259): its bytes, its number, and the verdict to come. -/
def Device.handBack (d : Device) (i s n : Nat) (b : Bytes) (pass : Bool) : Device :=
  let f := d.frame i
  (d.bump Obj.cryInlineDecrypts).setFrame i
    { f with bytes := b, stage := .dispatchWait, since := d.now, decrypted := true, verdict := none
             verdictDue := some pass, sa := some s, saNumber := n
             summary := f.summary.set 0 (withLength (f.summary.headD 0) (b.length + 4)) }

/-- The bytes of a decrypted frame (R259), or `none` where check 6 fails. -/
def plainFrame (f : Frame) (s : Nat) (c : SaCfg) (p : Protected) (text : Bytes) : Option Bytes :=
  if f.secEnd = 1 then
    let pad := byteAt text (text.length - 2)
    if text.length < pad + 2 then none
    else some (f.bytes.take (f.secOff + 8) ++ [text.getD (text.length - 1) 0, byte pad] ++ beBytes 2 s
      ++ beBytes 4 (if c.ext then p.number / 2 ^ 32 else 0) ++ text.take (text.length - 2 - pad))
  else some (f.bytes.take (f.secOff + (if bit (byteAt f.bytes f.secOff) 5 then 14 else 6)) ++ text)

/-- Checks 4 to 6 of Table 9-4, and decryption once a pipeline takes the frame; until one does, it waits (R262). -/
def Device.decryptWith (d : Device) (i s : Nat) : Device :=
  let f := d.frame i
  let cp := d.saCopy f.parity
  let c := d.saCfg cp s
  let x := d.saFor f.parity s
  let parts := if f.secEnd = 1 then espParts x c f.bytes f.secOff else macsecParts x c f.bytes f.secOff
  match parts, d.pipeFor true i with
  | none, _ => (d.saCount s saMALFORMED 1).leave i
  | some p, pipe =>
    if !x.replayOk c.window p.number then (d.saCount s saREPLAY 1).leave i
    else match pipe with
    | none => d
    | some pipe =>
      let r := if f.secEnd = 2 ∧ c.confOff then
          (p.text, decide (gcmTag (roundKeys (d.gcmKey cp s)) p.nonce p.aad [] = p.icv))
        else gcmDecrypt (d.gcmKey cp s) p.nonce p.aad p.text p.icv
      let d := d.pipelineUse pipe true s f.tenant (f.bytes.length + 4)
      match plainFrame f s c p r.1 with
      | none => (d.saCount s saMALFORMED 1).leave i
      | some b => (d.putSaFor f.parity s (x.mark1 c.window p.number)).handBack i s p.number b r.2

/-- A frame that ended at ESP or SecTAG meets CRY (R256, Table 9-4). -/
def Device.decrypt (d : Device) (i : Nat) : Device :=
  let f := d.frame i
  match d.matchSa f with
  | none => (d.bump Obj.cryNoSaFrames).undecrypted i
  | some s =>
    if !d.inKeyScope f.parity f.tenant s then (d.failScope i f.tenant).undecrypted i
    else if !d.mayFrame islCRY f.parity 1 f.tenant s rKEYUSE then
      ((d.deny 1 f.tenant s).failScope i f.tenant).undecrypted i
    else if d.frostState 4 s ≠ 0 then (d.saCount s saFROST 1).leave i
    else if !d.keyPresent (d.saCopy f.parity) s then (d.saCount s saNOKEY 1).leave i
    else d.decryptWith i s

/-- The oldest frame of a port group that waits for CRY. -/
def Device.decryptHead (d : Device) (pg : Nat) : Option Nat :=
  ((d.pgs pg).keyq).find? (fun i => (d.frame i).stage == .decrypt)

/-- INGRESS_DECRYPT (R257): the oldest frame of a port group that waits for CRY. -/
def execIngressDecrypt (pg : Fin 4) (s : State) : Host.Outcome State Fault Refusal :=
  match s.d.dataRuns, s.d.decryptHead pg with
  | true, some i => match s.d.sweep i with
    | some d => .next { s with d := d }
    | none => .next { s with d := s.d.decrypt i }
  | _, _ => .next s

/-! ### Inline egress (R263 to R267) -/

/-- The padding 1, 2, 3 … of an ESP plaintext of `n` bytes. -/
def espPad (n : Nat) : Bytes := (List.range ((6 - n % 4) % 4)).map (fun i => byte (i + 1))

/-- ESP egress of a frame with a number (R264). -/
def espSeal (c : SaCfg) (key b : Bytes) (n : Nat) : Bytes :=
  let o := c.encOffset
  let inner := b.drop (o + 16)
  let pad := espPad inner.length
  let spi := beBytes 4 c.spi
  let iv := beBytes 8 n
  let aad := if c.ext then spi ++ beBytes 8 n else spi ++ beBytes 4 n
  let r := gcmEncrypt key (beBytes 4 (c.salt / 2 ^ 64) ++ iv) aad (inner ++ pad ++ [byte pad.length, byte (byteAt b (o + 8))])
  b.take o ++ spi ++ beBytes 4 n ++ iv ++ r.1 ++ r.2

/-- MACsec egress of a frame with a number (R265). -/
def macsecSeal (c : SaCfg) (key b : Bytes) (n : Nat) : Bytes :=
  let user := b.drop 12
  let sl := if user.length < 48 then user.length else 0
  let tci := 0x20 + (if c.confOff then 0 else 0x0C) + c.an
  let head := b.take 12 ++ [0x88, 0xE5, byte tci, byte sl] ++ beBytes 4 n ++ beBytes 8 c.sci
  if c.confOff then head ++ user ++ gcmTag (roundKeys key) (macsecNonce c n) (head ++ user) []
  else
    let r := gcmEncrypt key (macsecNonce c n) head user
    head ++ r.1 ++ r.2

/-- An encryption is refused: a counter of the SA advances and the copy is dropped (R263, R267). -/
def Device.refuseEncrypt (d : Device) (i s word : Nat) : Device := (d.saCount s word 1).dropCopy i

/-- TX_COUNTER after a frame, with the threshold and exhaustion events (R266). -/
def Device.txAdvance (d : Device) (par : Bool) (s : Nat) (c : SaCfg) : Device :=
  let x := d.saFor par s
  let last := if c.ext then 2 ^ 64 - 1 else 2 ^ 32 - 1
  let done := x.tx == last
  let y : SaState := { x with tx := if done then x.tx else x.tx + 1, exhausted := x.exhausted || done }
  let over_ := !y.warned && decide (y.mark < y.tx)
  let d := d.putSaFor par s { y with warned := y.warned || over_ }
  let d := if over_ then d.fire islCRY 513 s else d
  if done then d.fire islCRY 512 s else d

/-- Whether an SA's TYPE encrypts, and a key is present in the copy that serves a parity (R254). -/
def Device.encrypts (d : Device) (par : Bool) (s : Nat) : Bool :=
  let ty := (d.saCfg (d.saCopy par) s).ty
  (ty == saESPOUT || ty == saMACSECOUT) && d.keyPresent (d.saCopy par) s

/-- A copy's bytes under its SA's transform, with the next sequence number. -/
def Device.sealCopy (d : Device) (par : Bool) (s : Nat) (b : Bytes) : Bytes :=
  let c := d.saCfg (d.saCopy par) s
  let key := d.gcmKey (d.saCopy par) s
  if c.ty = saESPOUT then espSeal c key b (d.saFor par s).tx else macsecSeal c key b (d.saFor par s).tx

/-- The copy's SA serves it: the copy is encrypted once a pipeline takes it, or dropped for its length (R264, R267). -/
def Device.encryptWith (d : Device) (p i s : Nat) : Device :=
  let cr := d.copyRec i
  let f := d.frame cr.frame
  let c := d.saCfg (d.saCopy f.parity) s
  let b := cr.out.getD []
  let out := d.sealCopy f.parity s b
  if c.ty = saESPOUT ∧ b.length < c.encOffset + 16 then d.refuseEncrypt i s saMALFORMED
  else if d.cfg islSWC f.parity (Obj.portMaxFrame p) < out.length + 4 then d.refuseEncrypt i s saLIMIT
  else match d.pipeFor false i with
    | none => d
    | some pipe =>
      let d := d.setCopy i { cr with out := some out, needsCrypto := false }
      ((d.bump Obj.cryInlineEncrypts).pipelineUse pipe false s f.tenant (out.length + 4)).txAdvance f.parity s c

/-- A copy is encrypted, or dropped where its SA does not serve it (R254, R263); the request is checked as Table 3-3 and the key
store have it (R85, R92). -/
def Device.encryptCopy (d : Device) (p i : Nat) : Device :=
  let cr := d.copyRec i
  let f := d.frame cr.frame
  match f.result.sa with
  | none => d.setCopy i { cr with needsCrypto := false }
  | some s =>
    let x := d.saFor f.parity s
    match d.askKey f.parity f.tenant s rKEYUSE with
    | (e, false) => e.refuseEncrypt i s saNOKEY
    | (d, true) =>
      if d.frostState 4 s ≠ 0 then d.refuseEncrypt i s saFROST
      else if !d.encrypts f.parity s ∨ (x.isSealed ∧ (d.saCfg (d.saCopy f.parity) s).tenant ≠ f.tenant) then
        d.refuseEncrypt i s saNOKEY
      else if x.exhausted then d.refuseEncrypt i s saLIMIT
      else d.encryptWith p i s

/-- The first chosen copy of a port that waits for encryption, if it is the first of all ports' to have reached CRY: the copies
come over one channel and leave it in order (R19, R262). -/
def Device.encryptHead (d : Device) (p : Nat) : Option Nat :=
  ((d.port p).tx).find? (fun i => (d.copyRec i).needsCrypto && d.outboundWaits.head? == some i)

/-- EGRESS_ENCRYPT (R263). -/
def execEgressEncrypt (p : Fin 128) (s : State) : Host.Outcome State Fault Refusal :=
  match s.d.dataRuns, s.d.encryptHead p with
  | true, some i => .next { s with d := s.d.encryptCopy p i }
  | _, _ => .next s

/-! ### Sector jobs: data units (R268, R269) -/

/-- Status codes of Table 9-8. -/
def jsOK : Nat := 0
/-- AUTH_FAIL. -/
def jsAUTHFAIL : Nat := 1
/-- DENIED. -/
def jsDENIED : Nat := 2
/-- NO_KEY. -/
def jsNOKEY : Nat := 3
/-- LENGTH. -/
def jsLENGTH : Nat := 4
/-- POLICY. -/
def jsPOLICY : Nat := 5
/-- FROST. -/
def jsFROST : Nat := 6
/-- DMA_ERROR. -/
def jsDMAERROR : Nat := 7
/-- ENERGY. -/
def jsENERGY : Nat := 8
/-- KEY_CHANGED. -/
def jsKEYCHANGED : Nat := 9
/-- MALFORMED. -/
def jsMALFORMED : Nat := 10
/-- BUSY. -/
def jsBUSY : Nat := 11
/-- UNWRAP. -/
def jsUNWRAP : Nat := 12

/-- The number of units of a job. -/
def Job.units (j : Job) : Nat := ceilDiv j.length (max 1 j.unit)

/-- Whether a job keeps the limits of R268. -/
def Job.lengthOk (j : Job) : Bool :=
  match j.source with
  | .ring _ => decide (0 < j.unit) && decide (16 ≤ j.length) && decide (j.length ≤ 128 * j.unit)
      && decide (16 ≤ j.length - (j.units - 1) * j.unit)
  | .sector _ _ _ _ => decide (16 ≤ j.length) && decide (j.length ≤ 8192)

/-- The seal tag of a unit's ciphertext (R269). -/
def sealTag (key : Bytes) (tenant dun : Nat) (c : Bytes) : Bytes :=
  let x := (chunks 16 c).foldl (fun a b => xorBytes a (fit 16 b)) (zeros 16)
  gcmTag (roundKeys key) (x.take 12) (beBytes 2 tenant ++ leBytes 16 dun ++ c) []

/-- The output of a unit, its tag, and whether its unseal failed. -/
def Job.runUnit (j : Job) (n : Nat) (c tag : Bytes) : Bytes × Bytes × Bool :=
  let cfg := SaCfg.ofBytes j.loaded
  let dun := (cfg.sci * 2 ^ 64 + j.dun + n) % 2 ^ 128
  let k1 := j.keys.take 32
  let k2 := (j.keys.drop 32).take 32
  let ks := (j.keys.drop 64).take 32
  if j.decrypt then
    (xtsDecrypt k1 k2 dun c, [], j.sealing && decide (sealTag ks cfg.tenant dun c ≠ tag))
  else
    let e := xtsEncrypt k1 k2 dun c
    (e, if j.sealing then sealTag ks cfg.tenant dun e else [], false)

/-- The outputs of the first `m` units of a job over its input: data, tags and the units that failed. -/
def Job.run (j : Job) (input : Bytes) (m : Nat) : Bytes × Bytes × List Nat :=
  (List.range m).foldl (fun a n =>
    let len := min j.unit (j.length - n * j.unit)
    let r := j.runUnit n (slice input (n * j.unit) len) (slice input (j.length + 16 * n) 16)
    (a.1 ++ r.1, a.2.1 ++ r.2.1, if r.2.2 then a.2.2 ++ [n] else a.2.2)) ([], [], [])

/-- The units done when a job has reached a byte. -/
def Job.unitsAt (j : Job) (p : Nat) : Nat := if j.length ≤ p then j.units else p / max 1 j.unit

/-- The outputs of a job that has reached a byte: those of the units done, and of the unit in hand as far as it has come. -/
def Job.runTo (j : Job) (input : Bytes) (p : Nat) : Bytes × Bytes × List Nat :=
  let m := j.unitsAt p
  let r := j.run input m
  if j.length ≤ p ∨ p ≤ m * j.unit then r else ((j.run input (m + 1)).1.take p, r.2.1, r.2.2)

/-- The input of a job: what it had read when it was suspended (`data`, up to its position), and what its reads have given since.
A sector frame carries its own. -/
def Job.image (j : Job) (read : Bytes) : Bytes :=
  match j.source with
  | .sector _ _ _ _ => j.data
  | .ring _ =>
    let p := min j.position j.length
    let t := j.length + 16 * j.unitsAt p
    slice j.data 0 p ++ slice read p (j.length - p) ++ slice j.data j.length (t - j.length)
      ++ slice read t (j.length + 16 * j.units - t)

/-- The AES blocks of the first `m` units, tags included. -/
def Job.blocks (j : Job) (m : Nat) : Nat :=
  ((List.range m).map (fun n => ceilDiv (min j.unit (j.length - n * j.unit)) 16 + b2n j.sealing)).sum

/-! ### The saved context (Table 9-10) -/

/-- The source number of a job: its ring, or 16. -/
def Job.sourceNo (j : Job) : Nat := match j.source with | .ring r => r | .sector _ _ _ _ => 16

/-- SOURCE of a saved context (Table 9-10): the ring in the upper half and its slot in the lower, or the sector queue, number 16
(DESIGN CHOICE, log entry 55). -/
def Job.sourceWord (j : Job) : Nat := j.sourceNo * 65536 + j.slot % 65536

/-- The descriptor of a job in its saved context: that of its ring (Table 9-6), or the fields of its sector header and then the
handle by which the sequencer keeps its frame (the places are a DESIGN CHOICE, log entry 55). -/
def Job.descriptor (j : Job) : Bytes :=
  match j.source with
  | .sector frame _ _ handle => slice frame 22 16 ++ leBytes 4 handle ++ zeros 12
  | .ring _ =>
    let size := if j.unit = 512 then 0 else if j.unit = 4096 then 1 else if j.unit = 8192 then 2 else 3
    leBytes 8 j.src ++ leBytes 8 j.dst ++ leBytes 8 j.dun ++ leBytes 4 j.length
    ++ leBytes 4 (j.sa + b2n j.decrypt * 2 ^ 16 + b2n j.sealing * 2 ^ 17 + j.cls * 2 ^ 18 + size * 2 ^ 20 + j.cookie * 2 ^ 24)

/-- The bitmap of the units that failed. -/
def failBitmap (fails : List Nat) : Nat := fails.foldl (fun a n => a + 2 ^ n) 0

/-- The context of a suspended job, at the 16-byte boundary it has reached: the tweak of its next block, the seal's GHASH over
the whole blocks it has taken in, and the XOR of R269. -/
def Job.context (j : Job) : Bytes :=
  let cfg := SaCfg.ofBytes j.loaded
  let m := j.unitsAt j.position
  let o := j.position - m * j.unit
  let dun := (cfg.sci * 2 ^ 64 + j.dun + m) % 2 ^ 128
  let tweak := (List.range (o / 16)).foldl (fun t _ => xtsNext t) (xtsTweak ((j.keys.drop 32).take 32) dun)
  let input := j.image []
  let r := j.runTo input j.position
  let cipher := if j.decrypt then slice input (m * j.unit) o else (r.1.drop (m * j.unit)).take o
  let aad := beBytes 2 cfg.tenant ++ leBytes 16 dun ++ cipher
  let h := beNat (aesEnc (roundKeys ((j.keys.drop 64).take 32)) (zeros 16))
  let gh := if j.sealing then ghash h (aad.take (aad.length / 16 * 16)) else 0
  let acc := (chunks 16 cipher).foldl (fun a b => xorBytes a (fit 16 b)) (zeros 16)
  j.descriptor ++ leBytes 16 dun ++ leBytes 16 tweak ++ beBytes 16 gh ++ acc ++ leBytes 4 j.position
  ++ leBytes 16 (failBitmap r.2.2) ++ leBytes 4 (j.serial.getD 0) ++ leBytes 4 j.sourceWord ++ zeros 4

/-! ### Completions and sector replies (R274, Table 9-7) -/

/-- A host job's completion.  SEALED says that a seal or an unseal was applied: to every unit, or, of a job that stopped early,
to the units done. -/
def Job.completion (j : Job) (status m : Nat) (fails : List Nat) : Bytes :=
  let sealed_ := j.sealing && (status == jsOK || status == jsAUTHFAIL || decide (0 < m))
  [byte status, byte (b2n (!fails.isEmpty) + 2 * b2n sealed_), byte (min j.preemptions 255), byte j.cookie]
  ++ leBytes 4 (match fails with | [] => 0xFFFFFFFF | n :: _ => n * j.unit)
  ++ leBytes 2 m ++ leBytes 2 fails.length ++ zeros 4 ++ leBytes 16 (failBitmap fails)

/-- The STH of a sector reply (Table 4-7). -/
def replySth (ether tenant cls : Nat) (sealed_ fail : Bool) : Bytes :=
  beBytes 8 (ether * 2 ^ 48 + tenant * 2 ^ 32 + cls * 2 ^ 29 + b2n fail * 2 ^ 28 + b2n sealed_ * 2 ^ 27)

/-- The output frame of a sector frame (R274): addressed to the requester, queued to JOB_QUEUE on JOB_PORT, admitted as
port 130's for the SA's tenant. -/
def Device.sectorReply (d : Device) (frame : Bytes) (cls s : Nat) (c : SaCfg) (status : Nat) (sealed_ : Bool) (out : Bytes) :
    Device :=
  let fail := status == jsAUTHFAIL
  if fail ∧ c.jobFailDrop then d.bump Obj.crySectorOutputDrops
  else
    let hdr := (slice frame 22 32).set 3 (byte status)
    let sth := replySth (d.sthType d.swcParity) c.tenant cls sealed_ fail
    let b := slice frame 6 6 ++ slice frame 0 6 ++ sth ++ slice frame 20 2 ++ hdr ++ out
    let port := c.spi / 2 ^ 24
    d.admitDirect (port / 32 % 4) { bytes := b, port := 130, origin := 130, tenant := c.tenant, cls := cls, saNumber := s }
      (port, c.spi / 2 ^ 8 % 65536)

/-- What a job's end counts: completed jobs, bytes, units and failures (R279). -/
def Device.jobCounts (d : Device) (j : Job) (m : Nat) (fails : List Nat) : Device :=
  let bytes := min j.length (m * j.unit)
  let d := (d.bump Obj.cryJobsCompleted).bumpBy Obj.cryJobBytes bytes
  let d := if m = 0 then d else (d.saCount j.sa saPROCESSED m).saCount j.sa saBYTES bytes
  fails.foldl (fun d _ => ((d.saCount j.sa saAUTHFAILS 1).bump Obj.cryAuthFails).fire islCRY 520 j.sa) d

/-- The SA configuration a job's end uses: what its engine loaded (R275), or the current one where it never started. -/
def Device.jobCfg (d : Device) (j : Job) : SaCfg :=
  if j.serial.isSome then .ofBytes j.loaded else d.saCfg d.saCopyNow j.sa

/-- A job ends with a status, `m` units done and what it has given.  Only an ENCRYPT applies a seal (R274). -/
def Device.endJob (d : Device) (j : Job) (status m : Nat) (r : Bytes × Bytes × List Nat) : Device :=
  let d := d.jobCounts j m r.2.2
  match j.source with
  | .ring n =>
    let g := 128 + n
    let d := d.ringDma g j.dst r.1 true
    let d := d.ringDma g (j.dst + j.length) r.2.1 true
    let d := if status = jsDMAERROR then (d.bump Obj.cryDmaErrors).fire islCRY 516 n else d
    d.completeRing n (j.completion status m r.2.2)
  | .sector frame _ cls _ =>
    let done := status == jsOK || status == jsAUTHFAIL
    d.sectorReply frame cls j.sa (d.jobCfg j) status (j.sealing && !j.decrypt && done)
      (if done then r.1 ++ r.2.1 else [])

/-- A job ends before any unit. -/
def Device.endEmpty (d : Device) (j : Job) (status : Nat) : Device := d.endJob j status 0 ([], [], [])

/-! ### Taking jobs (R271 to R273, R405) -/

/-- The bytes of a unit by DU_SIZE; the reserved code gives none. -/
def unitSize (n : Nat) : Nat := match n with | 0 => 512 | 1 => 4096 | 2 => 8192 | _ => 0

/-- A host job (Table 9-6): the slot of its descriptor, the descriptor, and what the first reads of its source give. -/
def hostJob (r slot master : Nat) (b source : Bytes) : Job :=
  let w := leAt b 28 4
  { source := .ring r, src := leAt b 0 8, dst := leAt b 8 8, dun := leAt b 16 8, length := leAt b 24 4, sa := w % 65536
    decrypt := bit w 16, sealing := bit w 17, cls := bits w 19 18, unit := unitSize (bits w 21 20), cookie := w / 2 ^ 24
    data := source, master := master, slot := slot }

/-- A host job is checked under R271 as it is taken. -/
def Device.takeHostJob (d : Device) (j : Job) : Device :=
  let c := d.saCfg d.saCopyNow j.sa
  if !d.mayNow islCRY 1 j.master j.sa rKEYUSE then (d.deny 1 j.master j.sa).endEmpty j jsDENIED
  else if !c.hostJobs ∨ (d.saState j.sa).isSealed then d.endEmpty j jsDENIED
  else { d with cry := { d.cry with queue := d.cry.queue ++ [j] } }

/-- Whether a descriptor may be taken from a job ring (R405). -/
def Device.jobRingReady (d : Device) (g : Nat) : Bool :=
  let x := d.ring g
  d.dataRuns && d.ringRuns g && d.fnActive (d.owner g) && x.head != x.tail
  && decide (x.taken + x.unread < d.get (Obj.ringEntries g))

/-- The descriptor at HEAD is taken: a job, or a failed read of it. -/
def Device.takeJob (d : Device) (r : Nat) (found : Option Sys2Proof.JobRead) : Device :=
  let g := 128 + r
  let d := d.dmaRead
  match found with
  | none => d.ringFailed g
  | some found =>
    let x := d.ring g
    let d := d.setRing g { x with head := d.ringNext g x.head, taken := x.taken + 1 }
    let j := hostJob r x.head (4096 + d.owner g) found.desc found.source
    match d.ringRight g with
    | (d, true) => d.takeHostJob j
    | (d, false) => d.endEmpty j jsDENIED

/-- JOB_DESCRIPTOR_TAKE (R405): the next descriptor of a job ring, as its DMA read answers. -/
def execJobDescriptorTake (r : Fin 16) (found : Option Sys2Proof.JobRead) (s : State) : Host.Outcome State Fault Refusal :=
  if s.d.jobRingReady (128 + r) then .next { s with d := s.d.takeJob r found } else .next s

/-- A sector frame's header (Table 9-9) is at byte 22; whether it is MALFORMED (R273). -/
def Device.sectorBad (d : Device) (b : Bytes) : Bool :=
  let ctl := byteAt b 24
  let len := beAt b 26 2
  let op := ctl / 64
  beAt b 12 2 != d.sthType d.swcParity || ctl % 8 != 0 || beAt b 28 2 != 0 || op == 3
  || decide (b.length < 54 + len + (if op = 1 ∧ bit ctl 5 then 16 else 0))

/-- The sector job of a frame, kept under a handle. -/
def sectorJob (b : Bytes) (tenant cls handle : Nat) : Job :=
  let ctl := byteAt b 24
  let len := beAt b 26 2
  { source := .sector b tenant cls handle, dun := beAt b 30 8, length := len, sa := beAt b 22 2, decrypt := ctl / 64 == 1
    sealing := bit ctl 5, cls := bits ctl 4 3, unit := max 1 len, data := b.drop 54, master := tenant }

/-- The CLASS of a request's STH; a frame without one keeps its own. -/
def Device.requestClass (d : Device) (b : Bytes) (cls : Nat) : Nat :=
  if beAt b 12 2 = d.sthType d.swcParity then byteAt b 16 / 32 else cls

/-- A key delivery fails: its count, its event, and its reply (R280). -/
def Device.deliveryFailed (d : Device) (b : Bytes) (cls s status : Nat) : Device :=
  let d := (d.bump Obj.cryKeyDeliveryFails).fire islCRY 515 (status * 65536 + s)
  d.sectorReply b cls s (d.saCfg d.saCopyNow s) status false []

/-- The job sequencer takes a sector frame handed over at port 130 (R272, R273, R281). -/
def Device.takeSector (d : Device) (b : Bytes) (tenant cls handle : Nat) : Device :=
  let k := d.requestClass b cls
  let s := beAt b 22 2
  if d.sectorBad b then d.sectorReply b k s (d.saCfg d.saCopyNow s) jsMALFORMED false []
  else if byteAt b 24 / 64 = 2 then
    if beAt b 26 2 ≠ 1200 then d.sectorReply b k s (d.saCfg d.saCopyNow s) jsLENGTH false []
    else if 64 ≤ d.cry.deliveries.length then d.deliveryFailed b k s jsBUSY
    else { d with cry := { d.cry with deliveries := d.cry.deliveries ++ [(b, tenant, k)] } }
  else { d with cry := { d.cry with queue := d.cry.queue ++ [sectorJob b tenant k handle] } }

/-- SECTOR_FRAME_HANDOFF (R273): the first frame chosen at port 130 is handed to the job sequencer. -/
def execSectorFrameHandoff (s : State) : Host.Outcome State Fault Refusal :=
  match s.d.dataRuns, (s.d.port 130).tx with
  | false, _ => .next s
  | true, [] => .next s
  | true, i :: _ =>
    let c := s.d.copyRec i
    let f := s.d.frame c.frame
    .next { s with d := (s.d.consumeCopy i).takeSector (c.out.getD []) f.tenant c.cls c.frame }

/-! ### Starting jobs (R275 to R278) -/

/-- The configuration an SA has in CRY's current copy. -/
def Device.saNow (d : Device) (s : Nat) : SaCfg := d.saCfg d.saCopyNow s

/-- Whether a job may use its SA as it starts, with what a refusal counts: a sector job as R272 and Table 3-3 have it, a ring's
only while the SA has HOST_JOBS and is not SEALED (R254, R271). -/
def Device.jobAllowed (d : Device) (j : Job) : Device × Bool :=
  match j.source with
  | .ring _ => (d, (d.saNow j.sa).hostJobs && !(d.saState j.sa).isSealed)
  | .sector _ t _ _ =>
    if t ≠ (d.saNow j.sa).tenant then (d, false) else d.askKey (d.ptr islCRY).parity t j.sa rKEYUSE

/-- The status with which a job that may use its SA ends at once instead of starting (R254, R268, R270, R278, R348). -/
def Device.startStatus (d : Device) (j : Job) : Option Nat :=
  let cp := d.saCopyNow
  let c := d.saCfg cp j.sa
  if d.frostState 4 j.sa ≠ 0 ∨ d.frostState 1 c.tenant ≠ 0 then some jsFROST
  else if c.ty ≠ saXTS ∨ !d.keyPresent cp j.sa then some jsNOKEY
  else if !j.lengthOk then some jsLENGTH
  else if (c.sealRequired ∧ !j.sealing) ∨ c.maxClass < j.cls then some jsPOLICY
  else if j.cls = 0 ∧ d.denied c.tenant then some jsENERGY
  else none

/-- The next new job of a class: sources in rotation after the one served last, oldest first within a source. -/
def Device.newJob (d : Device) (cls : Nat) : Option Job :=
  ((List.range 17).map (fun i => (d.cry.lastSource + 1 + i) % 17)).findSome? (fun n =>
    d.cry.queue.find? (fun j => min j.cls 2 == cls && j.sourceNo == n && !d.deferred j))

/-- The next suspended job of a class, oldest suspension first. -/
def Device.suspendedJob (d : Device) (cls : Nat) : Option Job :=
  d.cry.suspended.find? (fun j => min j.cls 2 == cls && !d.deferred j)

/-- The next job of R276, and whether it was suspended. -/
def Device.nextJob (d : Device) : Option (Job × Bool) :=
  [2, 1, 0].findSome? (fun k => match d.suspendedJob k with
    | some j => some (j, true)
    | none => (d.newJob k).map (fun j => (j, false)))

/-- A job leaves its queue. -/
def Device.unqueueJob (d : Device) (j : Job) (was : Bool) : Device :=
  if was then
    let l := d.cry.suspended.erase j
    Device.put { d with cry := { d.cry with suspended := l } } Obj.cryContextSlotsUsed l.length
  else { d with cry := { d.cry with queue := d.cry.queue.erase j, lastSource := j.sourceNo } }

/-- KEY_SERIAL of the configuration and keys that CRY holds as current: while the front has not reached CRY, that of the copy
before the flip. -/
def Device.serialNow (d : Device) (s : Nat) : Nat :=
  let now := d.saCopyNow
  let next := d.activeCopy 7
  let n := (d.saState s).serial
  if (d.ptr islCRY).parity = (d.ptr islMGT).parity ∨ (d.saRecord now s = d.saRecord next s ∧ d.saKeys now s = d.saKeys next s)
  then n else (n + 2 ^ 32 - 1) % 2 ^ 32

/-- A job loads the current configuration and keys; one that resumes to find another KEY_SERIAL is to end with KEY_CHANGED
(R275). -/
def Device.loadJob (d : Device) (j : Job) : Job :=
  let cp := d.saCopyNow
  let n := d.serialNow j.sa
  if j.forced.isSome then j
  else if j.serial.isSome ∧ j.serial ≠ some n then { j with forced := some jsKEYCHANGED }
  else { j with serial := some n, loaded := d.saRecord cp j.sa, keys := d.saKeys cp j.sa }

/-- A job runs on an engine with the current configuration and keys. -/
def Device.runOn (d : Device) (e : Nat) (j : Job) : Device :=
  let j := d.loadJob j
  let d : Device := { d with cry := { d.cry with running := d.cry.running.put e j } }
  (d.put (Obj.engineState e) (min j.cls 2 + 1)).tallyPlain islCRY 3 1

/-- What becomes of a new job: whether it starts, or else the status it ends with, and what the check counts. -/
def Device.admitJob (d : Device) (j : Job) : Device × Option Nat :=
  match d.jobAllowed j with
  | (d, false) => (d, some jsDENIED)
  | (d, true) => match d.startStatus j with
    | some st => (if st = jsENERGY then d.bulkRefused (d.saNow j.sa).tenant else d, some st)
    | none => (d, none)

/-- A job chosen for an engine runs on it, or ends at once. -/
def Device.startJob (d : Device) (e : Nat) (j : Job) (was : Bool) : Device :=
  let d := d.unqueueJob j was
  if was then d.runOn e j
  else match d.admitJob j with
    | (d, some st) => d.endEmpty j st
    | (d, none) => d.runOn e j

/-- The lowest-numbered idle engine. -/
def Device.idleEngine (d : Device) : Option Nat := (List.range 16).find? (fun e => (d.cry.running.find e).isNone)

/-- The victim of a preemption: the lowest-numbered engine of the lowest class below SQUALL that runs (R277). -/
def Device.victim (d : Device) : Option (Nat × Job) :=
  [0, 1].findSome? (fun k => d.cry.running.find? (fun e => min e.2.cls 2 == k && e.2.forced.isNone))

/-- A job stops at a 16-byte block boundary, no further than byte `limit`, with its last block to come: which boundary it has
reached is open (log entry 1). -/
def Device.stopAt (d : Device) (j : Job) (limit : Nat) : Device × Job :=
  let r := d.takeFree
  let blocks := min (j.length / 16) (limit / 16 + 1) - j.position / 16
  (r.2, { j with position := j.position + 16 * (r.1 % max 1 blocks) })

/-- A SQUALL job preempts the victim. -/
def Device.preempt (d : Device) (e : Nat) (v j : Job) : Device :=
  match d.admitJob j with
  | (d, some st) => (d.unqueueJob j false).endEmpty j st
  | (d, none) =>
    let r := d.stopAt v v.length
    let l := r.1.cry.suspended ++ [{ r.2 with preemptions := v.preemptions + 1 }]
    let d : Device := { r.1 with cry := { r.1.cry with suspended := l } }
    let d := ((d.put Obj.cryContextSlotsUsed l.length).bump Obj.cryPreemptions).tallyPlain islCRY 4 1
    ((d.fire islCRY 521 e).unqueueJob j false).runOn e j

/-- The job sequencer serves the next job: on an idle engine, or a SQUALL job by preemption (R276, R277). -/
def Device.serveJob (d : Device) : Device :=
  match d.idleEngine with
  | some e => match d.nextJob with
    | some (j, was) => d.startJob e j was
    | none => d
  | none => match d.newJob 2, d.victim with
    | some j, some (e, v) =>
      if d.cry.suspended.length < 1024 then d.preempt e v j
      else if j.waited then d
      else
        let q := d.cry.queue.map (fun x => if x = j then { x with waited := true } else x)
        Device.bump { d with cry := { d.cry with queue := q } } Obj.crySquallWaits
    | _, _ => d

/-- JOB_START (R276). -/
def execJobStart (s : State) : Host.Outcome State Fault Refusal :=
  if s.d.dataRuns then .next { s with d := s.d.serveJob } else .next s

/-! ### Completing jobs -/

/-- The AES blocks that a job has put through its engine up to the byte it has reached are counted and charged to the tenant of
its SA (R335). -/
def Device.chargeBlocks (d : Device) (j : Job) : Device :=
  let m := j.unitsAt j.position
  let n := j.blocks m + (j.position - m * j.unit) / 16
  (d.tallyPlain islCRY 2 n).spend islCRY 5 (SaCfg.ofBytes j.loaded).tenant n

/-- A job ends at the byte it has reached, with the blocks of its units charged.  A flush writes the units done alone; the other
statuses leave what the unit in hand had written (Table 9-8). -/
def Device.finishJob (d : Device) (j : Job) (status : Nat) (input : Bytes) : Device :=
  let m := j.unitsAt j.position
  let d := d.chargeBlocks j
  d.endJob j status m (if status = jsFROST then j.run input m else j.runTo input j.position)

/-- A job on an engine ends: with the status forced on it, with a source read that fails at a byte, or done. -/
def Device.completeJob (d : Device) (j : Job) (read : Bytes) (failedAt : Option Nat) : Device :=
  let hosted := j.sourceNo != 16
  let d := if hosted then d.dmaRead else d
  let b := j.image read
  let d := match j.forced, (if hosted then failedAt else none) with
    | some st, _ => d.finishJob j st b
    | none, some n =>
      let x := d.stopAt j n
      x.1.finishJob x.2 jsDMAERROR b
    | none, none =>
      let j := { j with position := j.length }
      d.finishJob j (if (j.run b j.units).2.2.isEmpty then jsOK else jsAUTHFAIL) b
  if hosted && failedAt.isSome then d.ringFailed (128 + j.sourceNo) else d

/-- JOB_COMPLETE (R405): the job of an engine ends; `read` is what the reads of its source gave, data and then tags, and
`failedAt` the byte of the job where a read failed (R408).  Posted writes are not checked. -/
def execJobComplete (e : Fin 16) (read : Bytes) (failedAt : Option Nat) (s : State) : Host.Outcome State Fault Refusal :=
  match s.d.dataRuns, s.d.cry.running.find e with
  | false, _ => .next s
  | true, none => .next s
  | true, some j =>
    let d : Device := { s.d with cry := { s.d.cry with running := s.d.cry.running.drop e } }
    let d := (d.put (Obj.engineState e) 0).bump (Obj.engineJobs e)
    .next { s with d := d.completeJob j read failedAt }

/-! ### What a flush or an FLR does to jobs (R278, Table 15-8) -/

/-- A flush of an SA, or of a tenant's SAs: queued jobs complete with FROST; running and suspended ones stop. -/
def Device.flushJobs (d : Device) (hit : Device → Job → Bool) : Device :=
  let mine := d.cry.queue.filter (hit d)
  let d : Device := { d with cry := { d.cry with queue := d.cry.queue.filter (fun j => !hit d j) } }
  let d := mine.foldl (fun d j => d.endEmpty j jsFROST) d
  let d : Device := { d with cry := { d.cry with
    suspended := d.cry.suspended.map (fun j => if hit d j ∧ j.forced = none then { j with forced := some jsFROST } else j) } }
  d.cry.running.foldl (fun d e =>
    if hit d e.2 ∧ e.2.forced = none then
      let r := d.stopAt e.2 e.2.length
      { r.1 with cry := { r.1.cry with running := r.1.cry.running.put e.1 { r.2 with forced := some jsFROST } } }
    else d) d

/-- A job on an engine is stopped where it has come to, for good. -/
def Device.abandonJob (d : Device) (e : Nat × Job) : Device :=
  let x := d.stopAt e.2 e.2.length
  let j := if e.2.forced.isSome then e.2 else x.2
  (x.1.chargeBlocks j).put (Obj.engineState e.1) 0

/-- The jobs of a function's rings are discarded, with no completion; the blocks they had run stand. -/
def Device.discardJobs (d : Device) (hit : Job → Bool) : Device :=
  let d := (d.cry.running.filter (fun e => hit e.2)).foldl Device.abandonJob d
  let d := (d.cry.suspended.filter hit).foldl Device.chargeBlocks d
  let l := d.cry.suspended.filter (fun j => !hit j)
  Device.put { d with cry := { d.cry with
    queue := d.cry.queue.filter (fun j => !hit j), suspended := l
    running := d.cry.running.filter (fun e => !hit e.2) } } Obj.cryContextSlotsUsed l.length

/-! ### Tenant key delivery (R280, R281) -/

/-- The seed of a tenant's ML-KEM key pair (R391). -/
def Device.kemSeedOf (d : Device) (t : Nat) : Bytes := hkdfExpand d.sec.kemSeed (ascii "SV1280-KEM" ++ beBytes 2 t) 64

/-- The key record a delivery carries, if every check of the unwrap passes. -/
def Device.unwrapKey (d : Device) (b : Bytes) (t s : Nat) : Option Bytes :=
  let ss := kemDecapsulate (d.kemSeedOf t) (slice b 54 1088)
  let kek := hmac ss (ascii "SV1280-KW" ++ beBytes 2 t ++ beBytes 2 s)
  match keyUnwrap kek (slice b 1142 112) with
  | none => none
  | some k =>
    if beAt k 0 2 = s ∧ beAt k 2 2 = 0 ∧ (d.saState s).epoch < beAt k 4 4 then some k else none

/-- Whether a tenant may deliver a key to an SA, with what a refusal counts: R272, a TYPE, KEY_LOAD in its RIGHTS, and
KEY_LOAD on the SA (R280). -/
def Device.mayDeliver (d : Device) (t s : Nat) : Device × Bool :=
  let par := (d.ptr islCRY).parity
  if t ≠ (d.saNow s).tenant then (d, false)
  else match d.askKey par t s rKEYUSE with
    | (d, false) => (d, false)
    | (d, true) =>
      if (d.saNow s).ty = 0 ∨ !(d.cfg islCRY par (Obj.tenRights t)).testBit rKEYLOAD ∨ d.get Obj.lifecycle = 3 then (d, false)
      else d.askKey par t s rKEYLOAD

/-- A delivery is handled: the key enters the shadow copy, or a failure is answered. -/
def Device.deliverKey (d : Device) (b : Bytes) (t cls : Nat) : Device :=
  let s := beAt b 22 2
  match d.mayDeliver t s with
  | (d, false) => d.deliveryFailed b cls s jsDENIED
  | (d, true) => match d.unwrapKey b t s with
    | none => d.deliveryFailed b cls s jsUNWRAP
    | some k =>
      if d.noShadow 7 then d.deliveryFailed b cls s jsBUSY
      else
        let d := d.stageBytes Obj.domSaKeys (128 * s) (slice k 8 96 ++ zeros 32)
        let d := d.setSa s { d.saState s with pendingEpoch := some (beAt k 4 4) }
        let d := (d.bump Obj.cryKeyDeliveries).tallyPlain islCRY 6 1
        d.sectorReply b cls s (d.saCfg d.saCopyNow s) jsOK false []

/-- KEY_DELIVER (R280): the oldest delivery that waits. -/
def execKeyDeliver (s : State) : Host.Outcome State Fault Refusal :=
  match s.d.dataRuns, s.d.cry.deliveries with
  | false, _ => .next s
  | true, [] => .next s
  | true, (b, t, cls) :: rest =>
    .next { s with d := Device.deliverKey { s.d with cry := { s.d.cry with deliveries := rest } } b t cls }

end Sys2Proof.Machine
end

