-- ==== Sys2Proof/Machine/HostInterface.lean ====
section
/-!
DEFINITION. The host interface (chapter 15): the link and its functions, doorbells, receive and inject rings, the
slow-path policer, function level reset, and the mailbox's GO (R73).
-/
namespace Sys2Proof.Machine

/-- Whether a function can be reached over the link. -/
def Device.fnReached (d : Device) (fn : Nat) : Bool := d.host.inL0 && d.fnExists fn && d.devState != stRESET

/-! ### The mailbox (Tables 2-14 to 2-16) -/

/-- STATE of MB_STATUS: a mailbox reads BUSY while the management cores restart (R437). -/
def Device.mailboxState (d : Device) (fn : Nat) : Nat := if d.sys.restarting then 1 else (d.mailbox fn).state

/-- A write that is ignored while STATE is BUSY is counted (R74). -/
def Device.mailboxMisuse (d : Device) (fn : Nat) : Device :=
  let m := d.mailbox fn
  (d.setMailbox fn { m with misuse := satAdd 8 m.misuse 1 }).bump Obj.svcMailboxMisuseCount

/-- GO: the service takes the request buffer. -/
def Device.mailboxSubmit (d : Device) (fn : Nat) : Device :=
  let m := d.mailbox fn
  let d := (d.setMailbox fn { m with state := 1 }).tallyPlain islMGT 4 1
  { d with svc := { d.svc with waiting := d.svc.waiting ++ [{ src := .mailbox fn, msg := fit 4096 m.request }] } }

/-- Whether a host access to a register is an aligned 32-bit one; any other has no effect (R400). -/
def wordAccess (off size : Nat) : Bool := off % 4 == 0 && size == 4

/-- A write of MB_CTRL (Table 2-14): IRQ_EN is written in any state; GO submits the request buffer, or is ignored and counted
while the mailbox is BUSY (R73). -/
def Device.mailboxCtrl (d : Device) (fn : Nat) (go irqEn : Bool) : Device :=
  let d := d.setMailbox fn { d.mailbox fn with irqEn := irqEn }
  if !go then d else if d.mailboxState fn = 1 then d.mailboxMisuse fn else d.mailboxSubmit fn

/-- A write of a run of 32-bit words to the request buffer; while the mailbox is BUSY each of them is ignored and counted
(R74). -/
def Device.mailboxBuffer (d : Device) (fn off : Nat) (data : Bytes) : Device :=
  let m := d.mailbox fn
  if d.mailboxState fn = 1 then (List.range (data.length / 4)).foldl (fun d _ => d.mailboxMisuse fn) d
  else d.setMailbox fn { m with request := (splice (fit 4096 m.request) off data).take 4096 }

/-- A host's write of 32-bit words to a mailbox at an offset (Table 2-13); MB_STATUS, the response buffer and the reserved
offsets take none. -/
def Device.mailboxWrite (d : Device) (fn off : Nat) (data : Bytes) : Device :=
  if off % 4 ≠ 0 ∨ data.length % 4 ≠ 0 ∨ data.length = 0 then d
  else if off = 0 then d.mailboxCtrl fn (bit (leAt data 0 4) 0) (bit (leAt data 0 4) 8)
  else if 0x1000 ≤ off ∧ off < 0x2000 then d.mailboxBuffer fn (off - 0x1000) (data.take (0x2000 - off))
  else d

/-- MAILBOX_GO (R73): the host writes to its mailbox: the request buffer, or MB_CTRL with GO. -/
def execMailboxGo (fn : Fin 32) (offset : Nat) (data : Bytes) (s : State) : Host.Outcome State Fault Refusal :=
  if s.d.fnReached fn then .next { s with d := s.d.mailboxWrite fn offset data } else .next s

/-- A 32-bit word of a mailbox as the host reads it (Tables 2-13 to 2-15). -/
def Device.mailboxWord (d : Device) (fn off : Nat) : Nat :=
  let m := d.mailbox fn
  if off = 0 then b2n m.irqEn * 2 ^ 8
  else if off = 4 then d.mailboxState fn + m.misuse * 2 ^ 8 + m.completions * 2 ^ 16
  else if 0x1000 ≤ off ∧ off < 0x2000 then leAt m.request (off - 0x1000) 4
  else if 0x2000 ≤ off ∧ off < 0x3000 then leAt m.response (off - 0x2000) 4
  else 0

/-! ### The link and its functions (R398, R399, R417) -/

/-- Messages that waited only for DMA are sent (R364). -/
def Device.sendHeld (d : Device) : Device :=
  d.ev.vectors.foldl (fun d e => if e.2.waiting then d.sendMsix (e.1 / 2048) (e.1 % 2048) else d) d

/-- The link takes a rate and a width; rate 0 is down. -/
def Device.setPcie (d : Device) (rate width : Nat) : Device :=
  let d := (d.put Obj.hostLinkRate rate).put Obj.hostLinkWidth width
  Device.sendHeld { d with host := { d.host with inL0 := rate != 0 } }

/-- FIRST_ENTRY_TO_L0 (R417): PERST_N has risen, and the link has trained. -/
def execFirstEntryToL0 (rate width : Nat) (s : State) : Host.Outcome State Fault Refusal :=
  if s.d.devState ≠ stRESET ∧ !s.d.host.everL0 then
    let d : Device := { s.d with host := { s.d.host with everL0 := true }, sys := { s.d.sys with perstN := true } }
    .next { s with d := d.setPcie (rate % 256) (width % 256) }
  else .next s

/-- PCIE_LINK_CHANGE (R398): a change of rate or width after the first entry to L0. -/
def execPcieLinkChange (rate width : Nat) (s : State) : Host.Outcome State Fault Refusal :=
  let same := s.d.get Obj.hostLinkRate = rate % 256 ∧ s.d.get Obj.hostLinkWidth = width % 256
  if s.d.host.everL0 ∧ !same then
    .next { s with d := (s.d.fire islMGT 864 (rate % 256 + width % 256 * 2 ^ 8)).setPcie (rate % 256) (width % 256) }
  else .next s

/-- NumVFs and VF Enable are written; functions that cease to exist lose their configuration space. -/
def Device.setVfs (d : Device) (n : Nat) (on : Bool) : Device :=
  let d : Device := { d with host := { d.host with numVfs := n, vfEnable := on } }
  let d : Device := { d with host := { d.host with
    busMaster := d.host.busMaster.filter (fun f => d.fnExists f)
    relaxed := (List.range 32).filter (fun f => !d.fnExists f || d.host.relaxed.contains f) } }
  d.put Obj.hostNumVfs (if on then n else 0)

/-- VF_ENABLE (R399): NumVFs and VF Enable are written in the PF's configuration space. -/
def execVfEnable (numVfs : Fin 32) (enable : Bool) (s : State) : Host.Outcome State Fault Refusal :=
  if s.d.fnReached 0 then .next { s with d := s.d.setVfs numVfs enable } else .next s

/-- A function put into a set of functions, or taken out of it. -/
def withFn (l : List Nat) (fn : Nat) (on : Bool) : List Nat :=
  let l := l.filter (fun f => f != fn)
  if on then fn :: l else l

/-- BUS_MASTER_ENABLE (R399): a configuration write of Bus Master Enable, and of Enable Relaxed Ordering where it is written
too (Table 15-1, log entry 48). -/
def execBusMasterEnable (fn : Fin 32) (control : Sys2Proof.BusControl) (s : State) : Host.Outcome State Fault Refusal :=
  if s.d.fnReached fn then
    let h := s.d.host
    let d : Device := { s.d with host := { h with
      busMaster := withFn h.busMaster fn control.master
      relaxed := match control.relaxed with
        | some b => withFn h.relaxed fn b
        | none => h.relaxed } }
    .next { s with d := d.sendHeld }
  else .next s

/-! ### Doorbells (R400, R402) -/

/-- A doorbell write that is not accepted. -/
def Device.doorbellReject (d : Device) (fn off : Nat) : Device :=
  (d.bump Obj.hostDoorbellRejects).fireOf islMGT 865 fn (fn * 2 ^ 16 + off) 0

/-- A doorbell write to ring `g` at BAR2 offset `off`; where it is accepted the ring takes the value as `set` says. -/
def Device.doorbell (d : Device) (fn g off v : Nat) (set : Ring → Nat → Ring) : Device :=
  if d.ringRuns g ∧ d.owner g = fn ∧ d.fnActive fn ∧ v < d.get (Obj.ringEntries g) ∧ v < 65536 then
    match d.ringRight g with
    | (d, true) => d.setRing g (set (d.ring g) v)
    | (d, false) => d.doorbellReject fn off
  else d.doorbellReject fn off

/-- A doorbell that posts. -/
def setTail (x : Ring) (v : Nat) : Ring := { x with tail := v, doorbell := v }

/-- A doorbell that consumes completions: CHEAD advances to a value, around a ring of `n` slots (R405). -/
def setChead (n : Nat) (x : Ring) (v : Nat) : Ring :=
  { x with chead := v, compDoorbell := v, unread := x.unread - (v + n - x.chead) % n }

/-- RX_DOORBELL (R402); an access of another size or alignment has no effect (R400). -/
def execRxDoorbell (fn : Fin 32) (r : Fin 64) (write : Sys2Proof.HostWrite) (s : State) : Host.Outcome State Fault Refusal :=
  if s.d.fnReached fn && wordAccess (8 * r) write.size then
    .next { s with d := s.d.doorbell fn r (8 * r) write.value setTail }
  else .next s

/-- INJECT_DOORBELL (R402). -/
def execInjectDoorbell (fn : Fin 32) (r : Fin 64) (write : Sys2Proof.HostWrite) (s : State) : Host.Outcome State Fault Refusal :=
  if s.d.fnReached fn && wordAccess (0x200 + 8 * r) write.size then
    .next { s with d := s.d.doorbell fn (64 + r) (0x200 + 8 * r) write.value setTail }
  else .next s

/-- JOB_DOORBELL (R402). -/
def execJobDoorbell (fn : Fin 32) (r : Fin 16) (write : Sys2Proof.HostWrite) (s : State) : Host.Outcome State Fault Refusal :=
  if s.d.fnReached fn && wordAccess (0x400 + 8 * r) write.size then
    .next { s with d := s.d.doorbell fn (128 + r) (0x400 + 8 * r) write.value setTail }
  else .next s

/-- COMPLETION_DOORBELL (R402). -/
def execCompletionDoorbell (fn : Fin 32) (r : Fin 16) (write : Sys2Proof.HostWrite) (s : State) : Host.Outcome State Fault Refusal :=
  if s.d.fnReached fn && wordAccess (0x480 + 8 * r) write.size then
    .next { s with d := s.d.doorbell fn (128 + r) (0x480 + 8 * r) write.value (setChead (s.d.get (Obj.ringEntries (128 + r)))) }
  else .next s

/-- EVENT_HEAD_WRITE (R400): as a write of RING_HEAD; one that is out of range is counted in DOORBELL_REJECTS. -/
def execEventHeadWrite (fn : Fin 32) (write : Sys2Proof.HostWrite) (s : State) : Host.Outcome State Fault Refusal :=
  if s.d.fnReached fn && wordAccess 0x11000 write.size then
    if write.value < s.d.get (Obj.erRingEntries fn) then .next { s with d := s.d.put (Obj.erRingHead fn) write.value }
    else .next { s with d := s.d.bump Obj.hostDoorbellRejects }
  else .next s

/-! ### Ring control (R401, R408) -/

/-- A write of a host ring's ENABLE that is accepted. -/
def Device.hostRingSet (d : Device) (g v : Nat) : Device :=
  let d := d.put (Obj.ringEnable g) v
  if v = 1 then d.setRing g { d.ring g with
    head := 0, tail := 0, chead := 0, ctail := 0, phase := true, taken := 0, done := 0, unread := 0 }
  else d

/-- Whether a write of ENABLE = 1 returns STATE. -/
def Device.ringUnready (d : Device) (g : Nat) : Bool :=
  let bad := fun (v : Nat) => v == 0 || v % 4096 != 0
  let fn := d.owner g
  bad (d.get (Obj.ringBase g)) || !d.fnExists fn || decide ((if fn = 0 then 256 else 8) ≤ d.get (Obj.ringVector g))
  || (decide (128 ≤ g) && (bad (d.get (Obj.ringCompBase (g - 128))) || d.get (Obj.ringCompTailAddr (g - 128)) % 8 != 0))

/-- RING_DMA_ERROR (R408): a DMA read of a ring that runs fails. -/
def execRingDmaError (g : Fin 144) (s : State) : Host.Outcome State Fault Refusal :=
  if s.d.ringRuns g then .next { s with d := s.d.ringFailed g } else .next s

/-! ### Slow-path receive rings (R403) -/

/-- The receive ring of a frame, by its reason's entry of RX_RING_MAP. -/
def Device.rxRing (d : Device) (f : Frame) : Nat :=
  let e := beNat (d.arrRead islMGT Obj.domRxRingMap (4 * (f.reason % 256)) 4)
  (bits e 13 8 + f.tenant % 2 ^ bits e 2 0) % 64

/-- The policer's bucket now, in µb (R403, R312). -/
def Device.policerNow (d : Device) : Nat :=
  (refill (if d.host.policerFull then none else some d.host.policer) (d.now - d.host.policerAt)
    (d.arr islMGT Obj.hostSlowpathRate) (d.arr islMGT Obj.hostSlowpathBurst)).toNat

/-- The receive descriptor written back (Table 15-6), with the class that the copy has been queued under (R300). -/
def rxDescriptor (now : Nat) (f : Frame) (cls len : Nat) (phase : Bool) : Bytes :=
  let parser := decide (1 ≤ f.reason) && decide (f.reason ≤ 5)
  let loc := if parser then f.trapNode else if f.reason = 8 then f.result.stopAddr else 0
  leBytes 8 now ++ leBytes 2 len ++ [byte f.reason, byte (b2n phase + 2 * b2n f.parity), byte f.port, byte (f.pass + 8 * cls)]
  ++ leBytes 2 f.tenant ++ leBytes 2 loc ++ leBytes 2 (if parser then f.trapOff else 0)
  ++ leBytes 2 (if f.viaEngine then f.domain else 0) ++ zeros 2 ++ leBytes 8 (if f.viaEngine then f.mword.getD 0 0 else 0)

/-- A descriptor of a ring is written back at HEAD, and HEAD advances. -/
def Device.writeBack (d : Device) (g : Nat) (b : Bytes) : Device :=
  let x := d.ring g
  let next := d.ringNext g x.head
  let d := d.ringDma g (d.get (Obj.ringBase g) + 32 * x.head) b false
  d.setRing g { x with head := next, phase := if next = 0 then !x.phase else x.phase }

/-- The frame passes the policer and is written to its posted buffer. -/
def Device.rxWrite (d : Device) (g i : Nat) (addr : Nat) (b : Bytes) : Device :=
  let f := d.frame (d.copyRec i).frame
  let d := d.ringDma g addr b true
  let d := d.writeBack g (rxDescriptor d.now f (d.copyRec i).cls b.length (d.ring g).phase)
  ((d.bump (Obj.ringEntriesDone g)).ringNotify g).consumeCopy i

/-- A frame dropped by the ring writer, with its counter. -/
def Device.rxDrop (d : Device) (i counter : Nat) : Device := (d.bump counter).dropCopy i

/-- The checks of R403 past the first, with the posted descriptor at HEAD.  A skipped descriptor is written back with TIMESTAMP
and PHASE, and zero elsewhere (Table 15-6). -/
def Device.rxPosted (d : Device) (g i : Nat) (desc : Bytes) : Device :=
  let c := d.copyRec i
  let b := c.out.getD []
  let len := leAt desc 8 4
  if len < 64 ∨ 16384 < len then
    (d.writeBack g (leBytes 8 d.now ++ zeros 3 ++ [byte (b2n (d.ring g).phase)] ++ zeros 20)).ringNotify g
  else if len < b.length then d.rxDrop i (Obj.ringRxTooLongDrops g)
  else
    let have_ := d.policerNow
    let cost := (d.copyAcct c).toNat * 8000000
    let ok := decide (cost ≤ have_)
    let d : Device := { d with host := { d.host with
      policer := if ok then have_ - cost else have_, policerAt := d.now, policerFull := false } }
    if ok then d.rxWrite g i (leAt desc 0 8) b else d.rxDrop i Obj.hostPolicerDrops

/-- The ring writer takes the first frame chosen at port 128. -/
def Device.slowpath (d : Device) (i : Nat) (desc : Option Bytes) : Device :=
  let g := d.rxRing (d.frame (d.copyRec i).frame)
  if !d.ringRuns g ∨ !d.fnActive (d.owner g) then d.rxDrop i (Obj.ringRxDisabledDrops g)
  else match d.ringRight g with
    | (d, false) => d.rxDrop i (Obj.ringRxDisabledDrops g)
    | (d, true) =>
      if (d.ring g).head = (d.ring g).tail then (d.rxDrop i (Obj.ringRxNoBufferDrops g)).fireOf islMGT 867 g g 0
      else match desc with
        | none => (d.dmaRead.ringFailed g).rxDrop i (Obj.ringRxDisabledDrops g)
        | some b => d.dmaRead.rxPosted g i b

/-- SLOWPATH_RING_WRITE (R403); `desc` is what the read of the posted descriptor gives, should one be read. -/
def execSlowpathRingWrite (desc : Option Bytes) (s : State) : Host.Outcome State Fault Refusal :=
  match s.d.dataRuns, (s.d.port 128).tx with
  | true, i :: _ => .next { s with d := s.d.slowpath i desc }
  | _, _ => .next s

/-! ### Inject rings (R404) -/

/-- The status of an inject descriptor that hands no frame on (Table 15-7), or `none`. -/
def injectStatus (allowed : Bool) (b : Bytes) : Option Nat :=
  let ctl := byteAt b 10
  let pg := byteAt b 11
  let port := leAt b 12 2
  let len := leAt b 8 2
  let queueMode := bit ctl 0
  if !allowed then some 5
  else if ctl / 16 ≠ 0 ∨ pg / 4 ≠ 0 ∨ leAt b 16 8 ≠ 0 ∨ (queueMode ∧ 127 < port) ∨ (pg ≠ 0 ∧ port ≠ 0) then some 2
  else if len < 60 ∨ 10236 < len then some 1
  else none

/-- The frame an inject descriptor hands on, in PARSER or QUEUE mode. -/
def Device.injectHand (d : Device) (b frame : Bytes) : Device :=
  let ctl := byteAt b 10
  let cls := bits ctl 3 1
  let f : Frame := { bytes := fit (leAt b 8 2) frame, port := 128, origin := 128, cls := cls, entered := d.now, since := d.now }
  if bit ctl 0 then
    let port := leAt b 12 2
    let n := d.pkt.nextFrame
    (d.admitDirect (port / 32 % 4) f (port, leAt b 14 2)).land n
  else
    let pg := byteAt b 11 % 4
    let n := d.pkt.nextFrame
    let d : Device := { d with pkt := { d.pkt with
      frames := d.pkt.frames.put n { f with pg := pg, stage := .injectWait }, nextFrame := n + 1 } }
    d.setPg pg { d.pgs pg with inject := (d.pgs pg).inject ++ [n] }

/-- Whether an inject descriptor names a port group: by PG in PARSER mode, by an external PORT in QUEUE mode. -/
def injectNames (b : Bytes) : Bool := if bit (byteAt b 10) 0 then decide (leAt b 12 2 ≤ 127) else decide (byteAt b 11 ≤ 3)

/-- Whether the target of an inject descriptor can accept a frame: room for 64 frames in the inject queue, or landing
room at the admission input, for no more than the longest frame. -/
def Device.injectRoom (d : Device) (b : Bytes) : Bool :=
  if bit (byteAt b 10) 0 then decide (granules (min (leAt b 8 2) 10236) ≤ d.landingFree (leAt b 12 2 / 32 % 4))
  else decide ((d.pgs (byteAt b 11 % 4)).inject.length < 64)

/-- An inject descriptor is written back with a status. -/
def Device.injectBack (d : Device) (g : Nat) (b : Bytes) (status : Nat) : Device :=
  (d.writeBack g (slice b 0 24 ++ [byte status, byte (b2n (d.ring g).phase)] ++ zeros 6)).ringNotify g

/-- Whether a descriptor can be taken from an inject ring. -/
def Device.injectReady (d : Device) (g : Nat) : Bool :=
  d.dataRuns && d.ringRuns g && d.fnActive (d.owner g) && (d.ring g).head != (d.ring g).tail

/-- The target of an inject descriptor: a port group's inject queue, or 4 and its admission input. -/
def injectTarget (b : Bytes) : Nat := if bit (byteAt b 10) 0 then 4 + leAt b 12 2 / 32 % 4 else byteAt b 11 % 4

/-- Whether no ring that waits for a target comes before ring `g` in rotation, after the ring that was served last (R404). -/
def Device.injectFirst (d : Device) (g t : Nat) : Bool :=
  let after := fun (x : Nat) => (x + 127 - d.host.injectLast.getD (fun _ => 127) t) % 64
  (d.host.injectWaits.filter (fun e => e.2 == t && e.1 != g && d.injectReady e.1)).all (fun e => decide (after g ≤ after e.1))

/-- A ring waits for a target. -/
def Device.injectWait (d : Device) (g t : Nat) : Device :=
  { d with host := { d.host with injectWaits := d.host.injectWaits.filter (fun e => e.1 != g) ++ [(g, t)] } }

/-- A ring has been served at a target. -/
def Device.injectServed (d : Device) (g t : Nat) : Device :=
  { d with host := { d.host with
      injectWaits := d.host.injectWaits.filter (fun e => e.1 != g), injectLast := d.host.injectLast.put t g } }

/-- The descriptor of an inject ring is taken: answered with the status of a descriptor that hands no frame on, or with what the
read of its buffer gives. -/
def Device.injectAnswer (d : Device) (g : Nat) (b : Bytes) (frame : Option Bytes) : Device :=
  let r := d.dmaRead.ringRight g
  match injectStatus r.2 b, frame with
  | some st, _ => r.1.injectBack g b st
  | none, none => (r.1.dmaRead.injectBack g b 3).ringFailed g
  | none, some x => ((r.1.dmaRead.injectHand b x).bump (Obj.ringEntriesDone g)).injectBack g b 0

/-- The inject descriptor at HEAD is taken, or its ring waits for room and its turn.  One that names no port group has no target to
wait for (DESIGN CHOICE, log entry 56). -/
def Device.injectTake (d : Device) (g : Nat) (b : Bytes) (frame : Option Bytes) : Device :=
  let t := injectTarget b
  if !injectNames b then d.injectAnswer g b frame
  else if !d.injectRoom b ∨ !d.injectFirst g t then d.injectWait g t
  else (d.injectAnswer g b frame).injectServed g t

/-- INJECT_DESCRIPTOR_TAKE (R404): `desc` and `frame` are what the reads of the descriptor and its buffer give. -/
def execInjectDescriptorTake (r : Fin 64) (desc : Option Bytes) (frame : Option Bytes) (s : State) :
    Host.Outcome State Fault Refusal :=
  let d := s.d
  let g := 64 + r.val
  if d.injectReady g then
    match desc with
    | none => .next { s with d := d.dmaRead.ringFailed g }
    | some b => .next { s with d := d.injectTake g b frame }
  else .next s

/-! ### Function level reset (R409) -/

/-- Waiting requests of a source that goes away: COMMITs are dropped, the others run without a response (Tables 2-16,
8-5). -/
def Svc.forsake (v : Svc) (gone : Source → Bool) : Svc :=
  let mark := fun (w : Waiting) => if gone w.src then { w with discard := true } else w
  { v with
    waiting := (v.waiting.filter (fun w => !(gone w.src && w.request.op == opCOMMIT))).map mark
    committing := v.committing.map mark }

/-- The rings of a function are disabled, and its jobs discarded (Table 15-8). -/
def Device.ringsOff (d : Device) (fn : Nat) : Device :=
  let mine := (List.range 144).filter (fun g => d.owner g == fn)
  let d := mine.foldl (fun d g => d.put (Obj.ringEnable g) 0) d
  d.discardJobs (fun j => match j.source with
    | .ring r => mine.contains (128 + r)
    | .sector _ _ _ _ => false)

/-- Whether a source is a function's mailbox. -/
def Source.isMailbox (s : Source) (fn : Nat) : Bool :=
  match s with
  | .mailbox f => f == fn
  | _ => false

/-- One function is reset; its configuration space returns to its initial state, as PCI Express requires. -/
def Device.flrOne (d : Device) (fn : Nat) : Device :=
  let m := d.mailbox fn
  let d := d.setMailbox fn { m with
    state := 0, irqEn := false, misuse := 0
    request := if m.state = 2 then [] else m.request, response := if m.state = 2 then [] else m.response }
  let d : Device := { d with
    svc := d.svc.forsake (fun s => s.isMailbox fn)
    sys := { d.sys with restartRequest := d.sys.restartRequest.map (fun w =>
      if w.src.isMailbox fn then { w with discard := true } else w) } }
  let d := (d.put (Obj.erRingEnable fn) 0).ringsOff fn
  let d : Device := { d with
    host := { d.host with busMaster := withFn d.host.busMaster fn false, relaxed := withFn d.host.relaxed fn true }
    ev := { d.ev with vectors := d.ev.vectors.filter (fun e => e.1 / 2048 != fn), fnMasked := d.ev.fnMasked.erase fn } }
  d.fireOf islMGT 868 fn fn 0

/-- What an FLR of the PF adds. -/
def Device.flrPf (d : Device) : Device :=
  let d := (List.range 31).foldl (fun d i => if d.fnExists (i + 1) then d.flrOne (i + 1) else d) d
  let d := (((d.telemSet 0).put Obj.sringEnable 0).put Obj.exportEnable 0).put Obj.hostLastGaspEnable 0
  d.setVfs d.host.numVfs false

/-- A function level reset. -/
def Device.flr (d : Device) (fn : Nat) : Device := if fn = 0 then (d.flrOne 0).flrPf else d.flrOne fn

/-- FLR (R409). -/
def execFlr (fn : Fin 32) (s : State) : Host.Outcome State Fault Refusal :=
  if s.d.fnReached fn then .next { s with d := s.d.flr fn } else .next s

end Sys2Proof.Machine
end

