-- ==== Sys2Proof/Machine/Frost.lean ====
section
/-!
DEFINITION. Frost (R98 to R103, Tables 3-8 to 3-10, R294): the in-flight work of a function, its flush, and the state
machine of Table 3-9.
-/
namespace Sys2Proof.Machine

/-! ### Functions (Table 3-8) -/

/-- Whether a class and instance name a function that Frost takes (R99). -/
def frostable (cls inst : Nat) : Bool :=
  match cls with
  | 1 => decide (1 ≤ inst) && decide (inst < 4096)
  | 2 => decide (inst < 128)
  | 3 => decide (inst < 16)
  | 4 => decide (inst < 65536)
  | 5 => decide (1 ≤ inst) && decide (inst < 32)
  | 6 => decide (inst < 32)
  | _ => false

/-- FROSTING_COUNT. -/
def Device.frostingCount (d : Device) : Nat := (d.frost.filter (fun e => e.2.state == 1)).length

/-- The detail of events 950 and 951. -/
def frostDetail (cls inst : Nat) : Nat := cls * 2 ^ 56 + inst

/-! ### In-flight work (Table 3-10) -/

/-- The SA a job names belongs to a tenant, as the job loaded it or as the SA stands. -/
def Device.jobTenant (d : Device) (j : Job) : Nat :=
  if j.serial.isSome then (SaCfg.ofBytes j.loaded).tenant else (d.saCfg d.saCopyNow j.sa).tenant

/-- Every job in the sequencer and on the engines. -/
def Device.allJobs (d : Device) : List Job := d.cry.queue ++ d.cry.suspended ++ d.cry.running.map Prod.snd

/-- Whether a function has in-flight work. -/
def Device.inFlight (d : Device) (cls inst : Nat) : Bool :=
  match cls with
  | 1 => d.pkt.frames.any (fun e => e.2.tenant == inst) || d.eng.threads.any (fun e => e.2.tenant == inst)
      || d.allJobs.any (fun j => d.jobTenant j == inst) || d.cry.deliveries.any (fun x => x.2.1 == inst)
  | 2 => d.pkt.copies.any (fun e => e.2.port == inst)
  | 3 => d.clusterBusy inst
  | 4 => (d.cry.suspended ++ d.cry.running.map Prod.snd).any (fun j => j.sa == inst)
  | 5 => d.cry.running.any (fun e => match e.2.source with
      | .ring r => d.owner (128 + r) == inst
      | .sector _ _ _ _ => false)
  | 6 => d.liveChains.any (fun e => e.2.pool == inst && (!(d.frostFn 6 inst).flushing || e.2.holder.isNone))
  | _ => false

/-! ### Flushes (R101, R278, R294) -/

/-- Copies are dropped by a flush, save those whose transmission has begun; each frame is counted once. -/
def Device.frostDropCopies (d : Device) (ids : List Nat) : Device :=
  let ids := ids.filter (fun i => !d.onWire i)
  let frames := (ids.map (fun i => (d.copyRec i).frame)).eraseDups
  let d := frames.foldl (fun d i => d.frostDrop (d.frame i).tenant) d
  ids.foldl (fun d i => d.dropCopy i) d

/-- The copies of frames that satisfy a test. -/
def Device.copiesWhere (d : Device) (hit : Copy → Bool) : List Nat := (d.pkt.copies.filter (fun e => hit e.2)).map Prod.fst

/-- A frame of a tenant whose flush runs: one that no thread has is removed where it stands; a result in the reorder stage
becomes a DROP (R101). -/
def Device.flushFrame (d : Device) (i : Nat) : Device :=
  let f := d.frame i
  let gone := (if f.denied then d else d.frostDrop f.tenant).leave i
  match f.stage with
  | .merge => gone
  | .parser => gone
  | .decrypt => gone
  | .dispatchWait => gone
  | .reorder => d.flushResult i
  | .injectWait => d
  | .thread => d
  | .admitting => d
  | .switched => d

/-- The key deliveries of a flushed tenant that wait end with status FROST, as its queued jobs do: the spec names the jobs alone
(DESIGN CHOICE, log entry 56).  The one output frame of R274 is then at admission, where R102 has it; no delivery failure is
counted, since none of R280's checks has failed. -/
def Device.flushDeliveries (d : Device) (t : Nat) : Device :=
  let mine := d.cry.deliveries.filter (fun x => x.2.1 == t)
  let d : Device := { d with cry := { d.cry with deliveries := d.cry.deliveries.filter (fun x => x.2.1 != t) } }
  mine.foldl (fun d x => d.sectorReply x.1 x.2.2 (beAt x.1 22 2) (d.saNow (beAt x.1 22 2)) jsFROST false []) d

/-- The flush of a tenant: frames outside threads now, those in threads at their next YIELD or END, those at admission
there (R102), and those that reach a stage later as they reach it (`Device.sweep`, `Device.passResult`). -/
def Device.flushTenant (d : Device) (t : Nat) : Device :=
  let mine := (d.pkt.frames.filter (fun e => e.2.tenant == t)).map Prod.fst
  let d := mine.foldl (fun d i => d.flushFrame i) d
  let d := d.frostDropCopies (d.copiesWhere (fun c => (d.frame c.frame).tenant == t))
  (d.flushDeliveries t).flushJobs (fun d j => d.jobTenant j == t)

/-- The flush of a port.  That of a hard Frost ends a hold that runs by flush, with LULL_FLUSHED (Table 4-9); the one that a soft
Frost's deadline forces empties the queues and leaves the hold to run on, since no row of the table names it (R9). -/
def Device.flushFrostPort (d : Device) (p : Nat) (hard : Bool) : Device :=
  if hard ∧ d.holding p then
    let frames := ((d.heldCopies p).map (fun i => (d.copyRec i).frame)).eraseDups
    (frames.foldl (fun d i => d.frostDrop (d.frame i).tenant) d).holdFlush p
  else d.frostDropCopies (d.copiesWhere (fun c => c.port == p))

/-- The flush of a pool (R294). -/
def Device.flushPool (d : Device) (p : Nat) : Device :=
  let d := d.frostDropCopies (d.copiesWhere (fun c => !c.released && (d.chain c.chain).pool == p))
  (d.liveChains.filter (fun e => e.2.pool == p && !e.2.frame)).foldl (fun d e =>
    if e.2.holder.isNone then d.release e.1 else d.setChain e.1 { e.2 with doomed := true }) d

/-- A flush of a function starts, of a hard Frost or forced at a deadline.  That of a cluster stops its threads at their next YIELD or END; that of a VF lets DMA
already started complete. -/
def Device.startFlush (d : Device) (cls inst : Nat) (hard : Bool) : Device :=
  let d := d.setFrost cls inst { d.frostFn cls inst with deadline := none, flushing := true }
  match cls with
  | 1 => d.flushTenant inst
  | 2 => d.flushFrostPort inst hard
  | 4 => d.flushJobs (fun _ j => j.sa == inst)
  | 6 => d.flushPool inst
  | _ => d

/-! ### The state machine (Table 3-9) -/

/-- A function takes a Frost state with no flush and no deadline. -/
def Device.frostTo (d : Device) (cls inst n : Nat) : Device :=
  d.setFrost cls inst { d.frostFn cls inst with state := n, deadline := none, flushing := false }

/-- A FROSTING function without in-flight work becomes FROZEN, with event 950. -/
def Device.frostSettle (d : Device) (cls inst : Nat) : Device :=
  if d.frostState cls inst = 1 ∧ !d.inFlight cls inst then
    let d := (d.frostTo cls inst 2).fire islMGT 950 (frostDetail cls inst)
    if cls = 3 then d.clusterFrozen inst else d
  else d

/-- An ACTIVE function stops admission. -/
def Device.frostBegin (d : Device) (cls inst : Nat) (deadline : Option Nat) : Device :=
  let d := d.setFrost cls inst { state := 1, asked := d.now, deadline := deadline, flushing := false }
  if cls = 3 then d.recheck else d

/-- OK once the function is FROZEN, else PENDING (R98). -/
def Device.frostAnswer (d : Device) (cls inst : Nat) : Device × Code :=
  (d, if d.frostState cls inst = 2 then .ok else .pending)

/-- SOFT: `us_` is DEADLINE_US. -/
def Device.frostSoft (d : Device) (cls inst us_ : Nat) : Device × Code :=
  match d.frostState cls inst with
  | 0 =>
    let t := if us_ = 0 then d.get Obj.deadlineDefault else us_
    ((d.frostBegin cls inst (some (d.now + us t))).frostSettle cls inst).frostAnswer cls inst
  | 1 => (d, .pending)
  | 2 => (d, .ok)
  | _ => (d, .state)

/-- HARD. -/
def Device.frostHard (d : Device) (cls inst : Nat) : Device × Code :=
  match d.frostState cls inst with
  | 0 => (((d.frostBegin cls inst none).startFlush cls inst true).frostSettle cls inst).frostAnswer cls inst
  | 1 => ((d.startFlush cls inst true).frostSettle cls inst, .pending)
  | 2 => (d, .ok)
  | _ => (d, .state)

/-- THAW. -/
def Device.frostThaw (d : Device) (cls inst : Nat) : Device × Code :=
  match d.frostState cls inst with
  | 0 => (d, .ok)
  | 2 => ((d.frostTo cls inst 0).recheck, .ok)
  | _ => (d, .state)

/-- The key material and the anti-replay state of an SA are erased; KEY_EPOCH is kept (chapter 09). -/
def Device.eraseSa (d : Device) (s : Nat) : Device :=
  let d := (d.copyWrite false Obj.domSaKeys (128 * s) (zeros 128)).copyWrite true Obj.domSaKeys (128 * s) (zeros 128)
  d.setSa s { d.saState s with isSealed := false, rxHigh := 0, accepted := [], waiting := [], pendingEpoch := none }

/-- Whether a request came in band from a tenant. -/
def Source.fromTenant (x : Source) (t : Nat) : Bool :=
  match x with
  | .inband u _ _ _ => u == t
  | _ => false

/-- A tenant's in-band requests are discarded (Table 3-10): those that wait, and the response of one that waits for a flip. -/
def Device.dropInband (d : Device) (t : Nat) : Device :=
  { d with svc := { d.svc with
      waiting := d.svc.waiting.filter (fun w => !w.src.fromTenant t)
      committing := d.svc.committing.map (fun w => if w.src.fromTenant t then { w with discard := true } else w) } }

/-- The class action of DISABLE (Table 3-10).  A link that it takes down from UP fires cause DOWN (R112) and leaves LINK_DOWNS as it
is: no row of Table 4-4 says (DESIGN CHOICE, log entry 56).  A port's hold that runs is ended by Table 4-9's rows alone (R9); a pool's chain
stays HELD until its thread ends (R288), and its FREE_CELLS, now 0, is the lowest that LOW_FREE knows (R294). -/
def Device.disableAction (d : Device) (cls inst : Nat) : Device :=
  match cls with
  | 1 => d.dropInband inst
  | 2 => d.leaveTo inst lkOFF
  | 3 => if d.get (Obj.clLoadState inst) = ldLOADED then d.unloadCluster inst else d
  | 4 => d.eraseSa inst
  | 5 => (d.put (Obj.erRingEnable inst) 0).ringsOff inst
  | 6 => (d.liveChains.filter (fun e => e.2.pool == inst)).foldl (fun d e =>
      (d.setChain e.1 { e.2 with doomed := false }).release e.1) (d.put (Obj.poolLowFree inst) 0)
  | _ => d

/-- DISABLE. -/
def Device.frostDisable (d : Device) (cls inst : Nat) : Device × Code :=
  if d.frostState cls inst = 2 then ((d.frostTo cls inst 3).disableAction cls inst, .ok) else (d, .state)

/-- ENABLE; the link of a port whose ENABLE is set starts again (log entry 13). -/
def Device.frostEnable (d : Device) (cls inst : Nat) : Device × Code :=
  if d.frostState cls inst = 3 then
    let d := d.frostTo cls inst 2
    (if cls = 2 then d.startLink inst else d, .ok)
  else (d, .state)

/-- A hard Frost made by an unresolved triplicated field (R103, Table 2-6), however many functions are FROSTING (DESIGN CHOICE, log
entry 56). -/
def Device.frostByUpset (d : Device) (cls inst : Nat) : Device := (d.frostHard cls inst).1

/-! ### FROST_REQUEST (R98 to R100, R427) -/

/-- The fields of FROST_REQUEST. -/
structure FrostAsk where
  cls : Nat
  command : Nat
  deadlineUs : Nat
  inst : Nat
  deriving DecidableEq, Repr

/-- FROST_REQUEST as Table 3-8 lays it out; its bits [31:16] are reserved and ignored (R2). -/
def FrostAsk.ofNat (v : Nat) : FrostAsk := ⟨bits v 63 56, bits v 55 52, bits v 51 32, bits v 15 0⟩

/-- Whether the written value breaks R99. -/
def FrostAsk.bad (a : FrostAsk) : Bool :=
  !frostable a.cls a.inst || a.command == 0 || decide (5 < a.command)
  || (a.deadlineUs != 0 && (a.command != 1 || decide (a.deadlineUs < 10) || decide (1000000 < a.deadlineUs)))

/-- Whether a cluster's LOAD_STATE is DRAINING, LOADING or TESTING. -/
def Device.reloading (d : Device) (c : Nat) : Bool := decide (1 ≤ d.get (Obj.clLoadState c)) && decide (d.get (Obj.clLoadState c) ≤ 3)

/-- BUSY or STATE before Table 3-9 is consulted (R100, R107, R427). -/
def Device.frostGate (d : Device) (a : FrostAsk) : Option Code :=
  let stops := a.command == 1 || a.command == 2
  let active := d.frostState a.cls a.inst == 0
  if a.cls = 3 ∧ (stops ∨ a.command = 4) ∧ d.reloading a.inst then some .busy
  else if stops ∧ active ∧ 64 ≤ d.frostingCount then some .busy
  else if a.cls = 3 ∧ stops ∧ active ∧ (List.range 16).all (fun c => c == a.inst || d.frostState 3 c != 0) then some .state
  else if a.cls = 2 ∧ a.command = 5 ∧ d.quadStaged a.inst then some .state
  else none

/-! ### Commands -/

/-- A soft Frost's deadline is reached: the flush of the remainder starts (R101). -/
def Device.frostForce (d : Device) (cls inst : Nat) : Device :=
  let d := (d.fire islMGT 951 (frostDetail cls inst)).bump Obj.forcedCount
  (d.startFlush cls inst false).frostSettle cls inst

/-- FROST_DEADLINE (R101). -/
def execFrostDeadline (fn : FnId) (s : State) : Host.Outcome State Fault Refusal :=
  let d := s.d
  match (d.frostFn fn.cls fn.inst).deadline with
  | some t =>
    if frostable fn.cls fn.inst ∧ d.frostState fn.cls fn.inst = 1 ∧ t ≤ d.now ∧ d.inFlight fn.cls fn.inst then
      .next { s with d := d.frostForce fn.cls fn.inst }
    else .next s
  | none => .next s

/-- FROST_COMPLETE (R101). -/
def execFrostComplete (fn : FnId) (s : State) : Host.Outcome State Fault Refusal :=
  if frostable fn.cls fn.inst then .next { s with d := s.d.frostSettle fn.cls fn.inst } else .next s

end Sys2Proof.Machine
end

