-- ==== Sys2Proof/Machine/Slh.lean ====
section
/-!
DEFINITION. The signatures of the boot and security controller: SLH-DSA with SHA-2 (FIPS 205), in the pure form with an empty
context string, in the three parameter sets that chapter 14 names.  The model's reading of that standard is log entry 2.
-/
namespace Sys2Proof.Machine

/-! ### Parameter sets and addresses -/

/-- A parameter set: the bytes of a hash value, the height of the hypertree and its layers, the height and number of the
few-time trees, the bytes of a message digest, and whether the wide hash serves. -/
structure Slh where
  n : Nat
  height : Nat
  layers : Nat
  a : Nat
  k : Nat
  digest : Nat
  wide : Bool
  deriving DecidableEq, Repr

/-- SLH-DSA-SHA2-128f, of the identity and alias keys. -/
def slh128f : Slh := ⟨16, 66, 22, 6, 33, 34, false⟩

/-- SLH-DSA-SHA2-192s, of an owner key of 48 bytes. -/
def slh192s : Slh := ⟨24, 63, 7, 14, 17, 39, true⟩

/-- SLH-DSA-SHA2-256s, of the vendor root and of an owner key of 64 bytes. -/
def slh256s : Slh := ⟨32, 64, 8, 14, 22, 47, true⟩

/-- The height of one layer's tree. -/
def Slh.tree (p : Slh) : Nat := p.height / p.layers

/-- The chains of a one-time key: two for each byte of a hash value, and three for the checksum. -/
def Slh.chains (p : Slh) : Nat := 2 * p.n + 3

/-- A hash address: the layer, the tree in it, what is hashed, and the three words whose meaning that decides. -/
structure Adrs where
  layer : Nat := 0
  tree : Nat := 0
  kind : Nat := 0
  pair : Nat := 0
  x : Nat := 0
  y : Nat := 0
  deriving DecidableEq, Repr

/-- The compressed form of an address. -/
def Adrs.bytes (t : Adrs) : Bytes :=
  byte t.layer :: beBytes 8 t.tree ++ byte t.kind :: beBytes 4 t.pair ++ beBytes 4 t.x ++ beBytes 4 t.y

/-! ### The hash functions -/

/-- A hash value of `n` bytes under the public seed, one block long with its zeros, and an address. -/
def Slh.tweaked (p : Slh) (h : Sha2) (seed : Bytes) (t : Adrs) (m : Bytes) : Bytes :=
  (h.hash (fit (2 * h.width) seed ++ t.bytes ++ m)).take p.n

/-- The hash of one value, and the one that draws a secret value. -/
def Slh.single (p : Slh) : Bytes → Adrs → Bytes → Bytes := p.tweaked sha256Of

/-- The hash that the parameter set uses for more than one value, for messages and for their randomizer. -/
def Slh.hashOf (p : Slh) : Sha2 := if p.wide then sha512Of else sha256Of

/-- The hash of several values. -/
def Slh.several (p : Slh) : Bytes → Adrs → Bytes → Bytes := p.tweaked p.hashOf

/-! ### Merkle trees -/

/-- The node at a height and index of a tree over `leaf`. -/
def merkle (leaf : Nat → Bytes) (join : Nat → Nat → Bytes → Bytes) : Nat → Nat → Bytes
  | 0, i => leaf i
  | z + 1, i => join (z + 1) i (merkle leaf join z (2 * i) ++ merkle leaf join z (2 * i + 1))

/-- The siblings on the way from leaf `i` up through `z` levels. -/
def siblings (leaf : Nat → Bytes) (join : Nat → Nat → Bytes → Bytes) (z i : Nat) : Bytes :=
  (List.range z).flatMap (fun j => merkle leaf join j (i >>> j ^^^ 1))

/-- The root that leaf `i` with value `v` and its siblings lead to. -/
def climb (join : Nat → Nat → Bytes → Bytes) (v : Bytes) (path : List Bytes) (i : Nat) : Bytes :=
  path.zipIdx.foldl (fun v s => join (s.2 + 1) (i >>> (s.2 + 1)) (if i.testBit s.2 then s.1 ++ v else v ++ s.1)) v

/-- The join of a tree whose addresses have a kind. -/
def Slh.join (p : Slh) (seed : Bytes) (t : Adrs) (z i : Nat) (m : Bytes) : Bytes :=
  p.several seed { t with x := z, y := i } m

/-! ### One-time signatures -/

/-- The 4-bit digits of a value with the three of its checksum. -/
def chainDigits (m : Bytes) : List Nat :=
  let ds := m.flatMap (fun b => [b.toNat / 16, b.toNat % 16])
  let c := (ds.map (fun x => 15 - x)).sum
  ds ++ [c / 256, c / 16 % 16, c % 16]

/-- A chain from position `i`, `s` steps on. -/
def Slh.chain (p : Slh) (seed : Bytes) (t : Adrs) : Nat → Nat → Bytes → Bytes
  | _, 0, v => v
  | i, s + 1, v => p.chain seed t (i + 1) s (p.single seed { t with y := i } v)

/-- The start of chain `c` of a one-time key. -/
def Slh.chainStart (p : Slh) (sk seed : Bytes) (t : Adrs) (c : Nat) : Bytes :=
  p.single seed { t with kind := 5, x := c } sk

/-- The leaf of a one-time key whose chains end in `ends`. -/
def Slh.leafOf (p : Slh) (seed : Bytes) (t : Adrs) (ends : Bytes) : Bytes := p.several seed { t with kind := 1 } ends

/-- Leaf `i` of a layer's tree. -/
def Slh.leaf (p : Slh) (sk seed : Bytes) (t : Adrs) (i : Nat) : Bytes :=
  let t := { t with pair := i }
  p.leafOf seed t ((List.range p.chains).flatMap (fun c => p.chain seed { t with x := c } 0 15 (p.chainStart sk seed t c)))

/-- The one-time signature of a value under leaf `t.pair`. -/
def Slh.chainSign (p : Slh) (sk seed : Bytes) (t : Adrs) (m : Bytes) : Bytes :=
  (chainDigits m).zipIdx.flatMap (fun e => p.chain seed { t with x := e.2 } 0 e.1 (p.chainStart sk seed t e.2))

/-- The leaf that a one-time signature of a value leads to. -/
def Slh.chainLeaf (p : Slh) (seed : Bytes) (t : Adrs) (sig m : Bytes) : Bytes :=
  p.leafOf seed t ((chainDigits m).zipIdx.flatMap (fun e =>
    p.chain seed { t with x := e.2 } e.1 (15 - e.1) (slice sig (p.n * e.2) p.n)))

/-! ### The hypertree -/

/-- The root of one layer's tree. -/
def Slh.layerRoot (p : Slh) (sk seed : Bytes) (t : Adrs) : Bytes :=
  merkle (p.leaf sk seed t) (p.join seed { t with kind := 2 }) p.tree 0

/-- One layer's signature of a value under leaf `i`. -/
def Slh.layerSign (p : Slh) (sk seed : Bytes) (t : Adrs) (i : Nat) (m : Bytes) : Bytes :=
  p.chainSign sk seed { t with pair := i } m ++ siblings (p.leaf sk seed t) (p.join seed { t with kind := 2 }) p.tree i

/-- The bytes of one layer's signature. -/
def Slh.layerSize (p : Slh) : Nat := p.n * (p.chains + p.tree)

/-- The root that one layer's signature of a value under leaf `i` leads to. -/
def Slh.layerClimb (p : Slh) (seed : Bytes) (t : Adrs) (i : Nat) (sig m : Bytes) : Bytes :=
  climb (p.join seed { t with kind := 2 }) (p.chainLeaf seed { t with pair := i } sig m)
    (chunks p.n (sig.drop (p.n * p.chains))) i

/-- The address of a layer and the leaf in it, above leaf `leaf` of tree `tree` in layer 0. -/
def Slh.above (p : Slh) (tree leaf j : Nat) : Adrs × Nat :=
  ({ layer := j, tree := tree >>> (p.tree * j) }, if j = 0 then leaf else tree >>> (p.tree * (j - 1)) % 2 ^ p.tree)

/-- The signature of a value by the hypertree: each layer signs the root of the one below. -/
def Slh.hyperSign (p : Slh) (sk seed m : Bytes) (tree leaf : Nat) : Bytes :=
  ((List.range p.layers).foldl (fun s j =>
    let e := p.above tree leaf j
    (s.1 ++ p.layerSign sk seed e.1 e.2 s.2, p.layerRoot sk seed e.1)) (([], m) : Bytes × Bytes)).1

/-- The root of the hypertree that a signature of a value leads to. -/
def Slh.hyperClimb (p : Slh) (seed sig m : Bytes) (tree leaf : Nat) : Bytes :=
  (List.range p.layers).foldl (fun v j =>
    let e := p.above tree leaf j
    p.layerClimb seed e.1 e.2 (slice sig (p.layerSize * j) p.layerSize) v) m

/-! ### Few-time signatures -/

/-- The secret value of leaf `i` of the few-time trees. -/
def Slh.secret (p : Slh) (sk seed : Bytes) (t : Adrs) (i : Nat) : Bytes := p.single seed { t with kind := 6, y := i } sk

/-- The hash of a secret value. -/
def Slh.hidden (p : Slh) (seed : Bytes) (t : Adrs) (i : Nat) (v : Bytes) : Bytes := p.single seed { t with y := i } v

/-- The digit of each few-time tree: `a` bits of the digest, most significant first. -/
def Slh.indices (p : Slh) (md : Bytes) : List Nat :=
  (List.range p.k).map (fun i => beNat md >>> (8 * md.length - p.a * (i + 1)) % 2 ^ p.a)

/-- The few-time signature of a digest: a secret value and its siblings in every tree. -/
def Slh.fewSign (p : Slh) (sk seed : Bytes) (t : Adrs) (md : Bytes) : Bytes :=
  let leaf := fun i => p.hidden seed t i (p.secret sk seed t i)
  (p.indices md).zipIdx.flatMap (fun e =>
    let i := e.2 * 2 ^ p.a + e.1
    p.secret sk seed t i ++ siblings leaf (p.join seed t) p.a i)

/-- The few-time key that a signature of a digest leads to. -/
def Slh.fewClimb (p : Slh) (seed : Bytes) (t : Adrs) (sig md : Bytes) : Bytes :=
  let part := p.n * (p.a + 1)
  p.several seed { t with kind := 4 } ((p.indices md).zipIdx.flatMap (fun e =>
    let i := e.2 * 2 ^ p.a + e.1
    let s := slice sig (part * e.2) part
    climb (p.join seed t) (p.hidden seed t i (s.take p.n)) (chunks p.n (s.drop p.n)) i))

/-! ### Keys, signing and verification -/

/-- The message as the pure form signs it, with an empty context string. -/
def pureMessage (m : Bytes) : Bytes := 0 :: 0 :: m

/-- What a message's digest selects: the few-time digits, the tree and the leaf. -/
def Slh.select (p : Slh) (r pk m : Bytes) : Bytes × Nat × Nat :=
  let seed := pk.take p.n
  let g := p.hashOf.mask (r ++ seed ++ p.hashOf.hash (r ++ pk ++ m)) p.digest
  let md := ceilDiv (p.k * p.a) 8
  let high := p.height - p.tree
  (g.take md, beAt g md (ceilDiv high 8) % 2 ^ high, beAt g (md + ceilDiv high 8) (ceilDiv p.tree 8) % 2 ^ p.tree)

/-- The address of the few-time key of a leaf. -/
def fewAddress (tree leaf : Nat) : Adrs := { tree := tree, kind := 3, pair := leaf }

/-- The public key of a secret key's three seeds: SK.seed, SK.prf and PK.seed. -/
def Slh.publicKey (p : Slh) (seeds : Bytes) : Bytes :=
  let seed := slice seeds (2 * p.n) p.n
  seed ++ p.layerRoot (seeds.take p.n) seed { layer := p.layers - 1 }

/-- The signature of a message under a secret key's seeds, with the randomizer's fresh bytes. -/
def Slh.sign (p : Slh) (seeds fresh m : Bytes) : Bytes :=
  let sk := seeds.take p.n
  let pk := p.publicKey seeds
  let seed := pk.take p.n
  let m := pureMessage m
  let r := (p.hashOf.hmac (slice seeds p.n p.n) (fresh ++ m)).take p.n
  let s := p.select r pk m
  let t := fewAddress s.2.1 s.2.2
  let few := p.fewSign sk seed t s.1
  r ++ few ++ p.hyperSign sk seed (p.fewClimb seed t few s.1) s.2.1 s.2.2

/-- The bytes of a signature. -/
def Slh.sigSize (p : Slh) : Nat := p.n * (1 + p.k * (p.a + 1)) + p.layerSize * p.layers

/-- Whether a signature of a message verifies under a public key. -/
def Slh.verify (p : Slh) (pk m sig : Bytes) : Bool :=
  let seed := pk.take p.n
  let s := p.select (sig.take p.n) pk (pureMessage m)
  let few := slice sig p.n (p.n * p.k * (p.a + 1))
  let root := p.hyperClimb seed (sig.drop (p.n * (1 + p.k * (p.a + 1))))
    (p.fewClimb seed (fewAddress s.2.1 s.2.2) few s.1) s.2.1 s.2.2
  sig.length == p.sigSize && pk.length == 2 * p.n && root == pk.drop p.n

/-- Whether the signature of the vendor or an owner verifies: a key of 64 bytes is of 256s, and one of 48 of 192s. -/
def slhVerify (pk m sig : Bytes) : Bool :=
  if pk.length = 64 then slh256s.verify pk m sig else slh192s.verify pk m sig

end Sys2Proof.Machine
end

