-- ==== Sys2Proof/Machine/Bundle.lean ====
section
/-!
DEFINITION. The Yuna bundle (chapter 14): its layout (Tables 14-5 to 14-9), the checks of Table 14-11, and the images it
carries.
-/
namespace Sys2Proof.Machine

/-! ### Header and component table (Tables 14-5, 14-6) -/

/-- The bundle's size, as its header gives it. -/
def bundleSize (b : Bytes) : Nat := beAt b 12 4

/-- COMPONENT_COUNT. -/
def bundleCount (b : Bytes) : Nat := beAt b 16 2

/-- SIGBLOCK_OFFSET. -/
def bundleSigOffset (b : Bytes) : Nat := beAt b 28 4

/-- SVN. -/
def bundleSvnOf (b : Bytes) : Nat := byteAt b 9

/-- RMA_AUTH. -/
def bundleRma (b : Bytes) : Bool := bit (byteAt b 11) 0

/-- UPDATE. -/
def bundleUpdate (b : Bytes) : Bool := bit (byteAt b 11) 1

/-- The end of the signed region: that of the image-key block. -/
def signedEnd (b : Bytes) : Nat := 256 + 64 * bundleCount b + 40

/-- A component entry. -/
structure Component where
  ty : Nat
  target : Nat
  offset : Nat
  length : Nat
  imageId : Nat
  version : Nat
  nonce : Bytes
  digest : Bytes
  entry : Bytes
  deriving DecidableEq, Repr

/-- The entry of 64 bytes. -/
def Component.ofBytes (e : Bytes) : Component :=
  { ty := byteAt e 0, target := byteAt e 1, offset := beAt e 4 4, length := beAt e 8 4, imageId := beAt e 12 2
    version := beAt e 16 4, nonce := slice e 20 12, digest := slice e 32 32, entry := e }

/-- The components of a bundle. -/
def components (b : Bytes) : List Component :=
  (List.range (bundleCount b)).map (fun i => .ofBytes (slice b (256 + 64 * i) 64))

/-- The components of a type. -/
def ofType (cs : List Component) (t : Nat) : List Component := cs.filter (fun c => c.ty == t)

/-! ### Check 1: FORMAT -/

/-- Whether a component's LENGTH, TARGET and reserved bytes are as Tables 14-6 and 14-7 require. -/
def Component.formOk (c : Component) : Bool :=
  let size := match c.ty with
    | 1 => decide (c.length ≤ 2097152)
    | 2 => c.length == 8192
    | 3 => c.length == 8192
    | 4 => c.length == 8192
    | 5 => c.length == 229376
    | 6 => c.length == 256
    | 7 => decide (c.length ≤ 524288)
    | _ => false
  size && (if c.ty = 5 ∨ c.ty = 6 then decide (c.target < 4) else c.target == 0)
  && beAt c.entry 2 2 == 0 && beAt c.entry 14 2 == 0 && c.offset % 16 == 0

/-- The first byte after a component's ciphertext and tag. -/
def Component.stop (c : Component) : Nat := c.offset + c.length + 16

/-- Whether the components lie between the image-key block and the signature block and do not overlap. -/
def placed (b : Bytes) (cs : List Component) : Bool :=
  cs.all (fun c => decide (signedEnd b ≤ c.offset) && decide (c.stop ≤ bundleSigOffset b))
  && cs.zipIdx.all (fun x => cs.zipIdx.all (fun y =>
    decide (y.2 ≤ x.2) || decide (x.1.stop ≤ y.1.offset) || decide (y.1.stop ≤ x.1.offset)))

/-- The slots that have an image. -/
def imageSlots (cs : List Component) : List Nat := (ofType cs 5).map (fun c => c.target)

/-- Whether images and their headers pair up, with one IMAGE_ID and VERSION in each slot. -/
def paired (cs : List Component) : Bool :=
  let im := ofType cs 5
  let hd := ofType cs 6
  im.length == hd.length && (imageSlots cs).eraseDups.length == im.length
  && im.all (fun c => hd.any (fun h => h.target == c.target && h.imageId == c.imageId && h.version == c.version))

/-- Whether the component types are those a boot bundle, or an update, may hold. -/
def typesOk (update : Bool) (cs : List Component) : Bool :=
  paired cs && !(imageSlots cs).isEmpty
  && (if update then cs.all (fun c => c.ty == 5 || c.ty == 6)
      else [1, 2, 3, 4, 7].all (fun t => (ofType cs t).length == 1) && (imageSlots cs).contains 0)

/-- Whether the signature block has its length and ends at BUNDLE_SIZE (Table 14-9).  An OWNER_PK_LENGTH that gives the block no
length is no matter of this check but of check 7: the fixed part then lies within the bundle. -/
def sigOk (b : Bytes) : Bool :=
  let o := bundleSigOffset b
  let ends := match beAt b o 2 with
    | 0 => o + 29860 == bundleSize b
    | 48 => o + 29860 + 48 + 16224 == bundleSize b
    | 64 => o + 29860 + 64 + 29792 == bundleSize b
    | _ => decide (o + 29860 ≤ bundleSize b)
  o % 16 == 0 && beAt b (o + 2) 2 == 0 && ends

/-- Check 1 (FORMAT). -/
def formatOk (update : Bool) (b : Bytes) : Bool :=
  let cs := components b
  beAt b 0 4 == 0x59554E41 && beAt b 4 2 == 1 && decide (byteAt b 9 ≤ 64) && byteAt b 10 / 16 == 0 && byteAt b 11 / 4 == 0
  && bundleUpdate b == update && decide (bundleSize b ≤ 8388608)
  && decide (1 ≤ bundleCount b) && decide (bundleCount b ≤ 32) && beAt b 18 2 == 0 && beAt b 20 4 == 256
  && beAt b 24 4 == 256 + 64 * bundleCount b && (slice b 64 192).all (fun x => x == 0)
  && cs.all Component.formOk && placed b cs && typesOk update cs && sigOk b

/-! ### Keys, signatures and contents -/

/-- VENDOR_PK. -/
def vendorPk (b : Bytes) : Bytes := slice b (bundleSigOffset b + 4) 64

/-- VENDOR_SIG. -/
def vendorSig (b : Bytes) : Bytes := slice b (bundleSigOffset b + 68) 29792

/-- OWNER_PK_LENGTH. -/
def ownerPkLength (b : Bytes) : Nat := beAt b (bundleSigOffset b) 2

/-- OWNER_PK. -/
def ownerPk (b : Bytes) : Bytes := slice b (bundleSigOffset b + 29860) (ownerPkLength b)

/-- OWNER_SIG. -/
def ownerSig (b : Bytes) : Bytes :=
  slice b (bundleSigOffset b + 29860 + ownerPkLength b) (if ownerPkLength b = 48 then 16224 else 29792)

/-- The signed region. -/
def signedRegion (b : Bytes) : Bytes := b.take (signedEnd b)

/-- The image key, if its integrity check is intact. -/
def imageKey (f : Assoc Nat) (b : Bytes) : Option Bytes :=
  match fuseKek f with
  | some k => keyUnwrap (beBytes 32 k) (slice b (256 + 64 * bundleCount b) 40)
  | none => none

/-- A component's plaintext, if its tag and digest agree. -/
def Component.plain (c : Component) (b key : Bytes) : Option Bytes :=
  let r := gcmDecrypt key c.nonce (c.entry.take 32) (slice b c.offset c.length) (slice b (c.offset + c.length) 16)
  if r.2 ∧ sha256 r.1 = c.digest then some r.1 else none

/-- The plaintext of the component of a type and target; empty where there is none. -/
def plainOf (b key : Bytes) (ty target : Nat) : Bytes :=
  match (components b).find? (fun c => c.ty == ty && c.target == target) with
  | some c => (c.plain b key).getD []
  | none => []

/-- The DIGEST of the component of a type and target. -/
def digestOf (b : Bytes) (ty target : Nat) : Bytes :=
  match (components b).find? (fun c => c.ty == ty && c.target == target) with
  | some c => c.digest
  | none => []

/-- The image of a slot (Tables 14-7 and 14-8): 48-bit microwords and 256-bit nanowords. -/
def imageOf (b key : Bytes) (slot : Nat) : Image :=
  let h := plainOf b key 6 slot
  let p := plainOf b key 5 slot
  { id := beAt h 0 2, version := beAt h 4 4, hash := beNat (digestOf b 5 slot), yieldBound := beAt h 8 2
    entries := (List.range 64).map (fun i => beAt h (16 + 2 * i) 2)
    micro := (chunks 6 (p.take 98304)).map beNat, nano := (chunks 32 (p.drop 98304)).map beNat }

/-- A small-store image: 1,024 microwords of 4 bytes, then 256 nanowords of 16 bytes. -/
def smallOf (b key : Bytes) (ty : Nat) : SmallStore :=
  let p := plainOf b key ty 0
  { micro := (chunks 4 (p.take 4096)).map beNat, nano := (chunks 16 (p.drop 4096)).map beNat }

/-- Whether a PE_HEADER plaintext agrees with its entry and keeps its reserved bytes zero (part of FORMAT, checked once it
can be read). -/
def headerOk (b key : Bytes) (c : Component) : Bool :=
  let h := plainOf b key 6 c.target
  beAt h 0 2 == c.imageId && beAt h 2 2 == 0 && beAt h 4 4 == c.version && beAt h 10 6 == 0
  && (slice h 144 112).all (fun x => x == 0) && (List.range 64).all (fun i => decide (beAt h (16 + 2 * i) 2 ≤ 0x3FFF))

/-! ### The checks (Table 14-11) -/

/-- The bundle data held: BUNDLE_TRANSFER up to BUNDLE_SIZE (R386). -/
def Device.bundle (d : Device) : Bytes :=
  d.memRead Obj.domBundleTransfer 0 (min 8388608 (beNat (d.memRead Obj.domBundleTransfer 12 4)))

/-- The lifecycle that governs bundle acceptance: that of the last start (R383). -/
def Device.bootLifecycle (d : Device) : Nat := fuseLifecycle d.sec.scan

/-- Whether the owner's countersignature is needed (Table 14-4). -/
def Device.ownerNeeded (d : Device) : Bool := d.bootLifecycle == 1 || d.bootLifecycle == 2

/-- Whether an image slot is bound by a cluster (SLOT BOUND_CLUSTERS). -/
def Device.boundClusters (d : Device) (s : Nat) : Nat :=
  (List.range 16).foldl (fun a c => if d.get (Obj.clImageSlot c) = s then a + 2 ^ c else a) 0

/-- The owner slots that accept a bundle (R384): a slot is usable as its hash rows stand, and a revocation governs from the
next boot. -/
def Device.acceptingSlots (d : Device) (f : Assoc Nat) : List Nat :=
  (List.range 4).filter (fun n => (ownerHash f n).isSome && !ownerRevoked d.sec.scan n)

/-- REJECT_REASON of a bundle: the first check that fails, or 0. -/
def Device.bundleReason (f : Assoc Nat) (d : Device) (update : Bool) (b : Bytes) : Nat :=
  let bind := beAt b 32 16
  let cs := components b
  let sd := signedRegion b
  if !formatOk update b then 1
  else if beAt b 6 2 ≠ 0x1280 ∨ byteAt b 8 ≠ 0xA1 then 2
  else if (bind ≠ 0 ∧ some bind ≠ fuseSerial f) ∨ (bundleRma b ∧ bind = 0) then 3
  else if !bit (byteAt b 10) d.bootLifecycle ∨ (d.bootLifecycle = 3 ∧ !bundleRma b) then 4
  else if some (beNat (sha256 (vendorPk b))) ≠ fuseVendorRoot f then 5
  else if !slhVerify (vendorPk b) sd (vendorSig b) then 6
  else if d.ownerNeeded ∧ ((ownerPkLength b ≠ 48 ∧ ownerPkLength b ≠ 64)
      ∨ (d.acceptingSlots f).all (fun n => ownerHash f n != some (beNat (sha256 (ownerPk b))))) then 7
  else if d.ownerNeeded ∧ !slhVerify (ownerPk b) (sd ++ vendorSig b) (ownerSig b) then 8
  else if bundleSvnOf b < fuseRollback f then 9
  else match imageKey f b with
    | none => 10
    | some key =>
      if cs.any (fun c => (c.plain b key).isNone) then 11
      else if (ofType cs 6).any (fun c => !headerOk b key c) then 1
      else if (imageSlots cs).any (fun s => decide (256 < (imageOf b key s).yieldBound)) then 12
      else if update ∧ (imageSlots cs).any (fun s => d.boundClusters s != 0) then 13
      else 0

end Sys2Proof.Machine
end

