-- ==== Sys2Proof/Machine/Security.lean ====
section
/-!
DEFINITION. The boot and security controller (chapter 14): the phases of a bundle, measurements and keys, fuse burns,
quotes; and what ends LOADING (R424).
-/
namespace Sys2Proof.Machine

/-! ### Measurement registers (R390) -/

/-- A measurement register as 32 bytes. -/
def Device.mr (d : Device) (i : Nat) : Bytes := beBytes 32 (d.get (Obj.mr0 i))

/-- MRi is extended by a digest. -/
def Device.extend (d : Device) (i : Nat) (digest : Bytes) : Device :=
  d.put (Obj.mr0 i) (beNat (sha256 (d.mr i ++ digest)))

/-- TORN_ROWS of the last scan. -/
def Device.tornCount (d : Device) : Nat := (tornRows d.sec.scan).length

/-- MR6 to MR9 are extended for a slot that an image is installed in. -/
def Device.extendSlot (d : Device) (b : Bytes) (slot : Nat) : Device :=
  (d.extend (6 + slot) (digestOf b 6 slot)).extend (6 + slot) (digestOf b 5 slot)

/-- MR0 to MR5 are extended in the order of Table 14-12. -/
def Device.measure (f : Assoc Nat) (d : Device) (b : Bytes) : Device :=
  let d := d.extend 0 (beBytes 32 Config.bootRomDigest)
  let d := d.extend 1 (sha256 (signedRegion b))
  let d := (d.extend 2 (sha256 (vendorPk b))).extend 2 (if d.ownerNeeded then sha256 (ownerPk b) else zeros 32)
  let d := d.extend 3 (sha256 ([byte (fuseLifecycle f), byte (fuseRollback f), byte (bundleSvnOf b), byte (ownerSlots f)]
    ++ beBytes 2 d.tornCount ++ zeros 2))
  let d := (d.extend 4 (digestOf b 1 0)).extend 4 (digestOf b 7 0)
  ((d.extend 5 (digestOf b 2 0)).extend 5 (digestOf b 3 0)).extend 5 (digestOf b 4 0)

/-! ### Keys (R391) -/

/-- The device derives its keys (R391); in RMA it derives none.  The randomizer of a signature is drawn from a free value: the
spec names none (log entry 2). -/
def Device.deriveKeys (f : Assoc Nat) (d : Device) (b : Bytes) : Device :=
  if fuseLifecycle f = 3 then d
  else
    let uds := beBytes 32 ((fuseUds f).getD 0)
    let serial := beBytes 16 ((fuseSerial f).getD 0)
    let mrs := (List.range 6).flatMap d.mr
    let idSeed := hkdfExpand (hmac uds (ascii "SV1280-ID" ++ serial)) (ascii "SLH-128f") 48
    let cdi := hmac uds (ascii "SV1280-CDI" ++ mrs)
    let alias_ := hkdfExpand cdi (ascii "SLH-128f") 48
    let r := d.takeFree
    let cert := slh128f.sign idSeed (beBytes 16 r.1) (ascii "SV1280-ALIAS" ++ serial ++ slh128f.publicKey alias_ ++ mrs
      ++ [byte (fuseLifecycle f), byte (fuseRollback f), byte (bundleSvnOf b)])
    { r.2 with sec := { d.sec with identityKey := slh128f.publicKey idSeed, aliasSeed := alias_,
                                   aliasCert := cert, kemSeed := cdi } }

/-- ALIAS_PUBLIC_KEY. -/
def Device.aliasKey (d : Device) : Bytes :=
  if d.sec.aliasSeed.isEmpty then zeros 32 else slh128f.publicKey d.sec.aliasSeed

/-! ### The phases of a bundle (Table 14-10, R386, R388) -/

/-- WAIT_BUNDLE. -/
def bpWAIT : Nat := 0
/-- RECEIVING. -/
def bpRECEIVING : Nat := 1
/-- VERIFYING. -/
def bpVERIFYING : Nat := 2
/-- LOADING. -/
def bpLOADING : Nat := 3
/-- DONE. -/
def bpDONE : Nat := 4
/-- REJECTED. -/
def bpREJECTED : Nat := 5
/-- FUSE_FAULT. -/
def bpFUSEFAULT : Nat := 6

/-- The object that holds the phase: BOOT_PHASE at boot, else UPDATE_PHASE. -/
def Device.phaseObj (d : Device) : Nat := if d.devState = stBOOT then Obj.bootPhase else Obj.updatePhase

/-- The object that holds the reason. -/
def Device.reasonObj (d : Device) : Nat := if d.devState = stBOOT then Obj.bootRejectReason else Obj.updateRejectReason

/-- The bundle data held is discarded. -/
def Device.clearBundle (d : Device) : Device :=
  { d with dict := { d.dict with mem := d.dict.mem.filter (fun e => e.1 / 2 ^ 32 != Obj.domBundleTransfer) } }

/-- Whether BUNDLE_TRANSFER returns BUSY. -/
def Device.transferBusy (d : Device) : Bool :=
  let p := d.get d.phaseObj
  p == bpVERIFYING || p == bpLOADING || (p == bpDONE && d.devState == stBOOT)

/-- Whether BUNDLE_TRANSFER accepts no bundle: FUSE_FAULT, until a cold reset rescans the fuses (R380). -/
def Device.transferShut (d : Device) : Bool := d.devState == stBOOT && d.get Obj.bootPhase == bpFUSEFAULT

/-- An accepted WRITE_BLOCK to BUNDLE_TRANSFER, with FINAL or not (Table 14-10); after an update, DONE returns to WAIT_BUNDLE
at a write at offset 0 (R388).  One segment at offset 0 with FINAL takes two rows of the table: RECEIVING, then VERIFYING (DESIGN
CHOICE, log entry 35). -/
def Device.transfer (d : Device) (off : Nat) (data : Bytes) (final : Bool) : Device :=
  let o := d.phaseObj
  let boot := d.devState == stBOOT
  let start := off == 0 && d.get o != bpDONE
  let d := if off = 0 ∧ d.get o = bpDONE then d.clearBundle.put o bpWAIT else d
  let d := if start then
      let d := (d.clearBundle.put o bpRECEIVING).put d.reasonObj 0
      if boot then d.put Obj.bootBundleBytes 0 else d
    else d
  if d.get o ≠ bpRECEIVING then d
  else
    let d := d.memWrite Obj.domBundleTransfer off data
    let top := off + data.length - 1
    let d := if boot ∧ !data.isEmpty ∧ d.get Obj.bootBundleBytes < top then d.put Obj.bootBundleBytes top else d
    if final then d.put o bpVERIFYING else d

/-- Verification ends with rejection. -/
def Device.rejectBundle (d : Device) (reason : Nat) : Device :=
  ((d.put d.phaseObj bpREJECTED).put d.reasonObj reason).clearBundle.fire islMGT 801 reason

/-- A version object (Table 7-18): the image's ID, version and the first 8 bytes of its SHA-256. -/
def versionObject (id version hash : Nat) : Nat := id * 2 ^ 112 + version * 2 ^ 64 + hash / 2 ^ 192

/-- An image takes a slot. -/
def Device.install (d : Device) (slot : Nat) (x : Image) : Device :=
  let d : Device := { d with eng := { d.eng with images := d.eng.images.put slot x } }
  ((d.put (Obj.slotPresent slot) 1).put (Obj.slotVersion slot) (versionObject x.id x.version x.hash)).put (Obj.slotYieldBound slot)
    x.yieldBound

/-- The images of a bundle. -/
def bundleImages (f : Assoc Nat) (b : Bytes) : List (Nat × Image) :=
  let key := (imageKey f b).getD []
  (imageSlots (components b)).map (fun s => (s, imageOf b key s))

/-- A boot bundle is accepted: it is measured, the keys are derived, and its images and sequencers are installed. -/
def Device.acceptBoot (f : Assoc Nat) (d : Device) (b : Bytes) : Device :=
  let key := (imageKey f b).getD []
  let d := d.measure f b
  let d := ((List.range 4).filter (fun s => (imageSlots (components b)).contains s)).foldl (fun d s => d.extendSlot b s) d
  let d := d.deriveKeys f b
  let d := (bundleImages f b).foldl (fun d e => d.install e.1 e.2) d
  let small := (([(0, 3), (1, 4), (2, 2)] : List (Nat × Nat)).map (fun e => (e.1, smallOf b key e.2))).foldl
    (fun l e => Assoc.put l e.1 e.2) d.eng.small
  let version := fun (ty : Nat) => match (components b).find? (fun c => c.ty == ty) with
    | some c => versionObject c.imageId c.version (beNat c.digest)
    | none => 0
  let d : Device := { d with eng := { d.eng with small := small } }
  let d := (d.put Obj.cryJobMicroVersion (version 3)).put Obj.cryJobNanoVersion (version 3)
  let d := (d.put Obj.srhMaintMicroVersion (version 4)).put Obj.srhMaintNanoVersion (version 4)
  let d := (d.put Obj.mgtBootMicroVersion (version 2)).put Obj.mgtBootNanoVersion (version 2)
  let d : Device := { d with sec := { d.sec with hbmDone := false, serdesDone := false, rmaAuth := bundleRma b } }
  d.put Obj.bootPhase bpLOADING

/-- Verification ends. -/
def Device.verifyBundle (f : Assoc Nat) (d : Device) : Device :=
  let b := d.bundle
  let update := d.devState != stBOOT
  match d.bundleReason f update b with
  | 0 =>
    if update then
      let d : Device := { d with sec := { d.sec with installs := bundleImages f b } }
      d.put Obj.updatePhase bpLOADING
    else d.acceptBoot f b
  | r => d.rejectBundle r

/-- BUNDLE_VERIFIED (R387). -/
def execBundleVerified (s : State) : Host.Outcome State Fault Refusal :=
  if s.d.awake ∧ s.d.get s.d.phaseObj = bpVERIFYING then .next { s with d := s.d.verifyBundle s.fuses } else .next s

/-- UPDATE_LOADING_DONE (R388, R389): the accepted update's images take their slots; BUNDLE_ID is set as Table 14-10 states,
and BUNDLE_SVN stays that of the boot bundle. -/
def Device.updateDone (d : Device) : Device :=
  let b := d.bundle
  let d := d.sec.installs.foldl (fun d e => (d.install e.1 e.2).extendSlot b e.1) d
  let d : Device := { d with sec := { d.sec with installs := [] } }
  ((d.put Obj.bundleId (beAt b 48 16)).put Obj.updatePhase bpDONE).fire islMGT 800 (bundleSvnOf b)

/-- UPDATE_LOADING_DONE (R388). -/
def execUpdateLoadingDone (s : State) : Host.Outcome State Fault Refusal :=
  if s.d.awake ∧ s.d.get Obj.updatePhase = bpLOADING then .next { s with d := s.d.updateDone } else .next s

/-! ### The end of LOADING at boot (R424) -/

/-- Whether the device is in LOADING at boot. -/
def Device.bootLoading (d : Device) : Bool := d.devState == stBOOT && d.get Obj.bootPhase == bpLOADING

/-- HBM_TRAINING_DONE (R424): bit s of `failed` is set when stack s fails training. -/
def execHbmTrainingDone (failed : Nat) (s : State) : Host.Outcome State Fault Refusal :=
  if s.d.bootLoading ∧ !s.d.sec.hbmDone then
    let d := (setBits 4 failed).foldl (fun d n => d.stackFailed n) s.d
    .next { s with d := { d with sec := { d.sec with hbmDone := true }, sys := { d.sys with hbmSelfRefresh := false } } }
  else .next s

/-- HBM_STACK_FAILED (R439): a stack fails its training, while HBM trains; the other ground, 64 uncorrectable errors within 1 s, is
met as the errors are (`Device.hbmError`). -/
def execHbmStackFailed (stack : Fin 4) (s : State) : Host.Outcome State Fault Refusal :=
  if s.d.bootLoading ∧ !s.d.sec.hbmDone then .next { s with d := s.d.stackFailed stack } else .next s

/-- SERDES_CALIBRATION_DONE (R424). -/
def execSerdesCalibrationDone (s : State) : Host.Outcome State Fault Refusal :=
  if s.d.bootLoading then .next { s with d := { s.d with sec := { s.d.sec with serdesDone := true } } } else .next s

/-- A cluster's load at boot ends: LOADED from its bound slot, or, where the load or the self-test fails or the loader rejects
the image (R207, R216, R222), UNLOADED and FROZEN with event 801. -/
def Device.bootCluster (d : Device) (failed c : Nat) : Device :=
  let slot := d.get (Obj.clImageSlot c)
  let d := d.setCluster c { d.cluster c with
    slot := slot, wasActive := false, resetPending := false, autoPending := false, image := {}, storeErrors := [] }
  if failed.testBit c ∨ !(d.eng.images.getD (fun _ => {}) slot).loadable then ((d.setFrost 3 c { state := 2 }).fire islMGT 801 (c * 256)).clusterTo c ldUNLOADED
  else
    let d := d.setCluster c { d.cluster c with image := d.eng.images.getD (fun _ => {}) slot }
    ((d.takePointer c).bump (Obj.clReloads c)).clusterTo c ldLOADED

/-- The last cluster load has ended: BOOT_PHASE reaches DONE and the device enters INIT, where
accounting starts (R351); the cascade self-test runs. -/
def Device.bootDone (d : Device) (failed : Nat) : Device :=
  let b := d.memRead Obj.domBundleTransfer 0 64
  let d := (List.range 16).foldl (fun d c => d.bootCluster failed c) d
  let d := ((d.put Obj.bundleSvn (bundleSvnOf b)).put Obj.bundleId (beAt b 48 16)).put Obj.bootPhase bpDONE
  let d := (d.fire islMGT 800 (bundleSvnOf b)).enterState stINIT
  let d : Device := { d with
    srh := { d.srh with selftest := true }
    baro := { d.baro with lastClose := d.now / 10000 * 10000, activity := [], thrown := [] } }
  ((List.range 128).foldl (fun d p => d.startLink p) d).recheck

/-- BOOT_LOADING_DONE (R424): bit c of `failed` is set when the load or self-test of ECc fails. -/
def execBootLoadingDone (failed : Nat) (s : State) : Host.Outcome State Fault Refusal :=
  if s.d.bootLoading ∧ s.d.sec.hbmDone ∧ s.d.sec.serdesDone then .next { s with d := s.d.bootDone failed } else .next s

/-! ### Fuse burns (R381 to R385) -/

/-- BURN_STATUS codes. -/
def bsBURNING : Nat := 1
/-- DONE. -/
def bsDONE : Nat := 2
/-- REFUSED_SUPPLY. -/
def bsREFUSED : Nat := 3
/-- TORN. -/
def bsTORN : Nat := 4
/-- ABORTED. -/
def bsABORTED : Nat := 5

/-- The checks of R381 that follow the chapter's own, and the start of the burn. -/
def Device.startBurn (d : Device) (kind : BurnKind) (rows : List (Nat × Nat)) : Device × Code :=
  if d.get Obj.supplyStable = 0 then (d.put Obj.burnStatus bsREFUSED, .state)
  else if d.sec.burn.isSome then (d, .busy)
  else match rows with
    | [] => (d, .ok)
    | _ =>
      let d : Device := { d with sec := { d.sec with burn := some { kind := kind, rows := rows }, burnCut := false } }
      (d.put Obj.burnStatus bsBURNING, .pending)

/-- Whether the device state allows a burn. -/
def Device.burnState (d : Device) : Bool := d.devState == stINIT || d.devState == stTEST

/-- A marker row's word. -/
def markerWord : Nat := fuseWord markerData

/-- The rows of an owner slot's hash; a row whose DATA would be zero is never burned. -/
def ownerRows (n v : Nat) : List (Nat × Nat) :=
  ((List.range 5).map (fun i => (32 + 5 * n + i, fuseData 5 256 v i))).filterMap
    (fun e => if e.2 = 0 then none else some (e.1, fuseWord e.2))

/-- A write of OWNER_KEY_HASH by a master (R381, R384). -/
def Device.writeOwnerKey (f : Assoc Nat) (d : Device) (m n v : Nat) : Device × Code :=
  if m ≠ 4096 then (d, .access)
  else if !d.burnState then (d, .state)
  else if 2 ≤ d.get Obj.lifecycle then (d, .state)
  else if ownerWritten f n then (d, .locked)
  else d.startBurn (.ownerKey n) (ownerRows n v)

/-- A write of OWNER_REVOKE with the value 1. -/
def Device.writeOwnerRevoke (f : Assoc Nat) (d : Device) (m n : Nat) : Device × Code :=
  let lc := d.get Obj.lifecycle
  if m ≠ 4096 then (d, .access)
  else if !d.burnState then (d, .state)
  else if lc = 3 ∨ ((lc = 1 ∨ lc = 2) ∧ (usableSlots f).all (fun k => k == n)) then (d, .state)
  else if ownerRevoked f n then (d, .locked)
  else d.startBurn (.ownerRevoke n) [(52 + n, markerWord)]

/-- A write of ROLLBACK_ADVANCE within its range; one equal to ROLLBACK_COUNT burns nothing. -/
def Device.writeRollback (f : Assoc Nat) (d : Device) (m v : Nat) : Device × Code :=
  let n := fuseRollback f
  if m ≠ 4096 then (d, .access)
  else if !d.burnState then (d, .state)
  else if v = n then (d, .ok)
  else
    let blank := (List.range 64).filter (fun i => fuseRow f (64 + i) == 0)
    d.startBurn (.rollback v) ((blank.take (v - n)).map (fun i => (64 + i, markerWord)))

/-- A write of LIFECYCLE_ADVANCE (R383). -/
def Device.writeLifecycle (f : Assoc Nat) (d : Device) (m v : Nat) : Device × Code :=
  let lc := d.get Obj.lifecycle
  let ok := (v == 1 && lc == 0 && !(usableSlots f).isEmpty) || (v == 2 && lc == 1) || (v == 3 && lc != 3 && d.sec.rmaAuth)
  if m ≠ 4096 then (d, .access)
  else if !d.burnState then (d, .state)
  else if !ok then (d, .state)
  else d.startBurn (.lifecycle v) [(127 + v, markerWord)]

/-- A fuse row that is BLANK takes what was burned; a row once burned is never added to. -/
def burnRow (f : Assoc Nat) (r w : Nat) : Assoc Nat := if fuseRow f r = 0 then f.set (fun _ => 0) r (w % 2 ^ 64) else f

/-- LIFECYCLE takes a value; entering RMA ends the quotes in progress at once (R383). -/
def Device.lifecycleTo (d : Device) (n : Nat) : Device :=
  let d := (d.put Obj.lifecycle n).fire islMGT 805 n
  if n = 3 then { d with sec := { d.sec with quotes := d.sec.quotes.filter (fun e => e.2.status != 1) } } else d

/-- The burn ends with a status after a row; LIFECYCLE follows its marker rows (R383). -/
def Device.endBurn (d : Device) (f : Assoc Nat) (kind : BurnKind) (status row : Nat) : Device :=
  let d : Device := { d with sec := { d.sec with burn := none, burnCut := false } }
  let d := (d.put Obj.burnStatus status).fire islMGT 802 (status + row * 2 ^ 8)
  match kind with
  | .lifecycle _ =>
    let n := fuseLifecycle f
    if n = d.get Obj.lifecycle then d else d.lifecycleTo n
  | .ownerKey _ => d
  | .ownerRevoke _ => d
  | .rollback _ => d

/-- A row's burn has completed and reads back. -/
def Device.rowBurned (d : Device) (f : Assoc Nat) (b : Burn) (row : Nat) (rest : List (Nat × Nat)) : Device :=
  let d := d.bump Obj.burns
  if d.sec.burnCut then d.endBurn f b.kind bsABORTED row
  else if rowState f row = 2 then d.endBurn f b.kind bsTORN row
  else if rest.isEmpty then d.endBurn f b.kind bsDONE row
  else { d with sec := { d.sec with burn := some { b with rows := rest } } }

/-- FUSE_ROW_BURN_DONE (R381): the row in progress reads back as `readback`, VALID or INVALID (R382). -/
def execFuseRowBurnDone (readback : BitVec 64) (s : State) : Host.Outcome State Fault Refusal :=
  match s.d.sec.burn with
  | none => .next s
  | some b => match b.rows with
    | [] => .next s
    | (row, _) :: rest =>
      if readback = 0 then .next s
      else
        let f := burnRow s.fuses row readback.toNat
        .next { s with fuses := f, d := s.d.rowBurned f b row rest }

/-- SUPPLY_STABLE falls, or PFAIL_N asserts, during a burn: no later row is started (R382). -/
def Device.cutBurn (d : Device) : Device := { d with sec := { d.sec with burnCut := d.sec.burn.isSome } }

/-- The supplies have been in range for 10 ms and PFAIL_N is high: SUPPLY_STABLE is 1 while the junction is in range too. -/
def Device.supplyRise (d : Device) : Device :=
  let d : Device := { d with sys := { d.sys with pfailN := true } }
  if d.junctionInRange then d.put Obj.supplyStable 1 else d

/-- SUPPLY_STABLE_RISE (R381); PFAIL_N is high again when it comes, in whatever state the device is (R428). -/
def execSupplyStableRise (s : State) : Host.Outcome State Fault Refusal := .next { s with d := s.d.supplyRise }

/-- SUPPLY_STABLE_FALL (R382). -/
def execSupplyStableFall (s : State) : Host.Outcome State Fault Refusal :=
  .next { s with d := (s.d.put Obj.supplyStable 0).cutBurn }

/-! ### MR_EXTEND (R390) -/

/-- A write of MR_EXTEND whose register number is 10 to 15. -/
def Device.mrExtend (d : Device) (b : Bytes) : Device := d.extend (byteAt b 0) (slice b 1 32)

/-! ### Quotes (R392 to R394) -/

/-- A master's quote. -/
def Device.quote (d : Device) (m : Nat) : Quote := d.sec.quotes.getD (fun _ => {}) m

/-- Set a master's quote. -/
def Device.setQuote (d : Device) (m : Nat) (q : Quote) : Device :=
  { d with sec := { d.sec with quotes := d.sec.quotes.set (fun _ => {}) m q } }

/-- Whether the device serves quotes now. -/
def Device.quoteState (d : Device) : Bool :=
  d.get Obj.lifecycle != 3
  && (d.devState == stINIT || d.devState == stSERVICE || d.devState == stTEST || d.devState == stRECOVERY)

/-- A write of QUOTE_REQUEST by a master that holds its rights (R392). -/
def Device.askQuote (d : Device) (m : Nat) (b : Bytes) : Device × Code :=
  let t := beAt b 32 2
  let tenant := t != 0xFFFF
  if 4143 < m ∨ m < 4096 then (d, .access)
  else if !d.quoteState then (d, .state)
  else if tenant ∧ (t = 0 ∨ !(d.active (Obj.tenRights t)).testBit rATTEST) then (d, .access)
  else if tenant ∧ d.frostState 1 t = 3 then (d, .state)
  else if (d.quote m).status = 1 ∨ 4 ≤ (d.sec.quotes.filter (fun e => e.2.status == 1)).length then (d, .busy)
  else (d.setQuote m { status := 1, request := b, gen := d.get Obj.generation }, .pending)

/-- Byte 1 of an SA's state part (Table 9-3). -/
def Device.saStateByte (d : Device) (s : Nat) : Nat :=
  let x := d.saState s
  let now := d.activeCopy 7
  b2n (d.keyPresent now s) + 2 * b2n x.isSealed + 4 * b2n (d.saKeys now s != d.saKeys (d.shadowCopy 7) s) + 8 * b2n x.exhausted

/-- Whether an access-table entry grants a tenant anything, or reaches its context, keys or counter page (R393). -/
def Device.bearsOn (d : Device) (en tg t : Nat) : Bool :=
  let lo := bits en 15 0
  let hi := bits en 31 16
  let kb := d.active (Obj.tenKeyBase t)
  let kc := d.active (Obj.tenKeyCount t)
  let page := d.active (Obj.tenCounterPage t)
  (decide (bits en 44 32 ≤ t) && decide (t ≤ bits en 57 45))
  || (match tg with
      | 0 => decide (lo ≤ 0xA000 + t) && decide (0xA000 + t ≤ hi)
      | 1 => decide (0 < kc) && decide (lo < kb + kc) && decide (kb ≤ hi)
      | 4 => page != 0xFFFF && decide (lo ≤ page) && decide (page ≤ hi)
      | _ => false)

/-- The bytes of a context's subindex in its Kaznu payload encoding. -/
def Device.contextBytes (d : Device) (t sub : Nat) : Bytes :=
  let k := (0xA000 + t) * 256 + sub
  match rowOf k with
  | some r => beBytes r.ty.size (d.active k)
  | none => []

/-- What the isolation digest of a tenant hashes (R393). -/
def Device.isolationText (d : Device) (t : Nat) : Bytes :=
  let kb := d.active (Obj.tenKeyBase t)
  let entries := (List.range 8).flatMap (fun tg => (List.range 64).flatMap (fun e =>
    let en := d.active (Obj.accEntry tg e)
    if bit en 63 ∧ d.bearsOn en tg t then
      [byte tg, byte e] ++ beBytes 8 en ++ beBytes 2 (d.active (Obj.accClassMask tg (bits en 62 58)))
    else []))
  let sas := (List.range (d.active (Obj.tenKeyCount t))).flatMap (fun i =>
    let s := kb + i
    beBytes 2 s ++ d.saRecord (d.activeCopy 7) s ++ [byte (d.saStateByte s)] ++ beBytes 4 (d.saState s).epoch
      ++ beBytes 4 (d.saState s).serial)
  ascii "SV1280-ISO" ++ beBytes 2 t ++ (List.range 11).flatMap (fun i => d.contextBytes t (i + 1)) ++ entries ++ sas

/-- The quote's bytes before its signature (Table 14-14). -/
def Device.quoteText (f : Assoc Nat) (d : Device) (req : Bytes) : Bytes :=
  let t := beAt req 32 2
  let tenant := t != 0xFFFF
  beBytes 4 0x53565154 ++ [byte 1, byte (b2n tenant), byte (d.get Obj.lifecycle), byte (fuseRollback f)]
  ++ beBytes 16 ((fuseSerial f).getD 0) ++ beBytes 8 d.now ++ beBytes 8 (d.get Obj.generation) ++ slice req 0 32
  ++ (List.range 16).flatMap d.mr
  ++ beBytes 2 (if tenant then t else 0) ++ [byte (d.get Obj.bundleSvn), 0]
  ++ (if tenant then sha256 (d.isolationText t) else zeros 32)
  ++ beBytes 4 (if tenant then d.active (Obj.tenKeyCount t) else 0)
  ++ (if tenant then kemPublicKey (d.kemSeedOf t) else zeros 1184)
  ++ fit 32 d.sec.identityKey ++ d.aliasKey ++ fit 17088 d.sec.aliasCert

/-- A quote is signed with the alias key and stands in the master's buffer. -/
def Device.quoteSigned (f : Assoc Nat) (d : Device) (m : Nat) (q : Quote) : Device :=
  let text := d.quoteText f q.request
  let r := d.takeFree
  (r.2.setQuote m { q with status := 2, body := text ++ slh128f.sign d.sec.aliasSeed (beBytes 16 r.1) text }).fire islMGT 804 m

/-- An attempt at a quote ends (R394): GENERATION is read again, and an attempt that spans a flip is made again, or after four
of them the quote completes with status BUSY. -/
def Device.quoteDone (f : Assoc Nat) (d : Device) (m : Nat) (q : Quote) : Device :=
  let gen := d.get Obj.generation
  if q.gen = gen then d.quoteSigned f m q
  else if q.tries < 3 then d.setQuote m { q with gen := gen, tries := q.tries + 1 }
  else (d.setQuote m { q with status := 3, tries := 4 }).fire islMGT 804 m

/-- QUOTE_DONE (R394). -/
def execQuoteDone (master : Nat) (s : State) : Host.Outcome State Fault Refusal :=
  let q := s.d.quote master
  if q.status = 1 ∧ s.d.quoteState then .next { s with d := s.d.quoteDone s.fuses master q } else .next s

end Sys2Proof.Machine
end

