-- ==== Sys2Proof/Machine/System.lean ====
section
/-!
DEFINITION. Start-up, resets, power fail, temperature and supply (chapter 16), and the pins of chapter 17: PPS, SMBus and
JTAG.
-/
namespace Sys2Proof.Machine

/-! ### Resets (R414, R421, R423, Table 16-5) -/

/-- A fuse row whose burn a reset cuts short holds a free value (R382, log entry 1); one that a falling supply had already made the
last of its burn ends VALID or INVALID, so it is not blank. -/
def Device.cutRow (d : Device) (f : Assoc Nat) : Device × Assoc Nat :=
  match d.sec.burn with
  | some b => match b.rows with
    | (row, _) :: _ =>
      let r := d.takeFree
      (r.2, burnRow f row (if d.sec.burnCut then 1 + r.1 % (2 ^ 64 - 1) else r.1))
    | [] => (d, f)
  | none => (d, f)

/-- Objects that keep their values: those of the PCIe link, the supply monitor, and the count of warm resets. -/
def warmKept : List Nat :=
  [Obj.hostLinkRate, Obj.hostLinkWidth, Obj.hostNumVfs, Obj.vcoreLow, Obj.supplyStable, Obj.warmResets]

/-- A device after a cold reset, in RESET: everything at its default, and its clocks as the supply allows them (R436); the pins
stand. -/
def Device.cold (d : Device) : Device :=
  let y := d.sys
  let e : Device := { free := d.free, out := d.out, sys :=
    { porN := y.porN, warmRstN := y.warmRstN, pfailN := y.pfailN, perstN := y.perstN, trstN := y.trstN, temps := y.temps,
      jtagIr := y.jtagIr,
      bypass := y.bypass, bscan := y.bscan } }
  ((e.put Obj.vcoreLow (d.get Obj.vcoreLow)).put Obj.deviceState stRESET).applyClocks

/-- A device after a warm reset with a cause, in RESET: the PCIe link, its configuration space and the timestamp counter
keep running, the islands' clocks are as the supply allows them (R436), and an unresolved lifecycle field stays so until a cold reset (Table 2-6). -/
def Device.warm (d : Device) (cause : Nat) : Device :=
  let y := d.sys
  let e : Device := {
    now := d.now
    free := d.free
    out := d.out
    svc := { unresolved := d.svc.unresolved.filter (fun x => x / 2 ^ 24 == 0x04) }
    host := { inL0 := d.host.inL0, everL0 := d.host.everL0, numVfs := d.host.numVfs, vfEnable := d.host.vfEnable,
              busMaster := d.host.busMaster, relaxed := d.host.relaxed }
    ev := { vectors := d.ev.vectors.map (fun x => (x.1, { x.2 with due := none, lastAt := none })), fnMasked := d.ev.fnMasked }
    sys := { porN := y.porN, warmRstN := y.warmRstN, pfailN := y.pfailN, perstN := y.perstN, trstN := y.trstN, thermtripN := y.thermtripN, smbAddr := y.smbAddr,
             hbmSelfRefresh := y.hbmSelfRefresh,
             temps := y.temps, jtagIr := y.jtagIr, bypass := y.bypass, bscan := y.bscan,
             lastThermal := d.now } }
  let e := warmKept.foldl (fun e k => e.put k (d.get k)) e
  ((((e.put Obj.resetCause cause).bump Obj.warmResets).put Obj.deviceState stRESET).put Obj.stateEntered d.now).applyClocks

/-- The data plane stops and the device enters HALT. -/
def Device.halt (d : Device) : Device := d.linksOff.enterState stHALT

/-- THERMTRIP_N asserts; where Table 16-2 names it the device halts, squelches its lanes and puts the HBM stacks in
self-refresh (R435); elsewhere the pin alone moves (R9). -/
def Device.trip (d : Device) : Device :=
  let d : Device := { d with sys := { d.sys with thermtripN := false } }
  if d.awake then
    let d : Device := { d with sys := { d.sys with hbmSelfRefresh := true } }
    (d.put Obj.tripLatched 1).halt.fire islMGT 942 0
  else d

/-- The reset is complete: the fuses are scanned, the device enters BOOT (R379, R380), and the MSI-X messages held
through a warm reset are sent (R421); an asserted THERMTRIP_N halts it again. -/
def Device.leaveReset (d : Device) (f : Assoc Nat) : Device :=
  let d : Device := { d with sec := { d.sec with scan := f } }
  let d := (d.put Obj.lifecycle (fuseLifecycle f)).put Obj.bootPhase (if fusesBootable f then bpWAIT else bpFUSEFAULT)
  let d := d.enterState stBOOT
  let d := match tornRows f with
    | r :: _ => d.fire islMGT 803 r
    | [] => d
  let d := d.ev.vectors.foldl (fun d e => d.sendWaiting (e.1 / 2048) (e.1 % 2048)) d
  if d.sys.thermtripN then d else d.trip

/-- A warm reset, with the fuse row it may cut short; the device leaves RESET at once unless WARM_RST_N holds it there. -/
def State.warm (s : State) (cause : Nat) : State :=
  let r := s.d.cutRow s.fuses
  let d := r.1.warm cause
  { s with fuses := r.2, d := if d.sys.warmRstN then d.leaveReset r.2 else d }

/-- POR_N_LOW (R418): POR_N falls; the timestamp counter returns to 0 and THERMTRIP_N is released. -/
def execPorNLow (s : State) : Host.Outcome State Fault Refusal :=
  let r := s.d.cutRow s.fuses
  let d := r.1.cold
  .next { s with fuses := r.2, d := { d with sys := { d.sys with porN := false } } }

/-- POR_N_RISE (R414): TEST_MODE and the SMBus address are sampled (R449, R451). -/
def execPorNRise (testMode : Bool) (smbAddr : Fin 4) (s : State) : Host.Outcome State Fault Refusal :=
  if s.d.sys.porN then .next s
  else
    let d : Device := { s.d with now := 0, sys := { s.d.sys with porN := true, testMode := testMode, smbAddr := smbAddr } }
    .next { s with d := if testMode ∨ !d.sys.warmRstN then d else d.leaveReset s.fuses }

/-- WARM_RST_N (R421): held low for 1 µs. -/
def execWarmRstN (s : State) : Host.Outcome State Fault Refusal :=
  let d : Device := { s.d with sys := { s.d.sys with warmRstN := false } }
  if d.devState = stRESET then .next { s with d := d } else .next ({ s with d := d }.warm 2)

/-- WARM_RST_N_RISE (R418). -/
def execWarmRstNRise (s : State) : Host.Outcome State Fault Refusal :=
  if s.d.sys.warmRstN then .next s
  else
    let d : Device := { s.d with sys := { s.d.sys with warmRstN := true } }
    .next { s with d := if d.devState = stRESET ∧ d.sys.porN ∧ !d.sys.testMode then d.leaveReset s.fuses else d }

/-- WARM_RESET_ENTRY (R421): the warm reset that a write of WARM_RESET scheduled begins. -/
def execWarmResetEntry (s : State) : Host.Outcome State Fault Refusal :=
  if s.d.sys.warmDue ∧ s.d.devState ≠ stRESET then .next (s.warm 3) else .next s

/-- The PCIe controller, the link and the configuration space are reset (R422). -/
def Device.linkReset (d : Device) : Device :=
  let d : Device := { d with host := { d.host with inL0 := false, everL0 := false, numVfs := 0, vfEnable := false
                                                   busMaster := [], relaxed := List.range 32 }
                             ev := { d.ev with vectors := [], fnMasked := [] } }
  ((d.put Obj.hostLinkRate 0).put Obj.hostLinkWidth 0).put Obj.hostNumVfs 0

/-- A PCIe reset (R422): every function is reset as by an FLR, and a boot bundle being received is discarded. -/
def Device.pcieReset (d : Device) : Device :=
  let d := (d.flr 0).linkReset
  let p := d.get Obj.bootPhase
  if d.devState = stBOOT ∧ (p = bpRECEIVING ∨ p = bpREJECTED) then (d.put Obj.bootPhase bpWAIT).clearBundle else d

/-- PERST_N (R422) goes low, and stays so until the link trains (`execFirstEntryToL0`).  In RESET no function holds anything an FLR would clear, and the link and the configuration
space, which a warm reset leaves running, are reset. -/
def execPerstN (s : State) : Host.Outcome State Fault Refusal :=
  let d : Device := { s.d with sys := { s.d.sys with perstN := false } }
  if s.d.devState = stRESET then .next { s with d := d.linkReset } else .next { s with d := d.pcieReset }

/-! ### Device states on request (R419) -/

/-- A write of STATE_REQUEST by a master that holds its right. -/
def Device.stateRequest (d : Device) (m v : Nat) : Device × Code :=
  let st := d.devState
  let full := st == stINIT || st == stSERVICE || st == stTEST || st == stRECOVERY
  if m ≠ 4096 then (d, .access)
  else match v with
    | 2 => if st = stTEST ∨ st = stSERVICE ∨ st = stRECOVERY then (d.enterState stINIT, .ok) else (d, .state)
    | 3 => if st = stINIT then (d.enterState (if d.recoveryNow = 0 then stSERVICE else stRECOVERY), .ok) else (d, .state)
    | 4 => if st = stINIT then ((d.enterState stTEST).endPlanning, .ok) else (d, .state)
    | 6 => if full then (d.halt, .ok) else (d, .state)
    | _ => (d, .range)

/-- A write of WARM_RESET by a master that holds its right (R421). -/
def Device.askWarm (d : Device) (m v : Nat) : Device × Code :=
  if m ≠ 4096 then (d, .access)
  else if v ≠ 1 then (d, .range)
  else ({ d with sys := { d.sys with warmDue := true } }, .ok)

/-! ### Power fail (R428 to R430) -/

/-- The next event record that is not written to a ring, in the order R358 would write it, with what is left. -/
def Device.gaspRecord (d : Device) : Option (Bytes × Device) :=
  let slot := d.ev.pending.find? (fun e => decide (0 < e.2.count) && !d.ev.queue.any (fun x => limiterKey x == e.1))
  let fromQueue := fun (o : Occurrence) (rest : List Occurrence) (turn : Bool) =>
    let k := limiterKey o
    let r : Device × Occurrence × Nat := match entryCarries o (d.slotOf k) rest with
      | some p => (d.setSlotOf k {}, p.last k, p.count)
      | none => (d, o, 1)
    let e : Device := { r.1 with ev := { r.1.ev with queue := rest, fromQueue := turn } }
    (recordBytes r.2.1 r.2.2 (d.evRing (d.routeOf o.source)), e.writeRecord r.2.1 r.2.2)
  match d.ev.queue, slot with
  | [], none => none
  | o :: rest, none => some (fromQueue o rest false)
  | q, some (k, p) =>
    match q, d.ev.fromQueue with
    | o :: rest, true => some (fromQueue o rest false)
    | _, _ =>
      let o := p.last k
      let e := d.setSlotOf k {}
      let e : Device := { e with ev := { e.ev with fromQueue := true } }
      some (recordBytes o p.count (d.evRing (d.routeOf o.source)), e.writeRecord o p.count)

/-- The records not yet written, in order; the device they are taken from is a scratch copy. -/
def Device.gaspRecords : Nat → Device → List Bytes
  | 0, _ => []
  | fuel + 1, d => match d.gaspRecord with
    | none => []
    | some (b, e) => b :: Device.gaspRecords fuel e

/-- A counter change entry (Table 16-11). -/
def Device.counterChange (d : Device) (page i : Nat) : Bytes :=
  let o := 4096 * page + 16 * i
  leBytes 2 page ++ leBytes 1 i ++ zeros 5 ++ leBytes 8 (beNat (d.memRead Obj.domCounterPages o 8))
  ++ leBytes 8 (beNat (d.memRead Obj.domCounterPages (o + 8) 8)) ++ zeros 8

/-- The last-gasp header (Table 16-10). -/
def Device.gaspHeader (d : Device) (before : Nat) (partialTick : Bool) (entries records : Nat) : Bytes :=
  leBytes 4 0x53564C47 ++ leBytes 2 1
  ++ [byte (b2n partialTick + 2 * d.get Obj.logOverflow + 4 * b2n (decide (1920 < records))), byte before]
  ++ leBytes 8 d.now ++ leBytes 8 (d.get Obj.generation)
  ++ leBytes 8 (d.baro.accounts.getD (fun _ => 0) acctDevice) ++ leBytes 8 (d.baro.accounts.getD (fun _ => 0) acctStatic)
  ++ leBytes 8 (d.get Obj.exportSequence) ++ leBytes 4 entries ++ leBytes 4 (min 1920 records)
  ++ [byte (d.get Obj.recoveryCause), byte (d.get Obj.resetCause)] ++ zeros 6

/-- A section of the last-gasp record. -/
def Device.gaspWrite (d : Device) (off : Nat) (b : Bytes) : Device :=
  if b.isEmpty then d else (d.dmaWrite 0 (d.get Obj.hostLastGaspBase + off) b (off != 0)).tallyPlain islMGT 2 1

/-- The last-gasp record is written, header last (R429). -/
def Device.lastGasp (d : Device) (before : Nat) (partialTick : Bool) : Device :=
  let changes := d.ev.logged.flatMap (fun x => d.counterChange x.1 x.2)
  let records := Device.gaspRecords (d.ev.queue.length + d.ev.pending.length + 1) d
  let header := d.gaspHeader before partialTick d.ev.logged.length records.length
  (((d.gaspWrite 0x1000 d.exportBody).gaspWrite 0x11000 changes).gaspWrite 0x31000 (records.take 1920).flatten).gaspWrite 0
    header

/-- PFAIL_N reads low: SUPPLY_STABLE is 0 (R381) and a burn ends after its row (R382). -/
def Device.pfailPin (d : Device) : Device :=
  let d : Device := { d with sys := { d.sys with pfailN := false } }
  (d.put Obj.supplyStable 0).cutBurn

/-- MGT returns to k = 16 (R428). -/
def Device.mgtUnstretched (d : Device) : Device :=
  { d with sys := { d.sys with baroK := d.sys.baroK.drop islMGT, clock := d.sys.clock.drop islMGT } }

/-- PFAIL_N is accepted (R428). -/
def Device.pfail (d : Device) (f : Assoc Nat) : Device :=
  let before := d.devState
  let gasp := d.get Obj.hostLastGaspEnable == 1 && d.dmaOk 0
  let partialTick := d.accounts
  let d := d.linksOff
  let d := (d.pfailPin.put Obj.pfailAccepted 1)
  let d := if partialTick then d.closeTick f d.now else d
  let d := d.mgtUnstretched.enterState stHALT
  let d := if gasp then d.lastGasp before partialTick else d
  d.fire islMGT 940 0

/-- PFAIL_ASSERTED (R428); in RESET and HALT, which Table 16-2 does not name for it, only the pin moves (R9). -/
def execPfailAsserted (s : State) : Host.Outcome State Fault Refusal :=
  if s.d.awake then .next { s with d := s.d.pfail s.fuses } else .next { s with d := s.d.pfailPin }

/-- PFAIL_GLITCH (R428). -/
def execPfailGlitch (s : State) : Host.Outcome State Fault Refusal :=
  if s.d.devState = stRESET then .next s else .next { s with d := s.d.bump Obj.pfailGlitches }

/-! ### Temperature and supply (R432 to R436) -/

/-- Every sensor is read; a junction outside 0 to 105 °C takes SUPPLY_STABLE away (R381), and above 105,000 m°C the hottest island's alarm fires (R432, R434). -/
def Device.readSensors (d : Device) (xs : List Int) : Device :=
  let d : Device := { d with sys := { d.sys with temps := (List.range 25).map (fun i => xs.getD i (d.temp i)) } }
  let t := d.tempMax
  let d := if d.junctionInRange then d else (d.put Obj.supplyStable 0).cutBurn
  if 105000 < t then
    let isl := ((List.range 25).find? (fun i => d.temp i == t)).getD 0
    d.fire islMGT 35 (isl + ofInt 32 t * 2 ^ 32)
  else d

/-- SENSOR_READ (R432). -/
def execSensorRead (milliC : List Int) (s : State) : Host.Outcome State Fault Refusal :=
  if s.d.devState = stRESET then .next s else .next { s with d := s.d.readSensors milliC }

/-- THERMAL_K after an evaluation. -/
def nextThermalK (k : Nat) (t : Int) : Nat := if 100000 ≤ t then max 4 (k - 1) else if t ≤ 97000 then min 16 (k + 1) else k

/-- THERMAL_K is evaluated (R433). -/
def Device.throttleTherm (d : Device) : Device :=
  let k := d.get Obj.thermalK
  let n := nextThermalK k d.tempMax
  let d : Device := { d with sys := { d.sys with lastThermal := d.now } }
  let d := if k < 16 then d.bump Obj.throttleMs else d
  if n = k then d else ((d.put Obj.thermalK n).fire islMGT 34 (n + ofInt 32 d.tempMax * 2 ^ 32)).applyClocks

/-- THERMAL_THROTTLE (R433): 1 ms has passed since the last evaluation. -/
def execThermalThrottle (s : State) : Host.Outcome State Fault Refusal :=
  if s.d.devState ≠ stRESET ∧ s.d.sys.lastThermal + oneMs ≤ s.d.now then .next { s with d := s.d.throttleTherm }
  else .next s

/-- THERMTRIP (R435): the comparator of an island asserts THERMTRIP_N until POR_N falls; every sensor's comparator does the same. -/
def execThermtrip (_isl : Fin 25) (s : State) : Host.Outcome State Fault Refusal :=
  if s.d.sys.porN then .next { s with d := s.d.trip } else .next s

/-- VCORE_LOW (R436). -/
def execVcoreLow (s : State) : Host.Outcome State Fault Refusal :=
  if s.d.get Obj.vcoreLow = 1 then .next s
  else .next { s with d := ((s.d.put Obj.vcoreLow 1).fire islMGT 36 0).applyClocks }

/-- VCORE_LOW_CLEARED (R436). -/
def execVcoreLowCleared (s : State) : Host.Outcome State Fault Refusal :=
  .next { s with d := (s.d.put Obj.vcoreLow 0).applyClocks }

/-! ### The management cores (R437, R438) -/

/-- A lockstep mismatch that restarts the cores: a COMMIT that waits for its flip is the request in execution. -/
def Device.restartCores (d : Device) : Device :=
  let d : Device := { d with
    sys := { d.sys with restarting := true, lastRestart := some d.now, restartRequest := d.svc.committing }
    svc := { d.svc with committing := none } }
  d.fire islMGT 33 0

/-- MGT_CORE_RESTART (R437); a second mismatch within 1 s of the first makes a warm reset (R438). -/
def execMgtCoreRestart (s : State) : Host.Outcome State Fault Refusal :=
  if s.d.devState = stRESET then .next s
  else match s.d.sys.lastRestart with
    | some t => if s.d.now < t + 1000000000 then .next (s.warm 4) else .next { s with d := s.d.restartCores }
    | none => .next { s with d := s.d.restartCores }

/-- The restart is over: a COMMIT whose front has flipped is answered, and one whose front is still in PREPARE waits for
it again. -/
def Device.restartDone (d : Device) : Device :=
  let w := d.sys.restartRequest
  let d : Device := { d with sys := { d.sys with restarting := false, restartRequest := none } }
  match w with
  | none => d
  | some w =>
    if d.get Obj.frontPhase = 1 then { d with svc := { d.svc with committing := some w } }
    else d.respond w { code := .ok, payload := beBytes 8 (d.get Obj.generation) }

/-- MGT_RESTART_DONE (R437). -/
def execMgtRestartDone (s : State) : Host.Outcome State Fault Refusal :=
  if s.d.sys.restarting then .next { s with d := s.d.restartDone } else .next s

/-! ### Pulse per second (R450) -/

/-- Time of day: TIME_NOW + TOD_OFFSET. -/
def Device.timeOfDay (d : Device) : Int := (d.now : Int) + toSigned 64 (d.get Obj.todOffset)

/-- An edge on PPS_IN whose high time is at least 100 ns. -/
def Device.ppsEdge (d : Device) : Device :=
  let soon := match d.sys.ppsInAt with
    | some t => decide (d.now < t + 500000000)
    | none => false
  if soon then d.bump Obj.ppsInRejects
  else
    let d : Device := { d with sys := { d.sys with ppsInAt := some d.now } }
    ((d.put Obj.ppsInCapture d.now).bump Obj.ppsInCount).fire islMGT 37 d.now

/-- PPS_IN_EDGE (R450). -/
def execPpsInEdge (s : State) : Host.Outcome State Fault Refusal :=
  if s.d.devState = stRESET then .next s else .next { s with d := s.d.ppsEdge }

/-- How long ago time of day was last a whole second. -/
def Device.pastSecond (d : Device) : Nat := (d.timeOfDay % 1000000000).toNat

/-- Time of day crossed a whole second at most 10 ns ago, after the last write of TOD_OFFSET, and PPS_OUT has not pulsed for it. -/
def Device.secondCrossed (d : Device) : Bool :=
  decide (d.pastSecond ≤ 10) && decide (d.sys.todAt + d.pastSecond < d.now) && d.sys.ppsSecond != some (d.now - d.pastSecond)

/-- PPS_OUT_PULSE (R450). -/
def execPpsOutPulse (s : State) : Host.Outcome State Fault Refusal :=
  if s.d.devState ≠ stRESET ∧ s.d.get Obj.ppsOutEnable = 1 ∧ s.d.secondCrossed then
    .next { s with d := { s.d with sys := { s.d.sys with
      ppsOut := true, ppsOutUntil := s.d.now + us 100, ppsSecond := some (s.d.now - s.d.pastSecond) } } }
  else .next s

/-! ### SMBus (R451, Table 17-6) -/

/-- A temperature in 1/16 °C, two's complement in 16 bits; where it is not a whole number of them the spec does not say
which way it is rounded, and one of the two is a free choice (log entry 1). -/
def Device.sixteenths (d : Device) (t : Int) : Device × Nat :=
  if 2 * t % 125 = 0 then (d, ofInt 16 (2 * t / 125))
  else let r := d.takeFree; (r.2, ofInt 16 (2 * t / 125 + (r.1 % 2 : Nat)))

/-- The flags of command 0x04. -/
def Device.smbusFlagBits (d : Device) : Nat :=
  d.get Obj.pfailAccepted + 2 * d.get Obj.tripLatched + 4 * d.get Obj.vcoreLow + 8 * d.get Obj.supplyStable

/-- A temperature as SMBus data, low byte first. -/
def Device.smbusTemp (d : Device) (t : Int) : Device × Bytes :=
  let r := d.sixteenths t
  (r.1, leBytes 2 r.2)

/-- The data of a command code (Table 17-6), low byte first; the reserved codes have none. -/
def Device.smbusContent (d : Device) (code : Nat) : Option (Device × Bytes) :=
  match code with
  | 0 => some (d, leBytes 1 d.devState)
  | 1 => some (d, leBytes 1 (d.get Obj.recoveryCause))
  | 2 => some (d, leBytes 1 (d.get Obj.thermalK))
  | 3 => some (d.smbusTemp d.tempMax)
  | 4 => some (d, leBytes 1 d.smbusFlagBits)
  | 5 => some (d, leBytes 2 ((fuseVcore d.sec.scan).getD 0))
  | 6 => some (d, leBytes 2 (d.get Obj.baroDevicePowerMw / 1000))
  | n => if 0x10 ≤ n ∧ n ≤ 0x28 then some (d.smbusTemp (d.temp (n - 0x10))) else none

/-- The slave's address, as its pins were sampled at the rise of POR_N. -/
def Device.smbusAddress (d : Device) : Nat := 0x5C + d.sys.smbAddr

/-- The slave meets a transaction at its address with a command code: a read is answered, a reserved code or a write is refused at
its command byte; in RESET the address is not acknowledged. -/
def Device.smbus (d : Device) (write : Bool) (code : Nat) : Device :=
  let a := d.smbusAddress
  if d.devState = stRESET then d
  else match write, d.smbusContent code with
    | false, some (e, b) => e.emit (.smbus a code b (smbusPec a code b))
    | _, _ => d.emit (.smbusNack a code)

/-- SMBUS_DEVICE_STATE. -/
def execSmbusDeviceState (s : State) : Host.Outcome State Fault Refusal := .next { s with d := s.d.smbus false 0 }

/-- SMBUS_RECOVERY_CAUSE. -/
def execSmbusRecoveryCause (s : State) : Host.Outcome State Fault Refusal := .next { s with d := s.d.smbus false 1 }

/-- SMBUS_THERMAL_K. -/
def execSmbusThermalK (s : State) : Host.Outcome State Fault Refusal := .next { s with d := s.d.smbus false 2 }

/-- SMBUS_TEMP_MAX. -/
def execSmbusTempMax (s : State) : Host.Outcome State Fault Refusal := .next { s with d := s.d.smbus false 3 }

/-- SMBUS_FLAGS. -/
def execSmbusFlags (s : State) : Host.Outcome State Fault Refusal := .next { s with d := s.d.smbus false 4 }

/-- SMBUS_VCORE_REQUIRED. -/
def execSmbusVcoreRequired (s : State) : Host.Outcome State Fault Refusal := .next { s with d := s.d.smbus false 5 }

/-- SMBUS_DEVICE_POWER. -/
def execSmbusDevicePower (s : State) : Host.Outcome State Fault Refusal := .next { s with d := s.d.smbus false 6 }

/-- SMBUS_ISLAND_TEMP, the reserved codes, and the write protocols. -/
def execSmbusIslandTemp (call : Sys2Proof.SmbusCall) (s : State) : Host.Outcome State Fault Refusal :=
  .next { s with d := s.d.smbus call.write call.code }

/-! ### JTAG (R447, R452) -/

/-- What the TAP does, unless TRST_N holds it in Test-Logic-Reset.  No row of the table stands for the rise of TRST_N: after it has
gone low, whether it has risen by the next test command is a free value (log entries 1, 57). -/
def Device.onTap (d : Device) (act : Device → Device) : Device :=
  if d.sys.trstN then act d
  else
    let r := d.takeFree
    if r.1 % 2 = 1 then act { r.2 with sys := { r.2.sys with trstN := true } } else r.2

/-- The TAP takes an instruction. -/
def Device.tap (d : Device) (ir : Nat) : Device := { d with sys := { d.sys with jtagIr := ir } }

/-- A scan of the bypass register: the 0 it captures leaves on TDO, and TDI enters it. -/
def Device.tapBypass (d : Device) (ir : Nat) (tdi : Bool) : Device :=
  let d := d.tap ir
  Device.emit { d with sys := { d.sys with bypass := tdi } } (.tdo 0)

/-- A scan of the boundary-scan register: what it captures is the level of pins outside the model in an order the spec does
not give, a free value (log entry 1), and what is shifted in is its new content, which EXTEST then drives (`Device.extest`). -/
def Device.tapScan (d : Device) (ir scanIn : Nat) : Device :=
  let r := (d.tap ir).takeFree
  Device.emit { r.2 with sys := { r.2.sys with bscan := scanIn } } (.tdo r.1)

/-- JTAG_BYPASS. -/
def execJtagBypass (tdi : Bool) (s : State) : Host.Outcome State Fault Refusal :=
  .next { s with d := s.d.onTap (fun d => d.tapBypass 0 tdi) }

/-- The IDCODE of every SV1280-A1 (R452). -/
def idcode : Nat := 0x11280B9B

/-- JTAG_IDCODE. -/
def execJtagIdcode (s : State) : Host.Outcome State Fault Refusal :=
  .next { s with d := s.d.onTap (fun d => (d.tap 1).emit (.tdo idcode)) }

/-- JTAG_SAMPLE_PRELOAD. -/
def execJtagSamplePreload (scanIn : Nat) (s : State) : Host.Outcome State Fault Refusal :=
  .next { s with d := s.d.onTap (fun d => d.tapScan 2 scanIn) }

/-- JTAG_EXTEST: the low-speed pins take the levels of the latches. -/
def execJtagExtest (scanIn : Nat) (s : State) : Host.Outcome State Fault Refusal :=
  .next { s with d := s.d.onTap (fun d => d.tapScan 3 scanIn) }

/-- JTAG_EXTEST_PULSE: the latches drive a pulse on the AC-coupled lanes. -/
def execJtagExtestPulse (scanIn : Nat) (s : State) : Host.Outcome State Fault Refusal :=
  .next { s with d := s.d.onTap (fun d => (d.tapScan 4 scanIn).emit (.lanes false scanIn)) }

/-- JTAG_EXTEST_TRAIN: the latches drive a pulse train on the AC-coupled lanes. -/
def execJtagExtestTrain (scanIn : Nat) (s : State) : Host.Outcome State Fault Refusal :=
  .next { s with d := s.d.onTap (fun d => (d.tapScan 5 scanIn).emit (.lanes true scanIn)) }

/-- Whether the lifecycle decodes debug instructions (Table 14-4): every one but OPERATIONAL, as the last start scanned it;
in RESET, as the fuses stand. -/
def State.debugDecoded (s : State) : Bool :=
  fuseLifecycle (if s.d.devState = stRESET then s.fuses else s.d.sec.scan) != 2

/-- A debug instruction: what it shifts out is not given, a free value (log entry 1). -/
def Device.tapDebug (d : Device) : Device :=
  let r := (d.tap 6).takeFree
  r.2.emit (.tdo r.1)

/-- JTAG_DEBUG (R452): a debug instruction, where the lifecycle decodes it, or BYPASS. -/
def execJtagDebug (tdi : Bool) (s : State) : Host.Outcome State Fault Refusal :=
  .next { s with d := s.d.onTap (fun d => if s.debugDecoded then d.tapDebug else d.tapBypass 0 tdi) }

/-- TRST_N_LOW (R447): the TAP goes to Test-Logic-Reset, with IDCODE selected, and is held there while TRST_N stays low. -/
def execTrstNLow (s : State) : Host.Outcome State Fault Refusal :=
  let d := s.d.tap 1
  .next { s with d := { d with sys := { d.sys with trstN := false } } }

end Sys2Proof.Machine
end

