-- ==== Sys2Proof/Machine/Requests.lean ====
section
/-!
DEFINITION. A Kaznu request at the service: which command of the table serves it, the object it names (R42 to R44), the
island that holds an object, and the checks of Table 2-10 up to TYPE.
-/
namespace Sys2Proof.Machine

/-! ### The request and the object it names -/

/-- A request as the service executes it: its source and master, its fields, and the subindex it names as
`index * 256 + subindex`. -/
structure Ask where
  src : Source
  r : Request
  master : Nat
  key : Nat
  deriving DecidableEq, Repr

/-- The request of a waiting message. -/
def Waiting.ask (w : Waiting) : Ask :=
  let r := w.request
  { src := w.src, r := r, master := w.src.master, key := r.index * 256 + r.sub }

/-- The value a WRITE carries, as an unsigned number. -/
def Ask.value (a : Ask) : Nat := beNat a.r.payload

/-- The offset a block request carries. -/
def Ask.offset (a : Ask) : Nat := beAt a.r.payload 0 8

/-- The count a READ_BLOCK carries. -/
def Ask.count (a : Ask) : Nat := beAt a.r.payload 8 4

/-- The data a WRITE_BLOCK carries. -/
def Ask.data (a : Ask) : Bytes := a.r.payload.drop 8

/-- Whether a request names an object. -/
def Ask.names (a : Ask) : Bool := a.r.op != opCOMMIT && (a.r.op != opSTATUS || a.r.aux % 2 == 1)

/-- The rows of an index. -/
def indexRows (idx : Nat) : List ObjRow :=
  (objRows (idx / 4096)).filter (fun r => decide (r.first ≤ idx) && decide (idx < r.first + r.count))

/-- The row a request finds: subindex 0x00 is a U8 with access RO that holds the highest subindex (R43). -/
def findRow (idx sub : Nat) : Option ObjRow :=
  if sub = 0 then
    some { name := "HIGHEST", first := idx, count := 1, subLo := 0, subHi := 0, ty := .u8, access := .ro, group := none,
           dflt := ((indexRows idx).map (fun r => r.subHi)).foldl max 0, lo := 0, hi := 255 }
  else rowOf (idx * 256 + sub)

/-- Whether a row is a domain. -/
def ObjRow.isDomain (r : ObjRow) : Bool :=
  match r.ty with
  | .domain _ _ => true
  | _ => false

/-- Whether a row is staged. -/
def ObjRow.staged (r : ObjRow) : Bool := r.access == .rws || r.access == .wos

/-- The island that serves an access table's target (Table 3-4). -/
def targetHome (t : Nat) : Nat :=
  match t with
  | 1 => islCRY | 2 => islSRH | 3 => islSWC | 4 => islSWC | 5 => islMEM | _ => islMGT

/-- The island that holds an object (Tables 1-2 and 2-1); MGT holds what is RO.  An object of several islands has its
mirror from the first of them. -/
def homeOf (idx : Nat) (acc : Access) : Nat :=
  if acc = .ro then islMGT
  else if 0x1100 ≤ idx ∧ idx < 0x1108 then targetHome (idx - 0x1100)
  else if idx = 0x1033 then (if acc = .rm then islSWC else islMGT)
  else if idx < 0x2000 then islMGT
  else if idx < 0x2100 then islPG 0
  else if idx < 0x2200 then islPG ((idx - 0x2100) / 8 % 4)
  else if idx < 0x2500 then islPG (idx % 256 / 32 % 4)
  else if idx < 0x3100 then islPG 0
  else if idx < 0x4000 then islPG (idx % 4)
  else if idx < 0x5000 then islSRH
  else if idx < 0x5010 then (if acc = .rm then idx - 0x5000 else islMGT)
  else if idx < 0x5100 then islMGT
  else if idx < 0x5140 then islPG 0
  else if idx < 0x5180 then islPG (idx % 4)
  else if idx < 0x6000 then islSWC
  else if idx < 0x7000 then islCRY
  else if idx < 0x9000 then islSWC
  else if idx < 0xA000 then islMGT
  else if idx < 0xB000 then islPG 0
  else if idx = 0xB080 then islSWC
  else if 0xB100 ≤ idx ∧ idx < 0xB119 then idx - 0xB100
  else if 0xB200 ≤ idx ∧ idx < 0xB210 then idx - 0xB200
  else if idx < 0xE000 then islMGT
  else if idx < 0xE400 then islPG 0
  else if idx < 0xE700 then islSRH
  else if idx < 0xE800 then islCRY
  else if idx < 0xEA00 then islSWC
  else if idx = 0xEB02 then islSWC
  else if 0xEB10 ≤ idx ∧ idx < 0xEB29 then idx - 0xEB10
  else islMGT

/-! ### Which command serves a request -/

/-- The commands of the table that the service serves a request by. -/
inductive Row where
  | read | write | readBlock | writeBlock | commit | statusService | statusDescriptor | sessionOpen | sessionClose
  | frostSoft | frostHard | frostThaw | frostDisable | frostEnable | quadMode | portEnable | portRetrain | portReset
  | groupEnable | emEnable | fixedSelect | reload | clusterReset
  | poolAlloc | poolIncref | poolDecref | poolFree | poolQuery | qmaxClear | hostRing | railReport | intAck | ringEnable
  | telemEnable | sringEnable | exportEnable | lastGaspEnable | overflowRead | snapshot | counterMark
  | ownerKeyHash | ownerRevoke | rollbackAdvance | lifecycleAdvance | mrExtend | quoteRequest | warmReset
  | stateInit | stateService | stateTest | stateHalt
  deriving DecidableEq, Repr

/-- Whether an exact-match table's ENABLE is 1 in neither copy (R181). -/
def Device.emDisabled (d : Device) (t : Nat) : Bool := d.active (Obj.emEnable t) == 0 && d.shadow (Obj.emEnable t) == 0

/-- The command that serves a WRITE of a management object. -/
def mgmtRow (r : Request) : Row :=
  let v := beNat r.payload
  let i := r.index
  let s := r.sub
  let one := r.payload.length == 1
  let eight := r.payload.length == 8
  if 0x1010 ≤ i ∧ i < 0x1020 ∧ s = 1 ∧ one then
    (if v = 1 then .sessionOpen else if v = 0 then .sessionClose else .write)
  else if i = 0x1020 ∧ s = 1 ∧ eight then
    (match bits v 55 52 with
     | 1 => .frostSoft | 2 => .frostHard | 3 => .frostThaw | 4 => .frostDisable | 5 => .frostEnable | _ => .write)
  else if i = 0x1030 ∧ s = 6 then .warmReset
  else if i = 0x1030 ∧ s = 2 ∧ one then
    (match v with
     | 2 => .stateInit | 3 => .stateService | 4 => .stateTest | 6 => .stateHalt | _ => .write)
  else if i = 0x1033 ∧ s = 1 then .counterMark
  else .write

/-- The command that serves a WRITE of a port, search or engine object. -/
def Device.planeRow (d : Device) (r : Request) : Row :=
  let v := beNat r.payload
  let i := r.index
  let s := r.sub
  let one := r.payload.length == 1
  if 0x2100 ≤ i ∧ i < 0x2120 ∧ s = 1 then .quadMode
  else if 0x2200 ≤ i ∧ i < 0x2280 ∧ s = 9 then .portEnable
  else if 0x2200 ≤ i ∧ i < 0x2280 ∧ s = 10 ∧ one then (if v = 1 then .portRetrain else if v = 2 then .portReset else .write)
  else if 0x4010 ≤ i ∧ i < 0x4050 ∧ s = 1 ∧ one ∧ v = 1 then .groupEnable
  else if 0x4400 ≤ i ∧ i < 0x4440 ∧ s = 1 ∧ one ∧ v = 1 ∧ d.emDisabled (i - 0x4400) then .emEnable
  else if 0x4000 ≤ i ∧ i < 0x4004 ∧ s = 2 then .fixedSelect
  else if 0x5000 ≤ i ∧ i < 0x5010 ∧ s = 3 then .reload
  else if 0x5000 ≤ i ∧ i < 0x5010 ∧ s = 4 then .clusterReset
  else .write

/-- The command that serves a WRITE of an object of the switch core, traffic manager, Barometer or events. -/
def poolRow (r : Request) : Row :=
  let i := r.index
  let s := r.sub
  if i = 0x7040 ∧ s = 1 ∧ r.payload.length = 8 then
    (match bits (beNat r.payload) 63 61 with
     | 1 => .poolAlloc | 2 => .poolIncref | 3 => .poolDecref | 4 => .poolFree | 5 => .poolQuery | _ => .write)
  else if i = 0x8000 ∧ s = 5 then .qmaxClear
  else if i = 0x8001 ∧ s = 1 then .telemEnable
  else if i = 0x9003 ∧ s = 1 then .railReport
  else if i = 0x9004 ∧ s = 1 then .exportEnable
  else if i = 0xB000 ∧ s = 5 then .intAck
  else if 0xB010 ≤ i ∧ i < 0xB030 ∧ s = 1 then .ringEnable
  else if i = 0xB280 ∧ s = 1 then .sringEnable
  else if 0xB100 ≤ i ∧ i < 0xB119 ∧ s = 12 then .snapshot
  else .write

/-- The command that serves a WRITE of a security or host interface object. -/
def secureRow (r : Request) : Row :=
  let i := r.index
  let s := r.sub
  if 0xC010 ≤ i ∧ i < 0xC014 ∧ s = 1 then .ownerKeyHash
  else if 0xC010 ≤ i ∧ i < 0xC014 ∧ s = 2 then .ownerRevoke
  else if i = 0xC020 ∧ s = 1 then .rollbackAdvance
  else if i = 0xC021 ∧ s = 1 then .lifecycleAdvance
  else if i = 0xC030 ∧ s = 0x11 then .mrExtend
  else if i = 0xC050 ∧ s = 1 then .quoteRequest
  else if i = 0xD000 ∧ s = 9 then .lastGaspEnable
  else if 0xD100 ≤ i ∧ i < 0xD190 ∧ s = 2 then .hostRing
  else .write

/-- The command that serves a request. -/
def Device.rowFor (d : Device) (r : Request) : Row :=
  match r.op with
  | 2 =>
    if r.index < 0x2000 then mgmtRow r
    else if r.index < 0x7000 then d.planeRow r
    else if r.index < 0xC000 then poolRow r
    else secureRow r
  | 3 => .readBlock
  | 4 => .writeBlock
  | 5 => .commit
  | 6 => if r.aux % 2 = 1 then .statusDescriptor else .statusService
  | _ => if r.op = 1 ∧ 0xB100 ≤ r.index ∧ r.index < 0xB119 ∧ r.sub = 11 then .overflowRead else .read

/-! ### The checks of Table 2-10, orders 1 to 7 -/

/-- Why a request goes no further: a code, or a denial by an access table that R92 records. -/
inductive Bar where
  | code (c : Code)
  | denied (target x : Nat)
  deriving DecidableEq, Repr

/-- The first of two checks that stands. -/
def Bar.first (a b : Option Bar) : Option Bar :=
  match a with
  | some x => some x
  | none => b

/-- A condition with its code. -/
def barIf (b : Bool) (c : Code) : Option Bar := if b then some (.code c) else none

/-- Whether a device state serves a request (R68). -/
def Device.serves (d : Device) (a : Ask) : Bool :=
  let pf := a.src == .mailbox 0
  let st := d.devState
  if st = stBOOT then
    pf && ((a.r.op == opREAD && decide (a.r.index < 0x1000)) || (a.r.op == opWRITEBLOCK && a.r.index == 0xC100)
      || a.r.op == opSTATUS)
  else if st = stHALT then pf && (a.r.op == opREAD || a.r.op == opSTATUS)
  else true

/-- Whether the mailbox belongs to a VF that is DISABLED (Table 3-10). -/
def Device.boxClosed (d : Device) (a : Ask) : Bool :=
  match a.src with
  | .mailbox fn => d.frostState 5 fn == 3
  | _ => false

/-- Whether a write goes to an object that a stopped cluster holds (R50). -/
def Device.homeStopped (d : Device) (a : Ask) : Bool :=
  (a.r.op == opWRITE || a.r.op == opWRITEBLOCK) && (match findRow a.r.index a.r.sub with
    | some r => !(indexRows a.r.index).isEmpty && d.stopped (homeOf a.r.index r.access)
    | none => false)

/-- Whether an unresolved triplicated field stands in a request's way (Table 2-6). -/
def Device.fieldBars (d : Device) (a : Ask) : Bool :=
  let i := a.r.index
  d.svc.unresolved.any (fun u =>
    let n := u % 2 ^ 24
    match u / 2 ^ 24 with
    | 1 => a.r.op == opWRITE && i == 0x1100 + n / 64
    | 3 => a.r.op == opCOMMIT
    | 4 => a.r.op == opWRITE && (i == 0xC020 || i == 0xC021 || (decide (0xC010 ≤ i) && decide (i < 0xC014))
             || (i == 0xC050 && a.r.sub == 1))
    | 5 => a.r.op == opCOMMIT && bit (beNat a.r.payload) n
    | 8 => a.r.op == opWRITE && i == 0x1100 + n / 32
    | _ => false)

/-- The right an opcode needs (R69). -/
def opRight (op : Nat) : Nat := if op = opWRITE ∨ op = opWRITEBLOCK then rWRITE else if op = opCOMMIT then rCOMMIT else rREAD

/-- What a tenant may name in band (R76). -/
def Device.inbandMay (d : Device) (a : Ask) : Bool :=
  let t := a.master
  let rights := d.active (Obj.tenRights t)
  let page := d.active (Obj.tenCounterPage t)
  let off := a.offset
  let stop := off + a.count
  let block := a.r.op == opREADBLOCK && a.r.payload.length == 12
  let i := a.r.index
  (a.r.op == opREAD || a.r.op == opREADBLOCK)
  && ((i == 0xA000 + t && (a.r.sub == 13 || a.r.sub == 14) && rights.testBit rCOUNTERREAD)
    || (block && i == 0xEB02 && a.r.sub == 1 && rights.testBit rCOUNTERREAD && page != 0xFFFF
        && decide (4096 * page ≤ off) && decide (stop ≤ 4096 * page + 4096))
    || (block && i == 0xEA00 && a.r.sub == 1 && rights.testBit rLEDGERREAD
        && decide (32 * t ≤ off) && decide (stop ≤ 32 * t + 32)))

/-- The counter pages a READ_BLOCK touches. -/
def Ask.pages (a : Ask) : List Nat :=
  let lo := a.offset / 4096
  (List.range ((a.offset + a.count + 4095) / 4096 - lo)).map (fun i => lo + i)

/-- The SAs a WRITE_BLOCK of keys touches. -/
def Ask.keySas (a : Ask) : List Nat :=
  (List.range ((a.data.length + 127) / 128)).map (fun i => a.offset / 128 + i)

/-- The further rights of chapters 09, 12, 13 and 14: LEDGER_READ, COUNTER_READ on each page, KEY_LOAD on each SA, ATTEST
(R252, R342, R372, R392). -/
def Device.extraRights (d : Device) (a : Ask) : Option Bar :=
  let i := a.r.index
  if a.r.op = opREADBLOCK ∧ i = 0xEA00 then
    if d.mayNow islMGT 0 a.master i rLEDGERREAD then none else some (.denied 0 i)
  else if a.r.op = opREADBLOCK ∧ i = 0xEB02 then
    ((a.pages.filter (fun p => decide (p < 4096))).find? (fun p => !d.mayNow islSWC 4 a.master p rCOUNTERREAD)).map
      (fun p => .denied 4 p)
  else if a.r.op = opWRITEBLOCK ∧ i = 0xE701 then
    ((a.keySas.filter (fun s => decide (s < 65536))).find? (fun s => !d.mayNow islCRY 1 a.master s rKEYLOAD)).map
      (fun s => .denied 1 s)
  else if a.r.op = opWRITE ∧ i = 0xC050 ∧ a.r.sub = 1 then
    if d.mayNow islMGT 0 a.master i rATTEST then none else some (.denied 0 i)
  else none

/-- ACCESS of order 3 (R69, R70, R76). -/
def Device.rightBar (d : Device) (a : Ask) : Option Bar :=
  let i := a.r.index
  if a.src.isInband then barIf (!d.inbandMay a) .access
  else if a.r.op = opWRITE ∧ 0x1008 ≤ i ∧ i < 0x1020 ∧ a.master ≠ 4096 then some (.code .access)
  else if !d.mayNow islMGT 0 a.master i (opRight a.r.op) then some (.denied 0 i)
  else if a.r.op = opREAD ∧ 0xF000 ≤ i ∧ d.bootLifecycle = 2 then some (.code .access)
  else d.extraRights a

/-- Subindices that accept writes only from the PF (R373, R381, R401, R419, R421). -/
def pfOnly (i s : Nat) : Bool :=
  (i == 0x1030 && (s == 2 || s == 6)) || i == 0xEB03
  || (decide (0xC010 ≤ i) && decide (i < 0xC014)) || i == 0xC020 || i == 0xC021
  || (decide (0xD100 ≤ i) && decide (i < 0xD190) && ((decide (1 ≤ s) && decide (s ≤ 5)) || s == 12 || s == 13))

/-- ACCESS of order 6 (Table 2-3).  A block opcode that names subindex 0 goes on to TYPE, which the text under R43 gives it. -/
def accessBar (a : Ask) (r : ObjRow) : Bool :=
  let reads := a.r.op == opREAD || a.r.op == opREADBLOCK
  let writes := a.r.op == opWRITE || (a.r.op == opWRITEBLOCK && a.r.sub != 0)
  (reads && (r.access == .wo || r.access == .wos)) || (writes && (r.access == .ro || r.access == .rm))
  || (writes && pfOnly a.r.index a.r.sub && a.master != 4096)

/-- TYPE of order 7 (R46, Table 2-8). -/
def typeBar (a : Ask) (r : ObjRow) : Bool :=
  let n := a.r.payload.length
  match a.r.op with
  | 1 => r.isDomain || n != 0
  | 2 => r.isDomain || (match r.ty with
      | .text m => n == 0 || decide (m < n)
      | t => n != t.size)
  | 3 => !r.isDomain || n != 12
  | 4 => !r.isDomain || decide (n < 8)
  | 6 => n != 0
  | _ => false

/-- The checks of orders 4 to 7, on the object a request names. -/
def objectBar (a : Ask) : Option Bar :=
  if !a.names then barIf (a.r.payload.length != (if a.r.op = opCOMMIT then 2 else 0)) .type
  else if (indexRows a.r.index).isEmpty then some (.code .noObject)
  else match findRow a.r.index a.r.sub with
    | none => some (.code .noSub)
    | some r => if accessBar a r then some (.code .access) else barIf (typeBar a r) .type

/-- The first check of orders 1 to 7 of Table 2-10 whose condition holds. -/
def Device.screen (d : Device) (a : Ask) : Option Bar :=
  Bar.first (barIf (!a.r.formOk) .range)
    (Bar.first (barIf (!d.serves a || d.boxClosed a || d.homeStopped a || d.fieldBars a) .state)
      (Bar.first (d.rightBar a) (objectBar a)))

end Sys2Proof.Machine
end

