-- ==== Sys2Proof/Machine/Checks.lean ====
section
/-!
DEFINITION. The checks of Table 2-10, orders 8 to 11, on a WRITE of one subindex: what the chapters' rules answer with
BUSY, STATE and RANGE.
-/
namespace Sys2Proof.Machine

/-! ### Small tests -/

/-- A power of two between two bounds. -/
def powerIn (v lo hi : Nat) : Bool := decide (lo ≤ v) && decide (v ≤ hi) && (v &&& (v - 1)) == 0

/-- A ring's base that is zero or not a multiple of 4,096 (R331, R344, R362, R410). -/
def baseUnfit (v : Nat) : Bool := v == 0 || v % 4096 != 0

/-- The PCIe function, session, port, table or cluster of an index: its distance from the first of its kind. -/
def nth (idx first count : Nat) : Option Nat := if first ≤ idx ∧ idx < first + count then some (idx - first) else none

/-! ### STATE -/

/-- STATE for management, port and tenant objects (R75, R107, R129, R419). -/
def Device.stateMgmt (d : Device) (i s v : Nat) : Bool :=
  match nth i 0x1010 16, nth i 0x2100 32, nth i 0x2200 128 with
  | some n, _, _ =>
    if s = 1 then v == 1 && d.get (Obj.sessionState n) == 0 && (d.session n).key.isNone
    else s == 2 && d.get (Obj.sessionState n) == 1
  | _, some q, _ => s == 1 && !d.quadFree q
  | _, _, some p => s == 10 && (!d.defined p || d.get (Obj.portEnable p) == 0)
  | _, _, _ => false

/-- STATE for search objects (R164, R167, R176, R180, R186, R439). -/
def Device.stateSearch (d : Device) (i s v : Nat) : Bool :=
  match nth i 0x4000 4, nth i 0x4010 64, nth i 0x4100 64, nth i 0x4400 64 with
  | some _, _, _, _ => s == 2 && !(d.devState == stINIT || d.devState == stTEST)
  | _, some g, _, _ =>
    (s == 1 && v == 1 && d.srh.failedStacks.testBit 3) || ((s == 2 || s == 3) && d.active (Obj.grpEnable g) == 1)
  | _, _, some t, _ => (s == 1 || s == 2) && d.tableNamed t
  | _, _, _, some t => decide (2 ≤ s) && decide (s ≤ 7) && d.active (Obj.emEnable t) == 1
  | _, _, _, _ => i == 0x4600 && (s == 1 || s == 2) && d.anyRoute

/-- The slots an update in VERIFYING or LOADING installs into (R388). -/
def Device.updatesSlot (d : Device) (slot : Nat) : Bool :=
  let p := d.get Obj.updatePhase
  (p == bpVERIFYING || p == bpLOADING) && (imageSlots (components d.bundle)).contains slot

/-- STATE for engine objects (R228, R388). -/
def Device.stateEngine (d : Device) (i s v : Nat) : Bool :=
  match nth i 0x5000 16 with
  | some _ => s == 2 && decide (v < 4) && (d.get (Obj.slotPresent v) == 0 || d.updatesSlot v)
  | none => false

/-- STATE for the rings in host memory, by the objects of one ring: ENABLE, BASE and what else is fixed while it is
enabled. -/
def ringState (d : Device) (enable base : Nat) (fixed : List Nat) (k v : Nat) : Bool :=
  (k == enable && v == 1 && baseUnfit (d.get base)) || (fixed.contains k && d.get enable == 1)

/-- STATE for the rings and regions in host memory (R331, R344, R362, R376, R410). -/
def Device.stateRings (d : Device) (i s v : Nat) : Bool :=
  let k := i * 256 + s
  match nth i 0xB010 32 with
  | some f => ringState d (Obj.erRingEnable f) (Obj.erRingBase f) [Obj.erRingBase f, Obj.erRingEntries f] k v
  | none =>
    ringState d Obj.telemEnable Obj.telemBase [Obj.telemBase, Obj.telemEntries] k v
    || ringState d Obj.sringEnable Obj.sringBase [Obj.sringBase, Obj.sringEntries] k v
    || ringState d Obj.exportEnable Obj.exportBase [Obj.exportBase, Obj.exportPeriodUs] k v
    || ringState d Obj.hostLastGaspEnable Obj.hostLastGaspBase [Obj.hostLastGaspBase] k v

/-- The number of the host ring of an index (Table 15-10). -/
def ringNumber (i : Nat) : Nat := if i < 0xD180 then i - 0xD100 else 128 + (i - 0xD180)

/-- STATE for a host ring's objects (R401). -/
def Device.stateHost (d : Device) (i s v : Nat) : Bool :=
  match nth i 0xD100 0x90 with
  | some _ =>
    let g := ringNumber i
    if s = 2 then v == 1 && d.ringUnready g
    else (s == 1 || s == 3 || s == 4 || s == 12 || s == 13) && d.get (Obj.ringEnable g) == 1
  | none => false

/-- STATE of order 10, as the object's own chapter states it. -/
def Device.stateBar (d : Device) (i s v : Nat) : Bool :=
  if i < 0x4000 then d.stateMgmt i s v
  else if i < 0x5000 then d.stateSearch i s v
  else if i < 0x8000 then d.stateEngine i s v
  else if i < 0xD100 then d.stateRings i s v
  else d.stateHost i s v

/-! ### RANGE -/

/-- EtherTypes that STH_ETHERTYPE and STAG_TPID may not take (R120). -/
def etherTaken (v : Nat) : Bool := decide (v < 0x600) || v == 0x800 || v == 0x86DD || v == 0x8100 || v == 0x8847

/-- An access-table entry that R90 refuses. -/
def entryBad (t v : Nat) : Bool :=
  let r := targetRange t
  bit v 63 && (decide (bits v 57 45 < bits v 44 32) || decide (bits v 31 16 < bits v 15 0)
    || decide (bits v 15 0 < r.1) || decide (r.2 < bits v 31 16))

/-- RANGE for management objects beyond a row's bounds (R3, R90, R99, R120, R419). -/
def Device.rangeMgmt (d : Device) (i s v : Nat) : Bool :=
  match nth i 0x1100 8 with
  | some t => decide (s ≤ 0x40) && entryBad t v
  | none =>
    (i == 0x1000 && s == 1 && (v == d.shadow Obj.sthEthertype || v == d.shadow Obj.stagTpid))
    || (i == 0x1020 && s == 1 && (FrostAsk.ofNat v).bad)
    || (i == 0x1030 && s == 2 && !([2, 3, 4, 6].contains v))

/-- RANGE for port and parser objects (R108, R120, R160, Tables 4-1, 4-3 and 4-6). -/
def Device.rangePorts (d : Device) (i s v : Nat) : Bool :=
  match nth i 0x2100 32, nth i 0x2200 128, nth i 0x3010 16 with
  | some _, _, _ => decide (9 < v)
  | _, some p, _ =>
    (s == 1 && decide (2 < v)) || (s == 2 && !d.fecAllowed p v) || (s == 3 && (v == 0 || decide (3 < v)))
    || (s == 10 && (v == 0 || decide (2 < v)))
  | _, _, some _ => s == 1 && v % 8 != 0
  | _, _, _ =>
    i == 0x2000 && ((s == 1 && (etherTaken v || v == d.shadow Obj.inbandEthertype || v == d.shadow Obj.stagTpid))
      || (s == 2 && (etherTaken v || v == d.shadow Obj.inbandEthertype || v == d.shadow Obj.sthEthertype)))

/-- RANGE for search objects (R164, R167, R168, R177, R180, R182). -/
def Device.rangeSearch (d : Device) (i s v : Nat) : Bool :=
  let k := i * 256 + s
  match nth i 0x4010 64, nth i 0x4100 64, nth i 0x4200 256, nth i 0x4400 64 with
  | some g, _, _, _ => d.groupRange g k v
  | _, some _, _, _ => s == 1 && !(v == 1 || v == 2 || v == 4 || v == 8)
  | _, _, some _, _ =>
    (s == 1 && decide (63 < v) && v != 255) || (s == 4 && decide (78 < v) && v != 255)
  | _, _, _, some _ =>
    (s == 9 && decide (38 < v) && v != 255) || ((s == 1 || s == 3 || s == 4 || s == 5) && d.placementRange k v)
  | _, _, _, _ => i == 0x4600 && (s == 1 || s == 2) && d.placementRange k v

/-- RANGE for engine and switch core objects (R201, R289, R293, R327). -/
def Device.rangePlane (d : Device) (i s v : Nat) : Bool :=
  match nth i 0x5100 64, nth i 0x7010 32 with
  | some n, _ =>
    (s == 2 && decide (80 < v + d.shadow (Obj.dispOdLength n))) || (s == 3 && decide (80 < d.shadow (Obj.dispOdOffset n) + v))
  | _, some p =>
    s == 1 && decide (1572864 < (((List.range 32).filter (fun q => q != p)).map (fun q => d.shadow (Obj.poolSize q))).sum + v)
  | _, _ =>
    (i == 0x7040 && (bits v 63 61 == 0 || decide (5 < bits v 63 61) || bits v 55 29 != 0
      || (bits v 63 61 != 1 && bits v 28 21 != 0)))
    || (i == 0x8000 && s == 5 && decide (v % 65536 < v / 65536))

/-- RANGE for traffic manager and Barometer objects (R331, R343, Tables 11-3 and 12-10). -/
def Device.rangeTraffic (d : Device) (i s v : Nat) : Bool :=
  match nth i 0x8010 64, nth i 0x8100 128 with
  | some _, _ => s == 1 && (toSigned 32 v < -32 || 63 < toSigned 32 v)
  | _, some _ => s == 2 && v != 0 && (decide (v < 8) || decide (800000000 < v))
  | _, _ =>
    (i == 0x8001 && ((s == 3 && !powerIn v 256 1048576) || (s == 4 && decide (d.get Obj.telemEntries ≤ v))))
    || (i == 0x9004 && s == 3 && v % 10 != 0)

/-- RANGE for tenant contexts (R84, Table 3-2). -/
def Device.rangeTenant (d : Device) (t s v : Nat) : Bool :=
  (s == 2 && decide (4095 < v))
  || (s == 3 && decide (32768 < v + d.shadow (Obj.tenMeterCount t)))
  || (s == 4 && decide (32768 < d.shadow (Obj.tenMeterBase t) + v))
  || (s == 6 && decide (65536 < v + d.shadow (Obj.tenKeyCount t)))
  || (s == 7 && decide (65536 < d.shadow (Obj.tenKeyBase t) + v))
  || (s == 11 && (v &&& (2 ^ rTRAP + 2 ^ rCOUNTERREAD + 2 ^ rLEDGERREAD + 2 ^ rKEYLOAD + 2 ^ rATTEST)) != v)

/-- The highest event code a bank lists (Table 13-5). -/
def bankTop (b : Nat) : Nat := if b < 16 then 11 else if b < 23 then 7 else if b = 23 then 4 else 5

/-- RANGE for event, counter and sampling objects (R362, R368, R374, R376). -/
def Device.rangeEvents (d : Device) (i s v : Nat) : Bool :=
  match nth i 0xB010 32, nth i 0xB100 25, nth i 0xB200 16 with
  | some f, _, _ =>
    (s == 3 && !powerIn v 256 65536) || (s == 4 && decide (d.get (Obj.erRingEntries f) ≤ v))
  | _, some b, _ =>
    (decide (2 ≤ s) && decide (s ≤ 9) && (bits v 30 28 != 0 || bits v 15 8 != 0 || decide (bankTop b < bits v 7 0)))
    || (s == 1 && decide (1 < v))
  | _, _, some _ => s == 4 && decide (4095 < v) && v != 0xFFFF
  | _, _, _ => i == 0xB280 && ((s == 3 && !powerIn v 256 1048576) || (s == 4 && decide (d.get Obj.sringEntries ≤ v)))

/-- RANGE for security and host interface objects (R390, R401, Tables 14-13 and 15-9). -/
def Device.rangeHost (_d : Device) (i s v : Nat) : Bool :=
  match nth i 0xD010 32, nth i 0xD100 0x90 with
  | some f, _ => f != 0 && decide (7 < v)
  | _, some _ => s == 4 && !(if i < 0xD180 then powerIn v 64 65536 else powerIn v 16 256)
  | _, _ => false

/-- RANGE that an object's own chapter states. -/
def Device.rangeBar (d : Device) (i s v : Nat) : Bool :=
  if i < 0x2000 then d.rangeMgmt i s v
  else if i < 0x4000 then d.rangePorts i s v
  else if i < 0x5000 then d.rangeSearch i s v
  else if i < 0x8000 then d.rangePlane i s v
  else if i < 0xA000 then d.rangePlane i s v || d.rangeTraffic i s v
  else if i < 0xB000 then d.rangeTenant (i - 0xA000) s v
  else if i < 0xC000 then d.rangeEvents i s v
  else d.rangeHost i s v

/-- Whether a value lies outside the bounds its row states: a BOOL is 0 or 1, a BITS value has no bit above its width. -/
def outOfBounds (r : ObjRow) (v : Nat) : Bool := decide (v < r.lo) || decide (r.hi < v)

/-- Whether text holds a byte outside 0x20 to 0x7E (R46). -/
def textBad (r : ObjRow) (b : Bytes) : Bool :=
  match r.ty with
  | .text _ => b.any (fun x => decide (x.toNat < 0x20) || decide (0x7E < x.toNat))
  | _ => false

/-! ### Orders 9 to 11 together -/

/-- BUSY, STATE and RANGE on a WRITE of a subindex. -/
def Device.writeBar (d : Device) (a : Ask) : Option Code :=
  match findRow a.r.index a.r.sub with
  | none => some .noSub
  | some r =>
    let v := valueOf r.ty a.r.payload
    if r.staged && d.noShadow (groupOf a.r.index) then some .busy
    else if d.stateBar a.r.index a.r.sub v then some .state
    else if outOfBounds r v || textBad r a.r.payload || d.rangeBar a.r.index a.r.sub v then some .range
    else none

end Sys2Proof.Machine
end

