-- ==== Sys2Proof/Machine/Windows.lean ====
section
/-!
DEFINITION. Writes of the DOMAIN objects (R71, R72): the checks that each window's chapter states on its records, and what
an accepted WRITE_BLOCK does.
-/
namespace Sys2Proof.Machine

/-! ### Sizes and records -/

/-- The size and granule of a domain; those of the ternary windows follow the shadow geometry (R172). -/
def Device.domDim (d : Device) (r : ObjRow) (idx : Nat) : Nat × Nat :=
  match nth idx 0xE400 64, nth idx 0xE440 64 with
  | some t, _ => let g := rowGranule (d.shWidth t); (d.shRows t * g, g)
  | _, some t => (d.shRows t / 8, 8)
  | _, _ => match r.ty with
    | .domain size g => (size, g)
    | _ => (0, 1)

/-- Whether a WRITE_BLOCK keeps R71. -/
def segmentOk (dim : Nat × Nat) (off : Nat) (data : Bytes) : Bool :=
  off % dim.2 == 0 && data.length % dim.2 == 0 && decide (off + data.length ≤ dim.1)

/-- The granules of a segment with their numbers. -/
def segmentRecords (g off : Nat) (data : Bytes) : List (Nat × Bytes) :=
  (List.range (data.length / g)).map (fun i => (off / g + i, slice data (g * i) g))

/-! ### Security associations (R251, R252, R255) -/

/-- Whether a field that Table 9-1 marks zero for the record's TYPE is not zero. -/
def saFieldSet (b : Bytes) : Bool :=
  let w0 := beAt b 0 8
  let c := SaCfg.ofBytes b
  let esp := c.ty == saESPIN || c.ty == saESPOUT
  let mac := c.ty == saMACSECIN || c.ty == saMACSECOUT
  let xts := c.ty == saXTS
  (xts && (c.aes256 || c.ext)) || (!mac && bit w0 57) || (!xts && bit w0 56) || (xts && bits (beAt b 8 4) 7 0 != 0)
  || (esp && beAt b 16 8 != 0) || (mac && !c.ext && c.salt != 0) || (!mac && !xts && c.sci != 0)

/-- Whether a record of SA `s` is refused by R251 on its own. -/
def saRecordBad (s : Nat) (b : Bytes) : Bool :=
  let c := SaCfg.ofBytes b
  decide (5 < c.ty) || bits (beAt b 0 8) 17 0 != 0 || decide (1024 < c.window) || c.maxClass == 3 || saFieldSet b
  || (c.ty == saESPOUT && decide (c.encOffset < 14))
  || (c.ty == saESPIN && (decide (c.spi < 256) || c.spi % 65536 != s))

/-- The MACSEC_IN records of a storage copy, as (SCI, AN). -/
def Device.macsecIns (d : Device) (c : Bool) : List (Nat × Nat) :=
  let listed := ((if c then d.dict.mem1 else d.dict.mem0).filter (fun e =>
    e.1 / 2 ^ 32 == Obj.domSaTable && e.1 % 32 == 0)).map (fun e => e.1 % 2 ^ 32 / 32)
  (listed.map (fun s => d.saCfg c s)).filterMap (fun x => if x.ty = saMACSECIN then some (x.sci, x.an) else none)

/-- Whether the shadow would break the limits of R251 on MACSEC_IN records. -/
def Device.macsecBad (d : Device) (off : Nat) (data : Bytes) : Bool :=
  let e := d.stageBytes Obj.domSaTable off data
  let l := e.macsecIns (e.shadowCopy 7)
  decide (4096 < l.length) || l.eraseDups.length != l.length

/-- A configuration part with INLINE_FAIL_TRAP and JOB_FAIL_DROP left out. -/
def saFixed (b : Bytes) : Bytes := b.set 5 (byte (byteAt b 5 &&& 0xF3))

/-- Whether a write to an SA's parts meets its seal (R255). -/
def Device.saLocked (d : Device) (keys : Bool) (s : Nat) (b : Bytes) : Bool :=
  (d.saState s).isSealed && (keys || saFixed b != saFixed (d.saRecord (d.shadowCopy 7) s))

/-! ### Other records -/

/-- An S-VID map entry that R121 refuses. -/
def svidBad (vid : Nat) (b : Bytes) : Bool := bit (beNat b) 31 && (vid == 0 || vid == 4095)

/-- An admission-table entry out of range (Table 10-19). -/
def admissionBad (b : Bytes) : Bool :=
  decide (1572864 < beAt b 0 4) || decide (1572864 < beAt b 4 4) || bits (byteAt b 8) 7 5 != 0 || beAt b 9 7 != 0

/-- A multicast group header with a reserved bit set (Table 10-21). -/
def groupHeaderBad (b : Bytes) : Bool := bits (beNat b) 62 60 != 0 || bits (beNat b) 47 0 != 0

/-- A multicast member with a reserved bit set. -/
def memberBad (b : Bytes) : Bool := bits (beNat b) 7 0 != 0

/-- A write clears an ENABLE of a VRF that holds routes of that family (Table 6-10). -/
def Device.vrfClears (d : Device) (v : Nat) (b : Bytes) : Bool :=
  let old := d.shadowRead Obj.domVrfTable (32 * v) 32
  (bit (beAt old 0 8) 63 && !bit (beAt b 0 8) 63 && d.vrfHasRoutes v 0)
  || (bit (beAt old 0 8) 62 && !bit (beAt b 0 8) 62 && d.vrfHasRoutes v 1)

/-- The level of a scheduler window (1 groups, 2 tenant nodes, 3 queues), or 0. -/
def schedLevel (idx : Nat) : Nat := if idx = 0xE910 then 3 else if idx = 0xE911 then 2 else if idx = 0xE912 then 1 else 0

/-- A scheduler entry that R318 or Table 11-4 refuses. -/
def schedBad (lvl n : Nat) (b : Bytes) : Bool :=
  let e := SchedEntry.ofBytes b
  let internal := lvl == 3 && decide (65472 ≤ n)
  let top := if lvl = 1 then 128 else if lvl = 2 then 4096 else 16384
  schedReserved b || (e.rate != 0 && (decide (e.rate < 8) || decide (800000000 < e.rate)))
  || (decide (e.quantum < 64) && (e.enable || internal))
  || (if internal then e.enable || e.parent != 0 else decide (top ≤ e.parent))

/-- A record changes PARENT of a node whose active ENABLE is 1 (R320). -/
def Device.parentMoves (d : Device) (lvl n : Nat) (b : Bytes) : Bool :=
  let dom := levelDomain lvl
  (SchedEntry.ofBytes (d.activeRead dom (16 * n) 16)).enable
  && (SchedEntry.ofBytes b).parent != (SchedEntry.ofBytes (d.shadowRead dom (16 * n) 16)).parent

/-- An EVENT_CONFIG entry that is refused (R363, R365, Table 13-6). -/
def eventConfigBad (b : Bytes) : Bool :=
  let e := beNat b
  bits e 24 8 != 0 || (bits e 29 25 != 0 && (bit e 30 || decide (7 < bits e 7 0)))

/-- An RX_RING_MAP entry that is refused (Table 15-5). -/
def ringMapBad (b : Bytes) : Bool :=
  let e := beNat b
  bits e 31 14 != 0 || bits e 7 3 != 0 || decide (6 < bits e 2 0) || decide (64 < bits e 13 8 + 2 ^ bits e 2 0)

/-- The FUNCTION and SLOT of an entry of COUNTER_PAGE_MAP that is enabled. -/
def pageSlot (e : Nat) : Option (Nat × Nat) := if bit e 31 then some (bits e 30 26, bits e 9 0) else none

/-- A write would enable two pages at one FUNCTION and SLOT (R373), or sets a reserved bit. -/
def Device.pageMapBad (d : Device) (off : Nat) (data : Bytes) : Bool :=
  let e := d.memWrite Obj.domCounterPageMap off data
  let listed := ((e.dict.mem.filter (fun x => x.1 / 2 ^ 32 == Obj.domCounterPageMap)).map (fun x => x.1 % 2 ^ 32 / 4)).eraseDups
  let words := listed.map (fun p => beNat (e.memRead Obj.domCounterPageMap (4 * p) 4))
  let on := words.filterMap pageSlot
  words.any (fun w => bits w 25 10 != 0) || on.eraseDups.length != on.length

/-! ### Orders 8 to 11 on a WRITE_BLOCK -/

/-- LOCKED of order 8. -/
def Device.windowLocked (d : Device) (a : Ask) : Bool :=
  if a.r.index = 0xE700 then (segmentRecords 32 a.offset a.data).any (fun e => d.saLocked false e.1 e.2)
  else if a.r.index = 0xE701 then (segmentRecords 128 a.offset a.data).any (fun e => d.saLocked true e.1 e.2)
  else false

/-- BUSY of order 9 (R60, R189, R386). -/
def Device.windowBusy (d : Device) (a : Ask) (r : ObjRow) : Bool :=
  (r.staged && d.noShadow (groupOf a.r.index))
  || ((nth a.r.index 0xE500 64).isSome && d.srh.emBatch.isSome)
  || (a.r.index == 0xE600 && d.srh.lpmBatch.isSome)
  || (a.r.index == 0xC100 && d.transferBusy)

/-- STATE of order 10. -/
def Device.windowState (d : Device) (a : Ask) : Bool :=
  let i := a.r.index
  match nth i 0xE400 64 with
  | some t => d.rowsLive t a.offset a.data
  | none =>
    if i = 0xC100 then d.transferShut
    else if i = 0xE602 then (segmentRecords 32 a.offset a.data).any (fun e => d.vrfClears e.1 e.2)
    else if schedLevel i = 0 then false
    else (segmentRecords 16 a.offset a.data).any (fun e => d.parentMoves (schedLevel i) e.1 e.2)

/-- RANGE of order 11 for the ternary and command windows. -/
def Device.searchWindowBad (d : Device) (a : Ask) : Bool :=
  let i := a.r.index
  match nth i 0xE400 64, nth i 0xE440 64, nth i 0xE500 64 with
  | some t, _, _ => d.rowsBad t a.offset a.data || decide (65536 < (d.writeRows t a.offset a.data).stagedTcam)
  | _, some t, _ => decide (65536 < (d.writeValid t a.offset a.data).stagedTcam)
  | _, _, some t => (segmentRecords 64 a.offset a.data).any (fun e => emRecordBad (d.shadow (Obj.emKeyBytes t)) e.2)
  | _, _, _ =>
    i == 0xE600 && (segmentRecords 64 a.offset a.data).any (fun e => lpmRecordBad e.2)

/-- RANGE of order 11, on a segment that keeps R71. -/
def Device.windowBad (d : Device) (a : Ask) : Bool :=
  let i := a.r.index
  let recs := fun (g : Nat) => segmentRecords g a.offset a.data
  if 0xE400 ≤ i ∧ i ≤ 0xE602 then d.searchWindowBad a
  else match i with
    | 0xE200 => (recs 4).any (fun e => svidBad e.1 e.2)
    | 0xE300 => (recs 128).any (fun e => !(PNode.ofBytes e.2).recordOk)
    | 0xE301 => (recs 128).any (fun e => !keyProfileOk e.2)
    | 0xE700 => (recs 32).any (fun e => saRecordBad e.1 e.2) || d.macsecBad a.offset a.data
    | 0xE800 => (recs 16).any (fun e => admissionBad e.2)
    | 0xE802 => (recs 8).any (fun e => groupHeaderBad e.2)
    | 0xE803 => (recs 4).any (fun e => memberBad e.2)
    | 0xE900 => (recs 32).any (fun e => !meterOk e.2)
    | 0xEB00 => (recs 4).any (fun e => eventConfigBad e.2)
    | 0xEB03 => d.pageMapBad a.offset a.data
    | 0xEC00 => (recs 4).any (fun e => ringMapBad e.2)
    | _ => schedLevel i != 0 && (recs 16).any (fun e => schedBad (schedLevel i) e.1 e.2)

/-- A WRITE_BLOCK as the whole granules that its bytes touch, those it does not write as the shadow has them; one that keeps
R71 is itself. -/
def Device.covering (d : Device) (a : Ask) (g : Nat) : Ask :=
  let lo := a.offset / g * g
  let n := ceilDiv (a.offset + a.data.length) g * g - lo
  let data := splice (d.shadowRead a.r.index lo n) (a.offset - lo) a.data
  { a with r := { a.r with payload := beBytes 8 lo ++ data } }

/-- Orders 8 to 11 of Table 2-10 on a WRITE_BLOCK; LOCKED and STATE come before the RANGE of R71 (R67), and a segment that
breaks R71 meets them in the granules it touches. -/
def Device.windowBar (d : Device) (a : Ask) (r : ObjRow) : Option Code :=
  let dim := d.domDim r a.r.index
  let ok := segmentOk dim a.offset a.data
  let b := if ok then a else d.covering a dim.2
  if d.windowLocked b then some .locked
  else if d.windowBusy a r then some .busy
  else if d.windowState b then some .state
  else if !ok || d.windowBad a then some .range
  else none

/-! ### What an accepted WRITE_BLOCK does (R72) -/

/-- A segment of exact-match commands; FINAL runs the records from offset 0 to its end (R188, R189). -/
def Device.writeEmCommands (d : Device) (t off : Nat) (data : Bytes) (final : Bool) : Device × Code :=
  let d := d.memWrite (Obj.domEmCommand t) off data
  let n := (off + data.length) / 64
  if !final then (d, .ok)
  else if d.emBatchLong n then ({ d with srh := { d.srh with emBatch := some (t, n) } }, .pending)
  else (d.emBatchRun t n, .ok)

/-- A segment of route commands. -/
def Device.writeLpmCommands (d : Device) (off : Nat) (data : Bytes) (final : Bool) : Device × Code :=
  let d := d.memWrite Obj.domLpmCommand off data
  let n := (off + data.length) / 64
  if !final then (d, .ok)
  else if d.lpmBatchLong n then ({ d with srh := { d.srh with lpmBatch := some n } }, .pending)
  else (d.lpmBatchRun n, .ok)

/-- The bytes a segment stores: the reserved bits of S-VID map and VRF entries and of key records are ignored and read
zero (R2, Tables 4-8, 6-10 and 9-2). -/
def storedBytes (i : Nat) (data : Bytes) : Bytes :=
  match i with
  | 0xE200 => (segmentRecords 4 0 data).flatMap (fun e =>
      [e.2.getD 0 0 &&& 0x80, 0, e.2.getD 2 0 &&& 0x0F, e.2.getD 3 0])
  | 0xE701 => (segmentRecords 128 0 data).flatMap (fun e => e.2.take 96 ++ zeros 32)
  | 0xE602 => (segmentRecords 32 0 data).flatMap (fun e => [e.2.getD 0 0 &&& 0xC0] ++ zeros 15 ++ e.2.drop 16)
  | _ => data

/-- Key records; one that was delivered and waits for its flip is replaced by the one written. -/
def Device.writeKeys (d : Device) (off : Nat) (data : Bytes) : Device :=
  (segmentRecords 128 off data).foldl (fun d e => d.setSa e.1 { d.saState e.1 with pendingEpoch := none })
    (d.stageBytes Obj.domSaKeys off (storedBytes 0xE701 data))

/-- Node records: those written are in error no longer in the storage copy they go to (R143). -/
def Device.writeGraph (d : Device) (off : Nat) (data : Bytes) : Device :=
  let c := d.shadowCopy 2
  let nodes := (segmentRecords 128 off data).map Prod.fst
  let d := d.stageBytes Obj.domParseGraph off data
  { d with pkt := { d.pkt with graphErr := d.pkt.graphErr.filter (fun k =>
      !((k / 256 % 2 == 1) == c && nodes.contains (k % 256))) } }

/-- An accepted WRITE_BLOCK. -/
def Device.writeWindow (d : Device) (a : Ask) (r : ObjRow) : Device × Code :=
  let i := a.r.index
  let final := bit a.r.aux 1
  match nth i 0xE400 64, nth i 0xE440 64, nth i 0xE500 64 with
  | some t, _, _ => (d.writeRows t a.offset a.data, .ok)
  | _, some t, _ => (d.writeValid t a.offset a.data, .ok)
  | _, _, some t => d.writeEmCommands t a.offset a.data final
  | _, _, _ =>
    if i = 0xE600 then d.writeLpmCommands a.offset a.data final
    else if i = 0xE300 then (d.writeGraph a.offset a.data, .ok)
    else if i = 0xE701 then (d.writeKeys a.offset a.data, .ok)
    else if i = 0xC100 then
      let d := d.transfer a.offset a.data final
      (d, if d.get d.phaseObj = bpVERIFYING then .pending else .ok)
    else if r.staged then (d.stageBytes i a.offset (storedBytes i a.data), .ok)
    else (d.memWrite i a.offset a.data, .ok)

end Sys2Proof.Machine
end

