-- ==== Sys2Proof/Machine/Readout.lean ====
section
/-!
DEFINITION. Reads of the dictionary: the values that follow from the state of a block, the value and AGE a READ returns
(R54 to R57), and the bytes of the DOMAIN objects.
-/
namespace Sys2Proof.Machine

/-! ### Values that follow from the state -/

/-- One byte per function: its Frost state, function 0 in byte 0. -/
def Device.frostBytes (d : Device) (cls n : Nat) : Nat := (List.range n).foldl (fun a i => a * 256 + d.frostState cls i) 0

/-- Identity, boot and management objects. -/
def Device.readMgmt (f : Assoc Nat) (d : Device) (i s : Nat) : Option Nat :=
  match i * 256 + s with
  | 0x000005 => some ((fuseSerial d.sec.scan).getD 0)
  | 0x000006 => some ((fuseVcore d.sec.scan).getD 0)
  | 0x000304 => some (fuseRollback f)
  | 0x000305 => some (ownerSlots f)
  | 0x000306 => some d.tornCount
  | 0x100402 => some (b2n d.parity)
  | 0x100504 => some ((d.ptr islMGT).copyOdd * 2 ^ 16 + (d.ptr islMGT).copyEven)
  | 0x100509 => some (if d.get Obj.frontPhase = 4 then d.oldResident else 0)
  | 0x102003 => some d.frostingCount
  | 0x102101 => some (d.frostBytes 2 128)
  | 0x102102 => some (d.frostBytes 3 16)
  | 0x102103 => some (d.frostBytes 5 32)
  | 0x102104 => some (d.frostBytes 6 32)
  | 0x103101 => some (ofInt 32 d.tempMax)
  | 0x103302 => some d.ev.logged.length
  | 0x104101 => some d.now
  | _ => if i = 0x1032 then some (ofInt 32 (d.temp (s - 1))) else none

/-- The routes of a family in the current-parity view. -/
def Device.routeCount (d : Device) (fam : Nat) : Nat :=
  ((d.routes d.parity).filter (fun e => e.1 / 2 ^ 136 % 2 == fam)).length

/-- Search objects. -/
def Device.readSearch (d : Device) (i s : Nat) : Option Nat :=
  match nth i 0x4100 64, nth i 0x4400 64 with
  | some t, _ => if s = 3 then some (d.shRows t) else if s = 4 then some (rowGranule (d.shWidth t)) else none
  | _, some t =>
    if s = 10 then some (d.emEntries t d.parity)
    else if s = 11 then
      some (if d.srh.clears.contains t then 2 else match d.srh.emBatch with
        | some (u, _) => if u = t then 1 else 0
        | none => 0)
    else none
  | _, _ =>
    match i * 256 + s with
    | 0x460003 => some d.routeCapacity
    | 0x460004 => some (d.routeCount 0)
    | 0x460005 => some (d.routeCount 1)
    | 0x460006 => some (b2n d.srh.lpmBatch.isSome)
    | 0x470001 => some d.stagedTcam
    | 0x470002 => some d.srh.emStaged.length
    | 0x470003 => some d.srh.lpmStaged.length
    | _ => none

/-- The version object of a cluster's stores (R229). -/
def Device.storeVersion (d : Device) (c : Nat) : Nat :=
  let st := d.get (Obj.clLoadState c)
  if st = ldTESTING ∨ st = ldLOADED then
    let x := (d.cluster c).image
    versionObject x.id x.version x.hash
  else 0

/-- Engine objects. -/
def Device.readEngine (d : Device) (i s : Nat) : Option Nat :=
  match nth i 0x5000 16, nth i 0x5080 4 with
  | some c, _ =>
    if s = 5 ∨ s = 6 then some (d.storeVersion c)
    else if s = 9 then some (d.freeCount c)
    else none
  | _, some n => if s = 4 then some (d.boundClusters n) else none
  | _, _ => none

/-- The chains of a pool that an engine thread holds. -/
def Device.heldChains (d : Device) (p : Nat) : Nat :=
  (d.liveChains.filter (fun e => e.2.pool == p && e.2.holder.isSome)).length

/-- Switch core objects. -/
def Device.readSwitch (d : Device) (m i s : Nat) : Option Nat :=
  match nth i 0x7001 4, nth i 0x7010 32, nth i 0x7100 132 with
  | some pg, _, _ => if s = 1 then some (d.landingFree pg) else none
  | _, some p, _ =>
    if s = 2 then some (d.poolFreeRead p)
    else if s = 3 then some (d.liveChains.filter (fun e => e.2.pool == p)).length
    else if s = 4 then some (d.heldChains p)
    else none
  | _, _, some p => if s = 2 then some (d.heldItems p) else none
  | _, _, _ =>
    match i * 256 + s with
    | 0x70000B => some d.deviceFree
    | 0x70000C => some ((List.range 32).map (fun p => d.shadow (Obj.poolSize p))).sum
    | 0x704002 => some (d.svc.poolResult.getD (fun _ => 0) m)
    | 0x704003 => some (d.svc.poolQuery.getD (fun _ => 0) m)
    | _ => none

/-- Traffic manager and Barometer objects. -/
def Device.readTraffic (f : Assoc Nat) (d : Device) (i s : Nat) : Option Nat :=
  let forced := b2n (d.devState != stSERVICE)
  if 0x8010 ≤ i ∧ i < 0x8050 ∧ s = 2 then some forced
  else if i = 0x8000 ∧ s = 1 then some forced
  else if i = 0x9002 then some (d.baro.accounts.getD (fun _ => 0) (if s = 1 then acctDevice else acctStatic))
  else if i = 0x9010 then some (fuseCoef d.sec.scan (s - 1))
  else if i = 0x9012 then some (coefInUse f d (s - 1))
  else none

/-- Event, counter and sampling objects. -/
def Device.readEvents (d : Device) (i s : Nat) : Option Nat :=
  match nth i 0xB100 25, nth i 0xB200 16 with
  | some b, _ =>
    if s = 10 then some (d.bankCyclesOf b) else if s = 13 then some (d.ev.snapCycles.getD (fun _ => 0) b) else none
  | _, some c => if s = 7 then some (d.sampler c).buffer.length else none
  | _, _ => if i = 0xB000 ∧ s = 2 then some d.ev.queue.length else none

/-- Security objects; in RMA the public keys read zero (R391). -/
def Device.readSecure (f : Assoc Nat) (d : Device) (m i s : Nat) : Option Nat :=
  match nth i 0xC010 4 with
  | some n =>
    if s = 1 then some ((ownerHash f n).getD 0) else if s = 2 then some (b2n (ownerRevoked f n)) else some (slotState f n)
  | none =>
    match i * 256 + s with
    | 0xC00001 => some (fuseRowStates d.sec.scan)
    | 0xC00005 => some ((fuseVendorRoot d.sec.scan).getD 0)
    | 0xC04001 => some (if d.get Obj.lifecycle = 3 then 0 else beNat d.sec.identityKey)
    | 0xC04002 => some (if d.get Obj.lifecycle = 3 then 0 else beNat d.aliasKey)
    | 0xC05002 => some (d.quote m).status
    | _ => none

/-- The value of an object that a block computes; `none` for one that is stored. -/
def Device.computed (f : Assoc Nat) (d : Device) (m i s : Nat) : Option Nat :=
  if i < 0x2000 then d.readMgmt f i s
  else if i < 0x4000 then none
  else if i < 0x5000 then d.readSearch i s
  else if i < 0x6000 then d.readEngine i s
  else if i < 0x7000 then none
  else if i < 0x8000 then d.readSwitch m i s
  else if i < 0xA000 then d.readTraffic f i s
  else if i < 0xB000 then (if s = 12 then some (d.frostState 1 (i - 0xA000)) else none)
  else if i < 0xC000 then d.readEvents i s
  else if i < 0xD000 then d.readSecure f m i s
  else none

/-! ### READ (R54 to R57) -/

/-- The AGE of a value that an island holds (R54, R55): 0 in MGT, free within its bounds while the island runs (log entry 1),
and while it is stopped, rising by one at each slow-clock edge from what it was, up to 0xFFFF. -/
def Device.age (d : Device) (isl : Nat) : Device × Nat :=
  if isl = islMGT then (d, 0)
  else if d.stopped isl then
    let x := d.cluster isl
    (d, min 0xFFFF (x.stoppedAge + (d.now / 10 - x.stoppedAt / 10)))
  else d.runningAge isl

/-- GPIO_IN (R453): an output reads the bit it drives; the level at an input is a free value (log entry 1). -/
def Device.gpioLevels (d : Device) : Device × Nat :=
  let r := d.takeFree
  (r.2, (d.gpioLevel &&& d.gpioDriven) ||| (r.1 &&& (0xFFFF - d.gpioDriven)))

/-- The value of a subindex for a master: shadow, active, or current; and whether shadow and active differ.  R24 leaves open at
which instant within its stated age a mirrored value was captured: the model returns the island's value at the read itself,
whatever AGE it states (DESIGN CHOICE, log entry 49).  A stopped cluster's mirror copy is the last captured before the stop
(R50). -/
def Device.readSub (f : Assoc Nat) (d : Device) (m : Nat) (active : Bool) (r : ObjRow) (i s : Nat) : Device × Nat × Bool :=
  let k := i * 256 + s
  if s = 0 then (d, r.dflt, false)
  else if k = Obj.gpioIn then let g := d.gpioLevels; (g.1, g.2, false)
  else if r.staged then
    let g := groupOf i
    (d, if active || d.noShadow g then d.active k else d.shadow k, !d.noShadow g && d.shadow k != d.active k)
  else if r.access = .rm ∧ d.stopped (homeOf i r.access) then
    (d, (d.cluster (homeOf i r.access)).mirror.getD objDefault k, false)
  else (d, (d.computed f m i s).getD (d.get k), false)

/-- The response to a READ that is served. -/
def Device.readObject (f : Assoc Nat) (d : Device) (a : Ask) (r : ObjRow) : Device × Response :=
  let v := d.readSub f a.master (a.r.aux % 2 == 1) r a.r.index a.r.sub
  let g := v.1.age (homeOf a.r.index r.access)
  (g.1, { code := .ok, aux := if v.2.2 then 0x80 else 0, age := g.2, payload := beBytes r.ty.size v.2.1 })

/-! ### The bytes of the DOMAIN objects -/

/-- `n` bytes from an offset of what a function gives granule by granule. -/
def byGranule (g off n : Nat) (one : Nat → Bytes) : Bytes := (List.range (n / g)).flatMap (fun j => one (off / g + j))

/-- An SA's state part (Table 9-3). -/
def Device.saStateBytes (d : Device) (s : Nat) : Bytes :=
  let x := d.saState s
  [byte (d.frostState 4 s), byte (d.saStateByte s)] ++ zeros 2 ++ beBytes 4 x.epoch ++ beBytes 8 x.tx ++ beBytes 8 x.rxHigh
  ++ beBytes 4 x.serial ++ zeros 4

/-- A bank's word (R370): counter n at 8n, its snapshot at 4,096 + 8n. -/
def Device.bankWord (d : Device) (b w : Nat) : Bytes :=
  beBytes 8 ((if w < 512 then d.ev.counters else d.ev.snaps).getD (fun _ => 0) (b * 512 + w % 512))

/-- An event source's status: TOTAL, and the occurrences that its pending slots hold. -/
def Device.eventStatusBytes (d : Device) (s : Nat) : Bytes :=
  let n := ((d.ev.pending.filter (fun e => keySource e.1 == s)).map (fun e => e.2.count)).sum
  d.memRead Obj.domEventStatus (16 * s) 8 ++ beBytes 4 (min n (2 ^ 32 - 1)) ++ zeros 4

/-- `n` bytes of a domain from an offset, for a master. -/
def Device.domainBytes (d : Device) (m : Nat) (r : ObjRow) (i off n : Nat) : Bytes :=
  match nth i 0xE400 64, nth i 0xE440 64, nth i 0xEB10 25 with
  | some t, _, _ =>
    let w := d.shWidth t
    byGranule (rowGranule w) off n (fun row => d.rowRecord t w row (d.noShadow 3))
  | _, some t, _ => byGranule 8 off n (fun w => d.validWord t w (d.noShadow 3))
  | _, _, some b => byGranule 8 off n (fun w => d.bankWord b w)
  | _, _, _ =>
    match i with
    | 0xE702 => byGranule 32 off n d.saStateBytes
    | 0xE901 => byGranule 32 off n d.meterStateBytes
    | 0xE913 => byGranule 32 off n d.queueStatusBytes
    | 0xEB01 => byGranule 16 off n d.eventStatusBytes
    | 0xC041 => slice (fit 17088 d.sec.aliasCert) off n
    | 0xC051 => slice (fit 36048 (d.quote m).body) off n
    | _ => if r.staged then d.shadowRead i off n else d.memRead i off n

/-- The response to a READ_BLOCK past order 10: RANGE, or the bytes up to the end (R71). -/
def Device.readDomain (d : Device) (a : Ask) (r : ObjRow) : Device × Response :=
  let dim := d.domDim r a.r.index
  if a.offset % dim.2 ≠ 0 ∨ a.count % dim.2 ≠ 0 ∨ a.src.payloadMax < a.count ∨ dim.1 ≤ a.offset then (d, { code := .range })
  else
    let n := min a.count (dim.1 - a.offset)
    let g := d.age (homeOf a.r.index r.access)
    (g.1, { code := .ok, age := g.2, payload := d.domainBytes a.master r a.r.index a.offset n })

/-! ### The descriptor of a subindex (Table 2-12) -/

/-- Subindices that tenants may read in band (R76). -/
def tenantScoped (i s : Nat) : Bool :=
  (decide (0xA000 ≤ i) && decide (i < 0xB000) && (s == 13 || s == 14)) || ((i == 0xEB02 || i == 0xEA00) && s == 1)

/-- Subindices held under R66 (Table 2-6). -/
def triplicated (i s : Nat) : Bool :=
  (decide (0x1100 ≤ i) && decide (i < 0x1108) && decide (1 ≤ s) && decide (s ≤ 0x60))
  || (decide (0x2200 ≤ i) && decide (i < 0x2280) && s == 9) || (i == 2 && s == 1) || (i == 0x1003 && s != 0)
  || (i == 0x1004 && (s == 1 || s == 2)) || (i == 0x1005 && s == 4)

/-- Whether a write-once object has been written. -/
def writtenOnce (f : Assoc Nat) (i s : Nat) : Bool :=
  match nth i 0xC010 4 with
  | some n => (s == 1 && ownerWritten f n) || (s == 2 && ownerRevoked f n)
  | none => false

/-- The sixteen bytes of Table 2-12. -/
def Device.descriptor (f : Assoc Nat) (d : Device) (a : Ask) (r : ObjRow) : Bytes :=
  let i := a.r.index
  let s := a.r.sub
  let dim := d.domDim r i
  let flags := b2n (tenantScoped i s) * 128 + b2n (writtenOnce f i s) * 64 + b2n (triplicated i s) * 32
    + b2n (homeOf i r.access != islMGT) * 16
  [byte r.ty.code, byte r.access.code, byte (if r.staged then groupOf i else 0xFF), byte flags]
  ++ beBytes 4 (if r.isDomain then dim.2 else r.ty.size) ++ beBytes 8 (if r.isDomain then dim.1 else 0)

/-- The sixteen bytes of Table 2-11. -/
def Device.serviceStatus (d : Device) (m : Nat) : Bytes :=
  [byte d.devState, 1, byte (d.get Obj.draining), 0] ++ beBytes 2 m ++ zeros 2 ++ beBytes 8 (d.get Obj.generation)

end Sys2Proof.Machine
end

