-- ==== Sys2Proof/Machine/Service.lean ====
section
/-!
DEFINITION. The Kaznu service (R52): which waiting request it takes, how a taken request reaches its response (R67), and
what each opcode and each object with an action of its own does.
-/
namespace Sys2Proof.Machine

/-! ### The order of service (R52) -/

/-- The number of a source in the rotation: mailboxes 0 to 31, sessions 32 to 47, the in-band queue 48. -/
def Source.number (s : Source) : Nat :=
  match s with
  | .mailbox fn => fn
  | .session n _ _ => 32 + n
  | .inband _ _ _ _ => 48

/-- How far a source stands behind the one served last. -/
def rotationRank (last : Nat) (s : Source) : Nat := (s.number + 48 - last) % 49

/-- Of two waiting requests, the one whose source comes first in the rotation; the earlier one of a tie. -/
def nearer (last : Nat) (a b : Waiting) : Waiting := if rotationRank last b.src < rotationRank last a.src then b else a

/-- The request the rotation names. -/
def Svc.first (v : Svc) : Option Waiting :=
  match v.waiting with
  | [] => none
  | w :: ws => some (ws.foldl (nearer v.lastServed) w)

/-- The request the service takes next: none in RESET, while the cores restart (R437), or before the response of a COMMIT
in execution (R59). -/
def Device.chosen (d : Device) : Option Waiting :=
  if d.devState = stRESET ∨ d.sys.restarting ∨ d.svc.committing.isSome then none else d.svc.first

/-- The service takes a request; L of its session becomes the request's SEQUENCE (R75). -/
def Device.take (d : Device) (w : Waiting) : Device :=
  let d : Device := { d with svc := { d.svc with waiting := d.svc.waiting.erase w, lastServed := w.src.number } }
  let d := d.tallyPlain islMGT 0 1
  match w.src with
  | .session n _ _ =>
    if w.discard then d
    else
      let q := w.request.seq
      (d.setSession n { d.session n with executing := some q, kept := none }).put (Obj.sessionLastSequence n) q
  | .mailbox _ => d
  | .inband _ _ _ _ => d

/-- Management-port and in-band requests are discarded without a response in BOOT and HALT (R68). -/
def Device.mute (d : Device) (w : Waiting) : Bool :=
  (d.devState == stBOOT || d.devState == stHALT) && decide (32 ≤ w.src.number)

/-- A write to a locked object is recorded (R64). -/
def Device.noteLocked (d : Device) (a : Ask) : Device :=
  let d := ((d.bump Obj.svcLockedWriteCount).put Obj.svcLastLockedTarget a.key).put Obj.svcLastLockedMaster a.master
  d.fire islMGT 12 (a.master * 2 ^ 48 + a.key)

/-- The response to a request that was taken. -/
def Device.reply (d : Device) (w : Waiting) (x : Response) : Device :=
  if x.code = .locked then (d.noteLocked w.ask).respond w x else d.respond w x

/-- What a command does with a request that passed the checks of orders 1 to 7: the device after it, and the response, or
`none` while a COMMIT waits for its flip. -/
abbrev Act := Assoc Nat → Device → Waiting → Device × Option Response

/-- A request is taken and executed to its response (R52, R67). -/
def Device.perform (f : Assoc Nat) (d : Device) (w : Waiting) (act : Act) : Device :=
  if d.mute w then { d with svc := { d.svc with waiting := d.svc.waiting.erase w, lastServed := w.src.number } }
  else
    let d := d.take w
    match d.screen w.ask with
    | some (.code c) => d.reply w { code := c }
    | some (.denied t x) => (d.deny t w.ask.master x).reply w { code := .access }
    | none => match act f d w with
      | (d, some x) => d.reply w x
      | (d, none) => d

/-- The command of a row: it acts when the request the service takes next is one of its own. -/
def serve (r : Row) (act : Act) (s : State) : Host.Outcome State Fault Refusal :=
  match s.d.chosen with
  | some w => if s.d.rowFor w.request = r then .next { s with d := s.d.perform s.fuses w act } else .next s
  | none => .next s

/-! ### WRITE -/

/-- The value a WRITE carries for the type of its subindex. -/
def Ask.written (a : Ask) : Nat :=
  match findRow a.r.index a.r.sub with
  | some r => r.value a.r.payload
  | none => a.value

/-- A code as a response. -/
def coded (x : Device × Code) : Device × Option Response := (x.1, some { code := x.2 })

/-- An act that decides on device, request and value. -/
def answering (go : Device → Ask → Nat → Device × Code) : Act := fun _ d w => coded (go d w.ask w.ask.written)

/-- An act that passes orders 9 to 11 of Table 2-10 first. -/
def writing (go : Device → Ask → Nat → Device × Code) : Act :=
  answering (fun d a v => match d.writeBar a with
    | some c => (d, c)
    | none => go d a v)

/-- An act of that kind that answers OK. -/
def writingOk (go : Device → Ask → Nat → Device) : Act := writing (fun d a v => (go d a v, .ok))

/-- A write of 0 to an ENABLE that a fill or a clear is still to set gives that up (log entry 14). -/
def Device.giveUp (d : Device) (i s v : Nat) : Device :=
  if v ≠ 0 ∨ s ≠ 1 then d
  else match nth i 0x4010 64, nth i 0x4400 64 with
    | some g, _ => { d with srh := { d.srh with fills := d.srh.fills.erase g } }
    | _, some t => { d with srh := { d.srh with clears := d.srh.clears.erase t } }
    | _, _ => d

/-- A WRITE by the access code of its object (R48, R57): a session's KEY is held apart and never read back (R96). -/
def Device.assign (d : Device) (a : Ask) (v : Nat) : Device :=
  let i := a.r.index
  let staged := match findRow i a.r.sub with
    | some r => r.staged
    | none => false
  if staged then (d.giveUp i a.r.sub v).stage a.key v
  else match nth i 0x1010 16 with
    | some n => d.setSession n { d.session n with key := some (fit 32 a.r.payload) }
    | none =>
      let d := d.put a.key v
      if a.key = Obj.todOffset then { d with sys := { d.sys with todAt := d.now } }
      else if a.key = Obj.evIntPinEnable then d.intPin
      else d

/-- KAZNU_WRITE. -/
def actWrite : Act := writingOk Device.assign

/-! ### READ, blocks and STATUS -/

/-- KAZNU_READ. -/
def actRead : Act := fun f d w =>
  match findRow w.ask.r.index w.ask.r.sub with
  | some r => let x := d.readObject f w.ask r; (x.1, some x.2)
  | none => (d, some { code := .noSub })

/-- OVERFLOW_READ (R369): the bits returned are cleared. -/
def actOverflow : Act := fun _ d w =>
  let b := Obj.bankOverflow (w.ask.r.index - 0xB100)
  (d.put b 0, some { code := .ok, payload := beBytes 64 (d.get b) })

/-- KAZNU_READ_BLOCK. -/
def actReadBlock : Act := fun _ d w =>
  match findRow w.ask.r.index w.ask.r.sub with
  | some r => let x := d.readDomain w.ask r; (x.1, some x.2)
  | none => (d, some { code := .noSub })

/-- KAZNU_WRITE_BLOCK. -/
def actWriteBlock : Act := fun _ d w =>
  match findRow w.ask.r.index w.ask.r.sub with
  | some r => coded (match d.windowBar w.ask r with
    | some c => (d, c)
    | none => d.writeWindow w.ask r)
  | none => (d, some { code := .noSub })

/-- STATUS, service form. -/
def actStatus : Act := fun _ d w => (d, some { code := .ok, payload := d.serviceStatus w.ask.master })

/-- STATUS, descriptor form. -/
def actDescriptor : Act := fun f d w =>
  match findRow w.ask.r.index w.ask.r.sub with
  | some r => (d, some { code := .ok, payload := d.descriptor f w.ask r })
  | none => (d, some { code := .noSub })

/-! ### COMMIT (R58 to R61) -/

/-- BUSY of a COMMIT: a front drains, or the mask names a group whose tables a batch, a clear or a fill is changing. -/
def Device.commitBusy (d : Device) (mask : Nat) : Bool :=
  d.get Obj.frontPhase != 0 || (bit mask 4 && (d.srh.emBatch.isSome || !d.srh.clears.isEmpty))
  || (bit mask 5 && d.srh.lpmBatch.isSome) || (bit mask 3 && !d.srh.fills.isEmpty)

/-- A front starts in PREPARE: the sequencer works on what the tables have staged (Table 8-3). -/
def Device.frontBegin (d : Device) (mask : Nat) : Device :=
  let d := ((d.put Obj.lastCommitMask mask).put Obj.frontLastCommitTime d.now).put Obj.frontPhase 1
  let d : Device := { d with front := { d.front with
    mask := mask, boundUs := d.get Obj.frontDrainBoundUs, trap := decide (d.get Obj.frontExpiredAction = 1), acks := [],
    stalled := false, expiring := false, expired := 0, finalEntries := 0, finals := [] } }
  d.prepareTables mask

/-- KAZNU_COMMIT: the response is sent after the flip. -/
def actCommit : Act := fun _ d w =>
  let mask := w.ask.value
  if d.commitBusy mask then (d, some { code := .busy })
  else if mask = 0 then (d, some { code := .range })
  else
    let d := d.frontBegin mask
    ({ d with svc := { d.svc with committing := some w } }, none)

/-! ### Sessions (R75) -/

/-- SESSION_OPEN: L is 0; a session that is OPEN stays as it is. -/
def Device.openSession (d : Device) (n : Nat) : Device :=
  if d.get (Obj.sessionState n) = 1 then d
  else ((d.put (Obj.sessionState n) 1).put (Obj.sessionLastSequence n) 0).setSession n
    { d.session n with kept := none, executing := none }

/-- Whether a source is a session. -/
def Source.isSession (s : Source) (n : Nat) : Bool :=
  match s with
  | .session k _ _ => k == n
  | _ => false

/-- SESSION_CLOSE: the key and the kept response are erased; a response still to come is not sent. -/
def Device.closeSession (d : Device) (n : Nat) : Device :=
  let d := (d.put (Obj.sessionState n) 0).setSession n {}
  { d with svc := d.svc.forsake (fun s => s.isSession n) }

/-- SESSION_OPEN. -/
def actOpen : Act := writingOk (fun d a _ => d.openSession (a.r.index - 0x1010))

/-- SESSION_CLOSE. -/
def actClose : Act := writingOk (fun d a _ => d.closeSession (a.r.index - 0x1010))

/-! ### Frost (R98 to R100) -/

/-- FROST_REQUEST: the instance, then BUSY and STATE, then the reserved encodings (R67, R99, R100). -/
def Device.frostAsk (d : Device) (x : FrostAsk) (go : Device → Device × Code) : Device × Code :=
  if !frostable x.cls x.inst then (d, .range)
  else match d.frostGate x with
    | some c => (d, c)
    | none =>
      let r := go d
      if r.2 = .state then (d, .state) else if x.bad then (d, .range) else r

/-- A Frost command of the table. -/
def actFrost (go : Device → FrostAsk → Device × Code) : Act :=
  answering (fun d _ v => let x := FrostAsk.ofNat v; d.frostAsk x (fun d => go d x))

/-- FROST_SOFT. -/
def actFrostSoft : Act := actFrost (fun d x => d.frostSoft x.cls x.inst x.deadlineUs)
/-- FROST_HARD. -/
def actFrostHard : Act := actFrost (fun d x => d.frostHard x.cls x.inst)
/-- FROST_THAW. -/
def actFrostThaw : Act := actFrost (fun d x => d.frostThaw x.cls x.inst)
/-- FROST_DISABLE. -/
def actFrostDisable : Act := actFrost (fun d x => d.frostDisable x.cls x.inst)
/-- FROST_ENABLE. -/
def actFrostEnable : Act := actFrost (fun d x => d.frostEnable x.cls x.inst)

/-! ### Ports and search -/

/-- QUAD_MODE_WRITE. -/
def actQuadMode : Act := writingOk (fun d a v => d.quadWrite (a.r.index - 0x2100) v)
/-- PORT_ENABLE. -/
def actPortEnable : Act := writingOk (fun d a v => d.portEnableWrite (a.r.index - 0x2200) v)
/-- PORT_RESET_RETRAIN. -/
def actRetrain : Act := writingOk (fun d a _ => d.portRetrain (a.r.index - 0x2200))
/-- PORT_RESET_RESET. -/
def actPortReset : Act := writingOk (fun d a _ => d.portResetAll (a.r.index - 0x2200))
/-- GROUP_ENABLE: OK where the shadow ENABLE is 1, else the fill starts (log entry 14). -/
def actGroupEnable : Act :=
  writing (fun d a _ => if d.shadow a.key = 1 then (d, .ok) else (d.groupFill (a.r.index - 0x4010), .pending))
/-- EM_TABLE_ENABLE. -/
def actEmEnable : Act :=
  writing (fun d a _ => let r := d.emEnableNew (a.r.index - 0x4400); (r.1, if r.2 then .pending else .ok))
/-- FIXED_SELECT. -/
def actFixed : Act := writingOk (fun d a v => d.fixedWrite (a.r.index - 0x4000) v)

/-! ### Engines (R231, R232) -/

/-- Whether a cluster is the only one in service. -/
def Device.onlyInService (d : Device) (c : Nat) : Bool := d.inService c && d.serviceCount == 1

/-- RELOAD. -/
def Device.reloadAsk (d : Device) (c v : Nat) : Device × Code :=
  let st := d.devState
  if !(st == stINIT || st == stSERVICE || st == stTEST || st == stRECOVERY) ∨ d.frostState 3 c = 3
      ∨ d.get (Obj.slotPresent (d.get (Obj.clImageSlot c))) = 0 then (d, .state)
  else if d.reloadRuns ∨ d.frostState 3 c = 1 then (d, .busy)
  else if d.onlyInService c then (d, .state)
  else if v ≠ 1 then (d, .range)
  else (d.startReload c, .pending)

/-- RELOAD. -/
def actReload : Act := answering (fun d a v => d.reloadAsk (a.r.index - 0x5000) v)

/-- CLUSTER_RESET: OK once the cluster has reached its final state. -/
def Device.clusterResetAsk (d : Device) (c v : Nat) : Device × Code :=
  if v ≠ 1 then (d, .range)
  else
    let d := (d.startClusterReset c).frostSettle 3 c
    (d, if d.frostState 3 c = 1 then .pending else .ok)

/-- CLUSTER_RESET. -/
def actClusterReset : Act := answering (fun d a v => d.clusterResetAsk (a.r.index - 0x5000) v)

/-! ### Pools (R293) -/

/-- Who a master that is no tenant asks as: requester 26, with the rights of SWC's access table now. -/
def Device.hostAsk (d : Device) (m p : Nat) : PoolAsk :=
  { master := m, may := fun r => d.mayNow islSWC 3 m p r, requester := 26 }

/-- The outcome of a POOL_OP of a master. -/
def Device.poolOutcome (d : Device) (m : Nat) (st : PoolStatus) (head record : Nat) : Device :=
  { d with svc := { d.svc with
      poolResult := d.svc.poolResult.set (fun _ => 0) m (st.code * 2 ^ 56 + head)
      poolQuery := d.svc.poolQuery.set (fun _ => 0) m record } }

/-- ALLOC_CHAIN to FREE by a master. -/
def Device.hostPool (d : Device) (m v : Nat) : Device :=
  let op := bits v 63 61
  let p := bits v 60 56
  let r := (d.poolReach p 26).poolOp (d.hostAsk m p) op p (if op = 1 then bits v 28 21 else bits v 20 0)
  r.1.poolOutcome m r.2.1 (if op = 1 ∧ r.2.1 = .ok then r.2.2 else 0) 0

/-- QUERY by a master: NOT_OWNER advances no counter and fires no event. -/
def Device.hostQuery (d : Device) (m v : Nat) : Device :=
  let p := bits v 60 56
  let h := bits v 20 0
  let d := (d.poolReach p 26).tallyPlain islSWC 7 1
  if !d.mayNow islSWC 3 m p rREAD then ((d.bump (Obj.poolDenied p)).deny 3 m p).poolOutcome m .denied 0 0
  else match d.swc.chains.find h with
    | some c => if c.pool = p then d.poolOutcome m .ok 0 (headRecord c) else d.poolOutcome m .notOwner 0 0
    | none => d.poolOutcome m .notOwner 0 0

/-- POOL_OP of ALLOC_CHAIN, INCREF, DECREF or FREE. -/
def actPool : Act := writingOk (fun d a v => d.hostPool a.master v)
/-- POOL_OP of QUERY. -/
def actPoolQuery : Act := writingOk (fun d a v => d.hostQuery a.master v)

/-- Whether the slice of the pool that the request in turn names can still take requester 26 in the present SWC cycle. -/
def Device.serviceTurn (d : Device) : Bool :=
  match d.chosen with
  | some w => d.poolOpen (bits w.ask.written 60 56) 26
  | none => true

/-- A POOL_OP of a master is served in the place of requester 26 in its slice's cycle; before a cycle has one, the request waits
(R290, R293). -/
def poolServe (r : Row) (act : Act) (s : State) : Host.Outcome State Fault Refusal :=
  if s.d.serviceTurn then serve r act s else .next s

/-- A pool operation of the table: of an engine, at the head of cluster `c`'s channel, or of a master by POOL_OP. -/
def poolCommand (r : Row) (op : Nat) (c : Option (Fin 16)) (s : State) : Host.Outcome State Fault Refusal :=
  match c with
  | some c => .next { s with d := s.d.enginePool c op }
  | none => poolServe r actPool s

/-! ### Traffic manager, host rings, Barometer, events -/

/-- QMAX_CLEAR. -/
def actQmax : Act := writingOk (fun d _ v => d.qmaxClear (v / 65536) (v % 65536))
/-- HOST_RING_ENABLE. -/
def actHostRing : Act := writingOk (fun d a v => d.hostRingSet (ringNumber a.r.index) v)
/-- RAIL_REPORT: one that is out of range counts in CAL_REJECTS. -/
def actRail : Act := answering (fun d a _ =>
  if d.railBad a.r.payload then (d.bump Obj.calRejects, .range) else (d.railReport a.r.payload, .ok))
/-- INT_ACK: a write of 0 changes nothing. -/
def actIntAck : Act := writingOk (fun d _ v => if v = 1 then d.ackInt else d)
/-- RING_ENABLE. -/
def actRingEnable : Act := writingOk (fun d a v => d.eventRingSet (a.r.index - 0xB010) v)
/-- TELEM_ENABLE. -/
def actTelem : Act := writingOk (fun d _ v => d.telemSet v)
/-- SRING_ENABLE. -/
def actSring : Act := writingOk (fun d _ v => d.sringSet v)

/-- A write of EXPORT_ENABLE: from 0 to 1 the sequence starts again, and the next multiple of the period is the first. -/
def Device.exportSet (d : Device) (v : Nat) : Device :=
  let start := v = 1 ∧ d.get Obj.exportEnable = 0
  let d := d.put Obj.exportEnable v
  if start then
    let d := d.put Obj.exportSequence 0
    { d with baro := { d.baro with exportAt := d.now / us (d.get Obj.exportPeriodUs) } }
  else d

/-- EXPORT_ENABLE. -/
def actExport : Act := writingOk (fun d _ v => d.exportSet v)
/-- LAST_GASP_ENABLE. -/
def actGasp : Act := writingOk (fun d a v => d.put a.key v)
/-- SNAPSHOT. -/
def actSnapshot : Act := writingOk (fun d a _ => d.snapBank (a.r.index - 0xB100))
/-- COUNTER_MARK: the log and LOG_OVERFLOW are cleared. -/
def actMark : Act := writingOk (fun d _ _ =>
  let d : Device := { d with ev := { d.ev with logged := [] } }
  d.put Obj.logOverflow 0)

/-! ### Security and device state -/

/-- An act of a security object that reads the fuses: a value outside its range is refused after the object's own
checks (R67). -/
def burning (go : Assoc Nat → Device → Ask → Nat → Device × Code) (bad : Assoc Nat → Device → Nat → Bool) : Act :=
  fun f d w =>
    let r := go f d w.ask w.ask.written
    coded (if bad f d w.ask.written ∧ (r.2 = .ok ∨ r.2 = .pending) then (d, .range) else r)

/-- OWNER_KEY_HASH. -/
def actOwnerKey : Act :=
  burning (fun f d a v => Device.writeOwnerKey f d a.master (a.r.index - 0xC010) v) (fun _ _ _ => false)
/-- OWNER_REVOKE: only 1 revokes. -/
def actOwnerRevoke : Act :=
  burning (fun f d a _ => Device.writeOwnerRevoke f d a.master (a.r.index - 0xC010)) (fun _ _ v => v != 1)
/-- ROLLBACK_ADVANCE: from ROLLBACK_COUNT to the running bundle's BUNDLE_SVN (R385). -/
def actRollback : Act :=
  burning (fun f d a v => Device.writeRollback f d a.master v)
    (fun f d v => decide (d.get Obj.bundleSvn < v) || decide (v < fuseRollback f))
/-- LIFECYCLE_ADVANCE. -/
def actLifecycle : Act :=
  burning (fun f d a v => Device.writeLifecycle f d a.master v) (fun _ _ _ => false)

/-- MR_EXTEND: MR10 to MR15 (R390). -/
def actMrExtend : Act := answering (fun d a _ =>
  let n := byteAt a.r.payload 0
  if 10 ≤ n ∧ n ≤ 15 then (d.mrExtend a.r.payload, .ok) else (d, .range))

/-- A quote request whose TENANT or bytes 34 to 39 are reserved (Table 14-13). -/
def quoteBad (b : Bytes) : Bool :=
  (decide (4096 ≤ beAt b 32 2) && beAt b 32 2 != 0xFFFF) || beAt b 34 6 != 0

/-- A reserved TENANT names no context: the checks on one are passed over. -/
def quoteForm (b : Bytes) : Bytes :=
  if 4096 ≤ beAt b 32 2 then slice b 0 32 ++ [0xFF, 0xFF] ++ slice b 34 6 else b

/-- QUOTE_REQUEST. -/
def actQuote : Act := answering (fun d a _ =>
  let r := d.askQuote a.master (quoteForm a.r.payload)
  if r.2 = .pending ∧ quoteBad a.r.payload then (d, .range) else r)

/-- WARM_RESET. -/
def actWarm : Act := answering (fun d a v => d.askWarm a.master v)
/-- STATE_REQUEST of any value. -/
def actState : Act := answering (fun d a v => d.stateRequest a.master v)

end Sys2Proof.Machine
end

