-- ==== Sys2Proof/Machine/Kaznu.lean ====
section
/-!
DEFINITION. The Kaznu commands (chapter 02): the rows the service serves requests by, the arrival of requests on a
management port (R74, R75) and in band (R76, R77, R459), neighbour queries, and the scrub of triplicated fields (R66).
-/
namespace Sys2Proof.Machine

/-! ### The rows of the service -/

/-- KAZNU_READ (R57). -/
def execKaznuRead (s : State) : Host.Outcome State Fault Refusal := serve .read actRead s
/-- KAZNU_WRITE (R48). -/
def execKaznuWrite (s : State) : Host.Outcome State Fault Refusal := serve .write actWrite s
/-- KAZNU_READ_BLOCK (R71). -/
def execKaznuReadBlock (s : State) : Host.Outcome State Fault Refusal := serve .readBlock actReadBlock s
/-- KAZNU_WRITE_BLOCK (R72). -/
def execKaznuWriteBlock (s : State) : Host.Outcome State Fault Refusal := serve .writeBlock actWriteBlock s
/-- KAZNU_COMMIT (R58). -/
def execKaznuCommit (s : State) : Host.Outcome State Fault Refusal := serve .commit actCommit s
/-- STATUS_SERVICE (R67). -/
def execStatusService (s : State) : Host.Outcome State Fault Refusal := serve .statusService actStatus s
/-- STATUS_DESCRIPTOR (R67). -/
def execStatusDescriptor (s : State) : Host.Outcome State Fault Refusal := serve .statusDescriptor actDescriptor s
/-- SESSION_OPEN (R75). -/
def execSessionOpen (s : State) : Host.Outcome State Fault Refusal := serve .sessionOpen actOpen s
/-- SESSION_CLOSE (R75). -/
def execSessionClose (s : State) : Host.Outcome State Fault Refusal := serve .sessionClose actClose s
/-- FROST_SOFT (R98). -/
def execFrostSoft (s : State) : Host.Outcome State Fault Refusal := serve .frostSoft actFrostSoft s
/-- FROST_HARD (R101). -/
def execFrostHard (s : State) : Host.Outcome State Fault Refusal := serve .frostHard actFrostHard s
/-- FROST_THAW (R98). -/
def execFrostThaw (s : State) : Host.Outcome State Fault Refusal := serve .frostThaw actFrostThaw s
/-- FROST_DISABLE (R98). -/
def execFrostDisable (s : State) : Host.Outcome State Fault Refusal := serve .frostDisable actFrostDisable s
/-- FROST_ENABLE (R98). -/
def execFrostEnable (s : State) : Host.Outcome State Fault Refusal := serve .frostEnable actFrostEnable s
/-- QUAD_MODE_WRITE (R107). -/
def execQuadModeWrite (s : State) : Host.Outcome State Fault Refusal := serve .quadMode actQuadMode s
/-- PORT_ENABLE (R115). -/
def execPortEnable (s : State) : Host.Outcome State Fault Refusal := serve .portEnable actPortEnable s
/-- PORT_RESET_RETRAIN (R129). -/
def execPortResetRetrain (s : State) : Host.Outcome State Fault Refusal := serve .portRetrain actRetrain s
/-- PORT_RESET_RESET (R129). -/
def execPortResetReset (s : State) : Host.Outcome State Fault Refusal := serve .portReset actPortReset s
/-- GROUP_ENABLE (R175). -/
def execGroupEnable (s : State) : Host.Outcome State Fault Refusal := serve .groupEnable actGroupEnable s
/-- EM_TABLE_ENABLE (R181). -/
def execEmTableEnable (s : State) : Host.Outcome State Fault Refusal := serve .emEnable actEmEnable s
/-- FIXED_SELECT (R176). -/
def execFixedSelect (s : State) : Host.Outcome State Fault Refusal := serve .fixedSelect actFixed s
/-- RELOAD (R231). -/
def execReload (s : State) : Host.Outcome State Fault Refusal := serve .reload actReload s
/-- CLUSTER_RESET (R232). -/
def execClusterReset (s : State) : Host.Outcome State Fault Refusal := serve .clusterReset actClusterReset s
/-- POOL_ALLOC_CHAIN (R291). -/
def execPoolAllocChain (c : Option (Fin 16)) (s : State) : Host.Outcome State Fault Refusal := poolCommand .poolAlloc 1 c s
/-- POOL_INCREF (R291). -/
def execPoolIncref (c : Option (Fin 16)) (s : State) : Host.Outcome State Fault Refusal := poolCommand .poolIncref 2 c s
/-- POOL_DECREF (R291). -/
def execPoolDecref (c : Option (Fin 16)) (s : State) : Host.Outcome State Fault Refusal := poolCommand .poolDecref 3 c s
/-- POOL_FREE (R291). -/
def execPoolFree (c : Option (Fin 16)) (s : State) : Host.Outcome State Fault Refusal := poolCommand .poolFree 4 c s
/-- POOL_QUERY (R293). -/
def execPoolQuery (s : State) : Host.Outcome State Fault Refusal := poolServe .poolQuery actPoolQuery s
/-- QMAX_CLEAR (R327). -/
def execQmaxClear (s : State) : Host.Outcome State Fault Refusal := serve .qmaxClear actQmax s
/-- HOST_RING_ENABLE (R401). -/
def execHostRingEnable (s : State) : Host.Outcome State Fault Refusal := serve .hostRing actHostRing s
/-- RAIL_REPORT (R340). -/
def execRailReport (s : State) : Host.Outcome State Fault Refusal := serve .railReport actRail s
/-- INT_ACK (R365). -/
def execIntAck (s : State) : Host.Outcome State Fault Refusal := serve .intAck actIntAck s
/-- RING_ENABLE (R362). -/
def execRingEnable (s : State) : Host.Outcome State Fault Refusal := serve .ringEnable actRingEnable s
/-- TELEM_ENABLE (R331). -/
def execTelemEnable (s : State) : Host.Outcome State Fault Refusal := serve .telemEnable actTelem s
/-- SRING_ENABLE (R376). -/
def execSringEnable (s : State) : Host.Outcome State Fault Refusal := serve .sringEnable actSring s
/-- EXPORT_ENABLE (R344). -/
def execExportEnable (s : State) : Host.Outcome State Fault Refusal := serve .exportEnable actExport s
/-- LAST_GASP_ENABLE (R410). -/
def execLastGaspEnable (s : State) : Host.Outcome State Fault Refusal := serve .lastGaspEnable actGasp s
/-- OVERFLOW_READ (R369). -/
def execOverflowRead (s : State) : Host.Outcome State Fault Refusal := serve .overflowRead actOverflow s
/-- SNAPSHOT (R370). -/
def execSnapshot (s : State) : Host.Outcome State Fault Refusal := serve .snapshot actSnapshot s
/-- COUNTER_MARK (R430). -/
def execCounterMark (s : State) : Host.Outcome State Fault Refusal := serve .counterMark actMark s
/-- OWNER_KEY_HASH (R384). -/
def execOwnerKeyHash (s : State) : Host.Outcome State Fault Refusal := serve .ownerKeyHash actOwnerKey s
/-- OWNER_REVOKE (R384). -/
def execOwnerRevoke (s : State) : Host.Outcome State Fault Refusal := serve .ownerRevoke actOwnerRevoke s
/-- ROLLBACK_ADVANCE (R385). -/
def execRollbackAdvance (s : State) : Host.Outcome State Fault Refusal := serve .rollbackAdvance actRollback s
/-- LIFECYCLE_ADVANCE (R383). -/
def execLifecycleAdvance (s : State) : Host.Outcome State Fault Refusal := serve .lifecycleAdvance actLifecycle s
/-- MR_EXTEND (R390). -/
def execMrExtend (s : State) : Host.Outcome State Fault Refusal := serve .mrExtend actMrExtend s
/-- QUOTE_REQUEST (R392). -/
def execQuoteRequest (s : State) : Host.Outcome State Fault Refusal := serve .quoteRequest actQuote s
/-- WARM_RESET (R421). -/
def execWarmReset (s : State) : Host.Outcome State Fault Refusal := serve .warmReset actWarm s
/-- STATE_REQUEST_INIT (R419). -/
def execStateRequestInit (s : State) : Host.Outcome State Fault Refusal := serve .stateInit actState s
/-- STATE_REQUEST_SERVICE (R419). -/
def execStateRequestService (s : State) : Host.Outcome State Fault Refusal := serve .stateService actState s
/-- STATE_REQUEST_TEST (R419). -/
def execStateRequestTest (s : State) : Host.Outcome State Fault Refusal := serve .stateTest actState s
/-- STATE_REQUEST_HALT (R419). -/
def execStateRequestHalt (s : State) : Host.Outcome State Fault Refusal := serve .stateHalt actState s

/-! ### Management ports (R74, R75) -/

/-- Whether the device's network side answers at all (R68, R437). -/
def Device.netRuns (d : Device) : Bool :=
  d.devState != stRESET && d.devState != stBOOT && d.devState != stHALT && !d.sys.restarting

/-- The header-only AUTH response and its trailer of zeros (R74). -/
def authResponse : Bytes := [byte 1, byte 0x80, byte 0, byte 8] ++ zeros 28

/-- A datagram whose trailer fails: counted, event 13, and one AUTH response per port and millisecond. -/
def Device.authFail (d : Device) (p source : Nat) : Device :=
  let d := (d.bump Obj.svcAuthFailCount).fireOf islMGT 13 p p 0
  let may := match d.svc.authAt.find p with
    | some t => decide (t + oneMs ≤ d.now)
    | none => true
  if may then
    Device.emit { d with svc := { d.svc with authAt := d.svc.authAt.put p d.now } } (.kaznu p source authResponse)
  else d

/-- The session a datagram names, when it is OPEN and the trailer verifies (R75).  The spec does not say what becomes of a
datagram that names a session above 15 or one that is not OPEN, whatever key it holds, or that is shorter than a header and a
trailer: the model takes its trailer to fail (DESIGN CHOICE, log entry 21). -/
def Device.verified (d : Device) (b : Bytes) : Option Nat :=
  let n := byteAt b 2
  if b.length < 32 ∨ 15 < n then none
  else if d.get (Obj.sessionState n) ≠ 1 then none
  else match (d.session n).key with
    | some k => if (hmac k (b.take (b.length - 16))).take 16 = b.drop (b.length - 16) then some n else none
    | none => none

/-- Whether a request of a session waits. -/
def Device.sessionWaits (d : Device) (n : Nat) : Bool := d.svc.waiting.any (fun w => w.src.isSession n && !w.discard)

/-- A request with a valid trailer, by its SEQUENCE (R75). -/
def Device.sequenced (d : Device) (n p source : Nat) (b : Bytes) : Device :=
  let s := beAt b 4 4
  let l := d.get (Obj.sessionLastSequence n)
  let x := d.session n
  if s = l + 1 then
    if d.sessionWaits n then d
    else { d with svc := { d.svc with waiting := d.svc.waiting ++ [{ src := .session n p source, msg := b }] } }
  else if s = l ∧ l ≠ 0 ∧ x.executing = some s then d
  else match x.kept with
    | some m => if s = l ∧ l ≠ 0 then d.emit (.kaznu p source m)
                else (d.bump Obj.svcSequenceRejectCount).fireOf islMGT 14 n n 0
    | none => (d.bump Obj.svcSequenceRejectCount).fireOf islMGT 14 n n 0

/-- A datagram to the port's UDP port. -/
def Device.datagram (d : Device) (p source : Nat) (b : Bytes) : Device :=
  if !d.netRuns ∨ d.get (Obj.mportMode p) = 0 ∨ d.get (Obj.mportUdpPort p) = 0 then d
  else match d.verified b with
    | some n => d.sequenced n p source b
    | none => d.authFail p source

/-- MGMT_DATAGRAM (R75): `source` is the sender's address and port. -/
def execMgmtDatagram (mport : Fin 2) (source : Nat) (datagram : Bytes) (s : State) : Host.Outcome State Fault Refusal :=
  .next { s with d := s.d.datagram mport source datagram }

/-- The address a query asks for is one the port has. -/
def Device.hasAddress (d : Device) (p : Nat) (ipv6 : Bool) (target : Nat) : Bool :=
  let a := d.get (if ipv6 then Obj.mportIpv6 p else Obj.mportIpv4 p)
  a != 0 && a == target

/-- ARP_NEIGHBOUR_SOLICITATION: a query for the port's address is answered with its MAC. -/
def execArpNeighbourSolicitation (mport : Fin 2) (ipv6 : Bool) (target source : Nat) (s : State) :
    Host.Outcome State Fault Refusal :=
  let d := s.d
  if d.devState ≠ stRESET ∧ d.get (Obj.mportMode mport) ≠ 0 ∧ d.hasAddress mport ipv6 target then
    .next { s with d := d.emit (.neighbour mport source target (d.get (Obj.mportMac mport))) }
  else .next s

/-! ### In band (R76, R77, R459) -/

/-- One request in the bucket's unit. -/
def oneRequest : Nat := 1000000000

/-- The in-band bucket now. -/
def Device.bucketNow (d : Device) : Nat :=
  min fullBucket (d.svc.bucket + (d.now - d.svc.bucketAt) * d.active Obj.inbandRate)

/-- Whether a tenant's request is in the service. -/
def Device.inbandWaits (d : Device) (t : Nat) : Bool :=
  let mine := fun (w : Waiting) => match w.src with
    | .inband u _ _ _ => u == t
    | _ => false
  d.svc.waiting.any mine || d.svc.committing.any mine

/-- The length of what stands before the Kaznu header: the addresses, the S-tag or STH, and the EtherType. -/
def inbandHead (t : Tag) : Nat :=
  match t with
  | .none => 14 | .stag => 18 | .sth => 22

/-- An in-band request frame that port 131 has handed over. -/
def Device.inbandTake (d : Device) (f : Frame) (b : Bytes) : Device :=
  let t := f.tenant
  if d.frostState 1 t ≠ 0 then d.frostDrop t
  else if !d.netRuns then d
  else
    let have_ := d.bucketNow
    if d.inbandWaits t ∨ have_ < oneRequest then
      Device.bump { d with svc := { d.svc with bucket := have_, bucketAt := d.now } } Obj.svcInbandDiscardCount
    else
      let n := inbandHead f.tag
      let w : Waiting := { src := .inband t f.origin f.cls (b.take n), msg := b.drop n }
      { d with svc := { d.svc with waiting := d.svc.waiting ++ [w], bucket := have_ - oneRequest, bucketAt := d.now } }

/-- INBAND_REQUEST (R76): the first frame chosen at port 131. -/
def execInbandRequest (s : State) : Host.Outcome State Fault Refusal :=
  match (s.d.port 131).tx with
  | [] => .next s
  | i :: _ =>
    let c := s.d.copyRec i
    .next { s with d := (s.d.consumeCopy i).inbandTake (s.d.frame c.frame) (c.out.getD []) }

/-! ### Triplicated fields (R66) -/

/-- Whether an ID names a field of Table 2-6. -/
def fieldExists (u : Nat) : Bool :=
  let n := u % 2 ^ 24
  match u / 2 ^ 24 with
  | 1 => decide (n < 512)
  | 2 => decide (n < 65536)
  | 3 => n == 0
  | 4 => n == 0
  | 5 => decide (n < 16)
  | 6 => decide (n < 128)
  | 7 => decide (n < 25)
  | 8 => decide (n < 256)
  | _ => false

/-- The outcome of an unresolved field that is an action; the others follow from the list of unresolved fields.  A link that an
unresolved port-enable field takes OFF fires DOWN and leaves LINK_DOWNS, and stays OFF until a write of ENABLE, a quad change or a
Frost ENABLE starts it, though its ENABLE still reads 1 (DESIGN CHOICE, log entry 56). -/
def Device.fieldOutcome (d : Device) (u : Nat) : Device :=
  let n := u % 2 ^ 24
  match u / 2 ^ 24 with
  | 2 => d.frostByUpset 4 n
  | 6 => (d.frostByUpset 2 n).leaveTo n lkOFF
  | _ => d

/-- One upset that the vote meets: corrected from the two copies that agree, or unresolved. -/
def Device.upset (d : Device) (x : Upset) : Device :=
  if !fieldExists x.field then d
  else
    let d := d.put Obj.tmrLastField x.field
    if x.resolved then (d.bump Obj.tmrCorrectedCount).fire islMGT 930 x.field
    else
      let d := (d.bump Obj.tmrUnresolvedCount).fire islMGT 931 x.field
      let l := if d.svc.unresolved.contains x.field then d.svc.unresolved else d.svc.unresolved ++ [x.field]
      Device.fieldOutcome { d with svc := { d.svc with unresolved := l } } x.field

/-- TMR_SCRUB (R66): a pass over every triplicated field, with the upsets it meets. -/
def execTmrScrub (upsets : List Upset) (s : State) : Host.Outcome State Fault Refusal :=
  if s.d.devState = stRESET then .next s else .next { s with d := (upsets.foldl Device.upset s.d).recheck }

end Sys2Proof.Machine
end

