-- ==== Sys2Proof/Machine/Dispatch.lean ====
section
/-!
DEFINITION. The dispatch: one arm per command, each one direct call of its meaning.
-/
namespace Sys2Proof.Machine

/-- The effect of a command on everything but the queue of commands. -/
def exec (i : Instr) (s : State) : Host.Outcome State Fault Refusal :=
  match i with
  | .kaznuRead => Sys2Proof.Machine.execKaznuRead s
  | .kaznuWrite => Sys2Proof.Machine.execKaznuWrite s
  | .kaznuReadBlock => Sys2Proof.Machine.execKaznuReadBlock s
  | .kaznuWriteBlock => Sys2Proof.Machine.execKaznuWriteBlock s
  | .kaznuCommit => Sys2Proof.Machine.execKaznuCommit s
  | .statusService => Sys2Proof.Machine.execStatusService s
  | .statusDescriptor => Sys2Proof.Machine.execStatusDescriptor s
  | .mailboxGo fn offset data => Sys2Proof.Machine.execMailboxGo fn offset data s
  | .mgmtDatagram mport source datagram => Sys2Proof.Machine.execMgmtDatagram mport source datagram s
  | .sessionOpen => Sys2Proof.Machine.execSessionOpen s
  | .sessionClose => Sys2Proof.Machine.execSessionClose s
  | .inbandRequest => Sys2Proof.Machine.execInbandRequest s
  | .tmrScrub upsets => Sys2Proof.Machine.execTmrScrub upsets s
  | .frostSoft => Sys2Proof.Machine.execFrostSoft s
  | .frostHard => Sys2Proof.Machine.execFrostHard s
  | .frostThaw => Sys2Proof.Machine.execFrostThaw s
  | .frostDisable => Sys2Proof.Machine.execFrostDisable s
  | .frostEnable => Sys2Proof.Machine.execFrostEnable s
  | .frostDeadline fn => Sys2Proof.Machine.execFrostDeadline fn s
  | .frostComplete fn => Sys2Proof.Machine.execFrostComplete fn s
  | .quadModeWrite => Sys2Proof.Machine.execQuadModeWrite s
  | .portEnable => Sys2Proof.Machine.execPortEnable s
  | .portResetRetrain => Sys2Proof.Machine.execPortResetRetrain s
  | .portResetReset => Sys2Proof.Machine.execPortResetReset s
  | .trainingComplete p => Sys2Proof.Machine.execTrainingComplete p s
  | .trainingTimeout p => Sys2Proof.Machine.execTrainingTimeout p s
  | .alignmentLock p => Sys2Proof.Machine.execAlignmentLock p s
  | .alignmentTimeout p => Sys2Proof.Machine.execAlignmentTimeout p s
  | .linkDown p lostLanes => Sys2Proof.Machine.execLinkDown p lostLanes s
  | .lullWindowExpiry p => Sys2Proof.Machine.execLullWindowExpiry p s
  | .macReceive p bytes fec uncorrectable => Sys2Proof.Machine.execMacReceive p bytes fec uncorrectable s
  | .macTransmitEnd p => Sys2Proof.Machine.execMacTransmitEnd p s
  | .ingressMerge take => Sys2Proof.Machine.execIngressMerge take s
  | .parseComplete pg => Sys2Proof.Machine.execParseComplete pg s
  | .graphScrub pg copy node found => Sys2Proof.Machine.execGraphScrub pg copy node found s
  | .tcamLookup c met => Sys2Proof.Machine.execTcamLookup c met s
  | .emLookup c hbm => Sys2Proof.Machine.execEmLookup c hbm s
  | .lpmLookup c hbm => Sys2Proof.Machine.execLpmLookup c hbm s
  | .groupEnable => Sys2Proof.Machine.execGroupEnable s
  | .groupFillDone c g => Sys2Proof.Machine.execGroupFillDone c g s
  | .emTableEnable => Sys2Proof.Machine.execEmTableEnable s
  | .emClearDone t => Sys2Proof.Machine.execEmClearDone t s
  | .tableBatchDone lpm => Sys2Proof.Machine.execTableBatchDone lpm s
  | .fixedSelect => Sys2Proof.Machine.execFixedSelect s
  | .cascadeSelftestDone links => Sys2Proof.Machine.execCascadeSelftestDone links s
  | .tcamScrub c upsets => Sys2Proof.Machine.execTcamScrub c upsets s
  | .hbmScrubLine found => Sys2Proof.Machine.execHbmScrubLine found s
  | .hbmStackFailed stack => Sys2Proof.Machine.execHbmStackFailed stack s
  | .dispatch pg => Sys2Proof.Machine.execDispatch pg s
  | .creditReturn pg c => Sys2Proof.Machine.execCreditReturn pg c s
  | .microwordIssue c slot => Sys2Proof.Machine.execMicrowordIssue c slot s
  | .lookupResultArrival c e t => Sys2Proof.Machine.execLookupResultArrival c e t s
  | .verdictArrival c e t => Sys2Proof.Machine.execVerdictArrival c e t s
  | .poolResultArrival c e t => Sys2Proof.Machine.execPoolResultArrival c e t s
  | .resultAccepted c e t => Sys2Proof.Machine.execResultAccepted c e t s
  | .smallStoreMicroword store cond => Sys2Proof.Machine.execSmallStoreMicroword store cond s
  | .reload => Sys2Proof.Machine.execReload s
  | .clusterReset => Sys2Proof.Machine.execClusterReset s
  | .reloadStoresWritten c hashOk => Sys2Proof.Machine.execReloadStoresWritten c hashOk s
  | .reloadSelftestDone c pass => Sys2Proof.Machine.execReloadSelftestDone c pass s
  | .storeScrub c nano addr found => Sys2Proof.Machine.execStoreScrub c nano addr found s
  | .frontFlip => Sys2Proof.Machine.execFrontFlip s
  | .frontArrival isl => Sys2Proof.Machine.execFrontArrival isl s
  | .frontDistributed => Sys2Proof.Machine.execFrontDistributed s
  | .frontStamped => Sys2Proof.Machine.execFrontStamped s
  | .frontStall => Sys2Proof.Machine.execFrontStall s
  | .frontExpired => Sys2Proof.Machine.execFrontExpired s
  | .censusZero => Sys2Proof.Machine.execCensusZero s
  | .frontDrained => Sys2Proof.Machine.execFrontDrained s
  | .ingressDecrypt pg => Sys2Proof.Machine.execIngressDecrypt pg s
  | .egressEncrypt p => Sys2Proof.Machine.execEgressEncrypt p s
  | .jobDescriptorTake r found => Sys2Proof.Machine.execJobDescriptorTake r found s
  | .sectorFrameHandoff => Sys2Proof.Machine.execSectorFrameHandoff s
  | .jobStart => Sys2Proof.Machine.execJobStart s
  | .jobComplete e read failedAt => Sys2Proof.Machine.execJobComplete e read failedAt s
  | .keyDeliver => Sys2Proof.Machine.execKeyDeliver s
  | .reorderResult pg => Sys2Proof.Machine.execReorderResult pg s
  | .reorderTimeout dom => Sys2Proof.Machine.execReorderTimeout dom s
  | .admission pg => Sys2Proof.Machine.execAdmission pg s
  | .poolAllocChain c => Sys2Proof.Machine.execPoolAllocChain c s
  | .poolIncref c => Sys2Proof.Machine.execPoolIncref c s
  | .poolDecref c => Sys2Proof.Machine.execPoolDecref c s
  | .poolFree c => Sys2Proof.Machine.execPoolFree c s
  | .poolQuery => Sys2Proof.Machine.execPoolQuery s
  | .counterSideEffect c => Sys2Proof.Machine.execCounterSideEffect c s
  | .copyReady copy => Sys2Proof.Machine.execCopyReady copy s
  | .skipMarker p => Sys2Proof.Machine.execSkipMarker p s
  | .reseqTimeout p pg cls => Sys2Proof.Machine.execReseqTimeout p pg cls s
  | .schedulerChoice p cell => Sys2Proof.Machine.execSchedulerChoice p cell s
  | .shaperEligible node => Sys2Proof.Machine.execShaperEligible node s
  | .qmaxClear => Sys2Proof.Machine.execQmaxClear s
  | .sampleRoundStart => Sys2Proof.Machine.execSampleRoundStart s
  | .slowpathRingWrite desc => Sys2Proof.Machine.execSlowpathRingWrite desc s
  | .injectDescriptorTake r desc frame => Sys2Proof.Machine.execInjectDescriptorTake r desc frame s
  | .rxDoorbell fn r write => Sys2Proof.Machine.execRxDoorbell fn r write s
  | .injectDoorbell fn r write => Sys2Proof.Machine.execInjectDoorbell fn r write s
  | .jobDoorbell fn r write => Sys2Proof.Machine.execJobDoorbell fn r write s
  | .completionDoorbell fn r write => Sys2Proof.Machine.execCompletionDoorbell fn r write s
  | .hostRingEnable => Sys2Proof.Machine.execHostRingEnable s
  | .ringDmaError g => Sys2Proof.Machine.execRingDmaError g s
  | .islandTickReport isl => Sys2Proof.Machine.execIslandTickReport isl s
  | .tickClose => Sys2Proof.Machine.execTickClose s
  | .clockChangeDeferred isl => Sys2Proof.Machine.execClockChangeDeferred isl s
  | .railReport => Sys2Proof.Machine.execRailReport s
  | .ledgerExport written => Sys2Proof.Machine.execLedgerExport written s
  | .eventOccurrence isl => Sys2Proof.Machine.execEventOccurrence isl s
  | .eventRecordWrite => Sys2Proof.Machine.execEventRecordWrite s
  | .msixModerationExpiry fn vector => Sys2Proof.Machine.execMsixModerationExpiry fn vector s
  | .intAck => Sys2Proof.Machine.execIntAck s
  | .ringEnable => Sys2Proof.Machine.execRingEnable s
  | .eventHeadWrite fn write => Sys2Proof.Machine.execEventHeadWrite fn write s
  | .telemEnable => Sys2Proof.Machine.execTelemEnable s
  | .sringEnable => Sys2Proof.Machine.execSringEnable s
  | .exportEnable => Sys2Proof.Machine.execExportEnable s
  | .lastGaspEnable => Sys2Proof.Machine.execLastGaspEnable s
  | .counterWrap bank counter => Sys2Proof.Machine.execCounterWrap bank counter s
  | .overflowRead => Sys2Proof.Machine.execOverflowRead s
  | .snapshot => Sys2Proof.Machine.execSnapshot s
  | .sampleDrain c => Sys2Proof.Machine.execSampleDrain c s
  | .counterMark => Sys2Proof.Machine.execCounterMark s
  | .bundleVerified => Sys2Proof.Machine.execBundleVerified s
  | .hbmTrainingDone failed => Sys2Proof.Machine.execHbmTrainingDone failed s
  | .serdesCalibrationDone => Sys2Proof.Machine.execSerdesCalibrationDone s
  | .bootLoadingDone failed => Sys2Proof.Machine.execBootLoadingDone failed s
  | .ownerKeyHash => Sys2Proof.Machine.execOwnerKeyHash s
  | .ownerRevoke => Sys2Proof.Machine.execOwnerRevoke s
  | .rollbackAdvance => Sys2Proof.Machine.execRollbackAdvance s
  | .lifecycleAdvance => Sys2Proof.Machine.execLifecycleAdvance s
  | .fuseRowBurnDone readback => Sys2Proof.Machine.execFuseRowBurnDone readback s
  | .mrExtend => Sys2Proof.Machine.execMrExtend s
  | .quoteRequest => Sys2Proof.Machine.execQuoteRequest s
  | .quoteDone master => Sys2Proof.Machine.execQuoteDone master s
  | .flr fn => Sys2Proof.Machine.execFlr fn s
  | .pcieLinkChange rate width => Sys2Proof.Machine.execPcieLinkChange rate width s
  | .porNLow => Sys2Proof.Machine.execPorNLow s
  | .porNRise testMode smbAddr => Sys2Proof.Machine.execPorNRise testMode smbAddr s
  | .warmRstN => Sys2Proof.Machine.execWarmRstN s
  | .warmReset => Sys2Proof.Machine.execWarmReset s
  | .warmResetEntry => Sys2Proof.Machine.execWarmResetEntry s
  | .perstN => Sys2Proof.Machine.execPerstN s
  | .pfailAsserted => Sys2Proof.Machine.execPfailAsserted s
  | .pfailGlitch => Sys2Proof.Machine.execPfailGlitch s
  | .thermtrip isl => Sys2Proof.Machine.execThermtrip isl s
  | .stateRequestInit => Sys2Proof.Machine.execStateRequestInit s
  | .stateRequestService => Sys2Proof.Machine.execStateRequestService s
  | .stateRequestTest => Sys2Proof.Machine.execStateRequestTest s
  | .stateRequestHalt => Sys2Proof.Machine.execStateRequestHalt s
  | .sensorRead milliC => Sys2Proof.Machine.execSensorRead milliC s
  | .thermalThrottle => Sys2Proof.Machine.execThermalThrottle s
  | .vcoreLow => Sys2Proof.Machine.execVcoreLow s
  | .mgtCoreRestart => Sys2Proof.Machine.execMgtCoreRestart s
  | .mgtRestartDone => Sys2Proof.Machine.execMgtRestartDone s
  | .ppsInEdge => Sys2Proof.Machine.execPpsInEdge s
  | .ppsOutPulse => Sys2Proof.Machine.execPpsOutPulse s
  | .smbusDeviceState => Sys2Proof.Machine.execSmbusDeviceState s
  | .smbusRecoveryCause => Sys2Proof.Machine.execSmbusRecoveryCause s
  | .smbusThermalK => Sys2Proof.Machine.execSmbusThermalK s
  | .smbusTempMax => Sys2Proof.Machine.execSmbusTempMax s
  | .smbusFlags => Sys2Proof.Machine.execSmbusFlags s
  | .smbusVcoreRequired => Sys2Proof.Machine.execSmbusVcoreRequired s
  | .smbusDevicePower => Sys2Proof.Machine.execSmbusDevicePower s
  | .smbusIslandTemp call => Sys2Proof.Machine.execSmbusIslandTemp call s
  | .jtagBypass tdi => Sys2Proof.Machine.execJtagBypass tdi s
  | .jtagIdcode => Sys2Proof.Machine.execJtagIdcode s
  | .jtagSamplePreload scanIn => Sys2Proof.Machine.execJtagSamplePreload scanIn s
  | .jtagExtest scanIn => Sys2Proof.Machine.execJtagExtest scanIn s
  | .jtagExtestPulse scanIn => Sys2Proof.Machine.execJtagExtestPulse scanIn s
  | .jtagExtestTrain scanIn => Sys2Proof.Machine.execJtagExtestTrain scanIn s
  | .arpNeighbourSolicitation mport ipv6 target source => Sys2Proof.Machine.execArpNeighbourSolicitation mport ipv6 target source s
  | .sideEffectAccepted c e t => Sys2Proof.Machine.execSideEffectAccepted c e t s
  | .firstEntryToL0 rate width => Sys2Proof.Machine.execFirstEntryToL0 rate width s
  | .vfEnable numVfs enable => Sys2Proof.Machine.execVfEnable numVfs enable s
  | .busMasterEnable fn control => Sys2Proof.Machine.execBusMasterEnable fn control s
  | .msixVectorUnmask fn vector => Sys2Proof.Machine.execMsixVectorUnmask fn vector s
  | .updateLoadingDone => Sys2Proof.Machine.execUpdateLoadingDone s
  | .supplyStableRise => Sys2Proof.Machine.execSupplyStableRise s
  | .supplyStableFall => Sys2Proof.Machine.execSupplyStableFall s
  | .vcoreLowCleared => Sys2Proof.Machine.execVcoreLowCleared s
  | .warmRstNRise => Sys2Proof.Machine.execWarmRstNRise s
  | .jtagDebug tdi => Sys2Proof.Machine.execJtagDebug tdi s
  | .trstNLow => Sys2Proof.Machine.execTrstNLow s

end Sys2Proof.Machine
end

