-- ==== Sys2Proof/Machine/Waits.lean ====
section
/-!
DEFINITION. What happens as time passes with no command: the counters that advance in each cycle of a wait (R171, R285,
Table 13-5), the ticks that islands close (R338), the walk of a sampling round (R328), and the tick of the block on an empty
queue.
-/
namespace Sys2Proof.Machine

/-- The cycles of an island that have passed since an earlier state. -/
def Device.cyclesSince (d old : Device) (isl : Nat) : Nat :=
  d.sys.cycles.getD (fun _ => 0) isl - old.sys.cycles.getD (fun _ => 0) isl

/-- Whether the frame at a port group's dispatch input waits for landing room (R285). -/
def Device.landingWait (d : Device) (pg : Nat) : Bool :=
  match (d.pgs pg).keyq with
  | i :: _ => (d.frame i).stage != .decrypt && !d.roomToLand i
  | [] => false

/-- Whether that frame waits for a thread credit (R200). -/
def Device.creditWait (d : Device) (pg : Nat) : Bool :=
  match (d.pgs pg).keyq with
  | i :: _ =>
    let f := d.frame i
    let cs := d.considered pg f
    f.stage != .decrypt && f.walked && f.reason == 0 && !cs.isEmpty && cs.all (fun c => d.credits pg c == 0)
  | [] => false

/-- The waits of a port group over `swc` SWC cycles and `pgc` of its own. -/
def Device.countPgWaits (d : Device) (pg swc pgc : Nat) : Device :=
  let d := if d.creditWait pg then d.tallyPlain (islPG pg) 4 pgc else d
  if d.landingWait pg then (d.bumpBy (Obj.landingWaits pg) swc).tallyPlain (islPG pg) 5 pgc else d

/-- The full queue of a complex over `n` SRH cycles. -/
def Device.countBacklog (d : Device) (c n : Nat) : Device :=
  if 1024 ≤ (d.complexQueue c).length then (d.bumpBy (Obj.cxBacklogStalls c) n).tallyPlain islSRH 5 n else d

/-- `n` nanoseconds pass, with the waits they hold, the boundaries the islands meet and the queues a round walks. -/
def Device.pass (d : Device) (n : Nat) : Device :=
  let old := d
  let d := d.closeSlices.elapse n
  let d := d.passSlices (old.cycleOf islSWC) (d.cyclesSince old islSWC)
  let d := (List.range 4).foldl (fun d g => d.countPgWaits g (d.cyclesSince old islSWC) (d.cyclesSince old (islPG g))) d
  let d := (List.range 4).foldl (fun d c => d.countBacklog c (d.cyclesSince old islSRH)) d
  ((List.range 25).foldl (fun d i => d.closeTicks i (old.timeAt i)) d).runRound n

/-- What the block does on an empty queue: one nanosecond passes (DESIGN CHOICE, log entry 5). -/
def tick (s : State) : State := { s with d := s.d.pass 1 }

end Sys2Proof.Machine
end

