-- ==== Sys2Proof/WellFormed.lean ====
section
/-!
DEFINITION. Well-formed commands: the operands that a command of the table can carry.
-/
namespace Sys2Proof

/-- The field IDs of Table 2-6. -/
def fieldNamed (u : Nat) : Bool :=
  let n := u % 2 ^ 24
  match u / 2 ^ 24 with
  | 1 => decide (n < 512)
  | 2 => decide (n < 65536)
  | 3 => n == 0
  | 4 => n == 0
  | 5 => decide (n < 16)
  | 6 => decide (n < 128)
  | 7 => decide (n < 25)
  | 8 => decide (n < 256)
  | _ => false

/-- The functions of Table 3-8 that Frost takes (R99). -/
def FnId.wf (f : FnId) : Bool :=
  match f.cls with
  | 1 => decide (1 ≤ f.inst) && decide (f.inst < 4096)
  | 2 => decide (f.inst < 128)
  | 3 => decide (f.inst < 16)
  | 4 => decide (f.inst < 65536)
  | 5 => decide (1 ≤ f.inst) && decide (f.inst < 32)
  | 6 => decide (f.inst < 32)
  | _ => false

/-- The scheduler nodes: 132 ports, 4,096 groups, 16,384 tenant nodes, 65,536 queues (Table 11-4). -/
def NodeId.wf (n : NodeId) : Bool :=
  match n with
  | .port p => decide (p < 132)
  | .group g => decide (g < 4096)
  | .tenantNode t => decide (t < 16384)
  | .queue q => decide (q < 65536)

/-- What a DMA read of `n` bytes answers: an error, or `n` bytes. -/
def wfRead (b : Option Bytes) (n : Nat) : Bool :=
  match b with
  | some x => decide (x.length = n)
  | none => true

/-- The sizes of a host access, in bytes. -/
def accessSize (n : Nat) : Bool := n == 1 || n == 2 || n == 4 || n == 8

/-- A host's write carries as many bits as its access. -/
def HostWrite.wf (w : HostWrite) : Bool := accessSize w.size && decide (w.value < 2 ^ (8 * w.size))

/-- The most bytes that the source of a job holds: 128 units of 8 KiB and their tags (R268). -/
def sourceMax : Nat := 128 * 8192 + 2048

/-- Whether a command carries operands that its row admits. -/
def Instr.wf (i : Instr) : Bool :=
  match i with
  | .kaznuRead => true
  | .kaznuWrite => true
  | .kaznuReadBlock => true
  | .kaznuWriteBlock => true
  | .kaznuCommit => true
  | .statusService => true
  | .statusDescriptor => true
  | .mailboxGo _ off data => decide (off + data.length ≤ 0x4000)
  | .mgmtDatagram _ source datagram => decide (source < 2 ^ 144) && decide (datagram.length ≤ 65507)
  | .sessionOpen => true
  | .sessionClose => true
  | .inbandRequest => true
  | .tmrScrub upsets => upsets.all (fun u => fieldNamed u.field)
  | .frostSoft => true
  | .frostHard => true
  | .frostThaw => true
  | .frostDisable => true
  | .frostEnable => true
  | .frostDeadline fn => FnId.wf fn
  | .frostComplete fn => FnId.wf fn
  | .quadModeWrite => true
  | .portEnable => true
  | .portResetRetrain => true
  | .portResetReset => true
  | .trainingComplete _ => true
  | .trainingTimeout _ => true
  | .alignmentLock _ => true
  | .alignmentTimeout _ => true
  | .linkDown _ lostLanes => decide (lostLanes < 16)
  | .lullWindowExpiry _ => true
  | .macReceive _ bytes fec n =>
    decide (1 ≤ bytes.length) && decide (fec.clean < 2 ^ 32) && decide (fec.corrected < 2 ^ 32) && decide (n < 2 ^ 32)
  | .macTransmitEnd _ => true
  | .ingressMerge _ => true
  | .parseComplete _ => true
  | .graphScrub _ _ _ _ => true
  | .tcamLookup _ _ => true
  | .emLookup _ _ => true
  | .lpmLookup _ _ => true
  | .groupEnable => true
  | .groupFillDone _ _ => true
  | .emTableEnable => true
  | .emClearDone _ => true
  | .tableBatchDone _ => true
  | .fixedSelect => true
  | .cascadeSelftestDone links => decide (links.length = 4) && links.all (fun x => decide (x.failedTiles < 2 ^ 64))
  | .tcamScrub _ _ => true
  | .hbmScrubLine _ => true
  | .hbmStackFailed _ => true
  | .dispatch _ => true
  | .creditReturn _ _ => true
  | .microwordIssue _ _ => true
  | .lookupResultArrival _ _ _ => true
  | .verdictArrival _ _ _ => true
  | .poolResultArrival _ _ _ => true
  | .resultAccepted _ _ _ => true
  | .smallStoreMicroword _ _ => true
  | .reload => true
  | .clusterReset => true
  | .reloadStoresWritten _ _ => true
  | .reloadSelftestDone _ _ => true
  | .storeScrub _ _ _ _ => true
  | .frontFlip => true
  | .frontArrival _ => true
  | .frontDistributed => true
  | .frontStamped => true
  | .frontStall => true
  | .frontExpired => true
  | .censusZero => true
  | .frontDrained => true
  | .ingressDecrypt _ => true
  | .egressEncrypt _ => true
  | .jobDescriptorTake _ found => wfRead (found.map (·.desc)) 32 && found.all (fun x => decide (x.source.length ≤ sourceMax))
  | .sectorFrameHandoff => true
  | .jobStart => true
  | .jobComplete _ read _ => decide (read.length ≤ sourceMax)
  | .keyDeliver => true
  | .reorderResult _ => true
  | .reorderTimeout _ => true
  | .admission _ => true
  | .poolAllocChain _ => true
  | .poolIncref _ => true
  | .poolDecref _ => true
  | .poolFree _ => true
  | .poolQuery => true
  | .counterSideEffect _ => true
  | .copyReady _ => true
  | .skipMarker _ => true
  | .reseqTimeout _ _ _ => true
  | .schedulerChoice _ _ => true
  | .shaperEligible node => NodeId.wf node
  | .qmaxClear => true
  | .sampleRoundStart => true
  | .slowpathRingWrite desc => wfRead desc 32
  | .injectDescriptorTake _ desc _ => wfRead desc 32
  | .rxDoorbell _ _ w => w.wf
  | .injectDoorbell _ _ w => w.wf
  | .jobDoorbell _ _ w => w.wf
  | .completionDoorbell _ _ w => w.wf
  | .hostRingEnable => true
  | .ringDmaError _ => true
  | .islandTickReport _ => true
  | .tickClose => true
  | .clockChangeDeferred _ => true
  | .railReport => true
  | .ledgerExport _ => true
  | .eventOccurrence _ => true
  | .eventRecordWrite => true
  | .msixModerationExpiry _ vector => decide (vector < 2048)
  | .intAck => true
  | .ringEnable => true
  | .eventHeadWrite _ w => w.wf
  | .telemEnable => true
  | .sringEnable => true
  | .exportEnable => true
  | .lastGaspEnable => true
  | .counterWrap _ _ => true
  | .overflowRead => true
  | .snapshot => true
  | .sampleDrain _ => true
  | .counterMark => true
  | .bundleVerified => true
  | .hbmTrainingDone failed => decide (failed < 16)
  | .serdesCalibrationDone => true
  | .bootLoadingDone failed => decide (failed < 2 ^ 16)
  | .ownerKeyHash => true
  | .ownerRevoke => true
  | .rollbackAdvance => true
  | .lifecycleAdvance => true
  | .fuseRowBurnDone _ => true
  | .mrExtend => true
  | .quoteRequest => true
  | .quoteDone master => decide (4096 ≤ master) && decide (master ≤ 4143)
  | .flr _ => true
  | .pcieLinkChange rate width => decide (rate < 256) && decide (width < 256)
  | .porNLow => true
  | .porNRise _ _ => true
  | .warmRstN => true
  | .warmReset => true
  | .warmResetEntry => true
  | .perstN => true
  | .pfailAsserted => true
  | .pfailGlitch => true
  | .thermtrip _ => true
  | .stateRequestInit => true
  | .stateRequestService => true
  | .stateRequestTest => true
  | .stateRequestHalt => true
  | .sensorRead milliC => decide (milliC.length = 25)
  | .thermalThrottle => true
  | .vcoreLow => true
  | .mgtCoreRestart => true
  | .mgtRestartDone => true
  | .ppsInEdge => true
  | .ppsOutPulse => true
  | .smbusDeviceState => true
  | .smbusRecoveryCause => true
  | .smbusThermalK => true
  | .smbusTempMax => true
  | .smbusFlags => true
  | .smbusVcoreRequired => true
  | .smbusDevicePower => true
  | .smbusIslandTemp x => x.write || decide (7 ≤ x.code.val)
  | .jtagBypass _ => true
  | .jtagIdcode => true
  | .jtagSamplePreload _ => true
  | .jtagExtest _ => true
  | .jtagExtestPulse _ => true
  | .jtagExtestTrain _ => true
  | .arpNeighbourSolicitation _ ipv6 target _ => decide (target < if ipv6 then 2 ^ 128 else 2 ^ 32)
  | .sideEffectAccepted _ _ _ => true
  | .firstEntryToL0 rate width => decide (rate < 256) && decide (width < 256)
  | .vfEnable _ _ => true
  | .busMasterEnable _ _ => true
  | .msixVectorUnmask _ _ => true
  | .updateLoadingDone => true
  | .supplyStableRise => true
  | .supplyStableFall => true
  | .vcoreLowCleared => true
  | .warmRstNRise => true
  | .jtagDebug _ => true
  | .trstNLow => true

end Sys2Proof
end

