-- ==== Sys2Proof/Safety.lean ====
section
/-!
DEFINITION. Safety: the terms that claims about runs of the block use.  No command stops the block, so a safe run is one
whose commands are well formed and whose every step answers a next state that keeps the fuses burned.
-/
namespace Sys2Proof.Safety

open Sys2Proof.Machine

/-- The queue holds well-formed commands. -/
def queued (s : State) : Prop := ∀ c ∈ s.pending, Instr.wf c = true

/-- A fuse row that is not BLANK keeps its value (R380). -/
def fusesKept (s t : State) : Prop := ∀ r, fuseRow s.fuses r ≠ 0 → fuseRow t.fuses r = fuseRow s.fuses r

/-- The fuse array is in canonical form and every row fits in 64 bits (Table 14-2). -/
def fusesFit (s : State) : Prop := s.fuses.wf (fun _ => 0) = true ∧ ∀ r, fuseRow s.fuses r < 2 ^ 64

/-- The outcome of a command is a next state that a test holds of, with the commands waiting as they were. -/
def answers (c : Instr) (s : State) (p : State → Prop) : Prop :=
  ∃ t, Sys2Proof.Machine.exec c s = .next t ∧ t.pending = s.pending ∧ p t

/-- The fuses, and every part of the device but its dictionary, are as they were. -/
def onlyDict (s t : State) : Prop := t.fuses = s.fuses ∧ t.d = { s.d with dict := t.d.dict }

/-- Every stored object but those listed reads as it did, and so does every byte of a domain. -/
def onlyObjects (ks : List Nat) (d e : Device) : Prop :=
  e.dict = { d.dict with live := e.dict.live } ∧ ∀ k, k ∉ ks → e.get k = d.get k

/-- Every byte of the plain domains reads as it did, save `n` bytes of one of them from an offset. -/
def bytesKept (dom off n : Nat) (d e : Device) : Prop :=
  ∀ x o, o < 2 ^ 32 → (x ≠ dom ∨ o < off ∨ off + n ≤ o) → e.memByte x o = d.memByte x o

/-- Every byte of the staged domains reads as it did in both storage copies, save `n` bytes of one shadow from an offset. -/
def copyBytesKept (dom off n : Nat) (d e : Device) : Prop :=
  ∀ c x o, o < 2 ^ 32 → (c ≠ d.shadowCopy (groupOf dom) ∨ x ≠ dom ∨ o < off ∨ off + n ≤ o) → e.copyByte c x o = d.copyByte c x o

/-- The service takes request `w` next (R52), it is one that the command of row `r` serves, and no check of orders 1 to 7
of Table 2-10 stops it. -/
def passes (s : State) (r : Row) (w : Waiting) : Prop :=
  s.d.chosen = some w ∧ s.d.rowFor w.request = r ∧ s.d.mute w = false ∧ w.src.number < 49
  ∧ (s.d.take w).screen w.ask = none

/-- A WRITE of that kind that no check of orders 9 to 11 stops. -/
def writes (s : State) (r : Row) (w : Waiting) : Prop := passes s r w ∧ (s.d.take w).writeBar w.ask = none

/-- A mailbox that waits for the response to `w` holds it (Table 2-16). -/
def answered (d : Device) (w : Waiting) (x : Response) : Prop :=
  ∀ n, w.src = .mailbox n → w.discard = false →
    (d.mailbox n).state = 2 ∧ (d.mailbox n).response = x.message w.src w.request

/-- A command of the service runs the request `w` to response `x`: the fuses stand, and the device after it is as said. -/
def serves (c : Instr) (s : State) (w : Waiting) (x : Response) (p : Device → Prop) : Prop :=
  answers c s (fun t => answered t.d w x ∧ t.fuses = s.fuses ∧ p t.d)

/-- No staged value of either storage copy differs from its default: nothing is staged (R62). -/
def nothingStaged (d : Device) : Prop :=
  d.dict.copy0 = [] ∧ d.dict.copy1 = [] ∧ d.dict.mem0 = [] ∧ d.dict.mem1 = []

/-- A request that came by a mailbox. -/
def byMailbox (w : Waiting) : Prop := ∃ n, w.src = .mailbox n

/-- An occurrence of an event source with a detail is on its way from an island to the event unit (R355). -/
def reports (d : Device) (isl source detail : Nat) : Prop :=
  ∃ o ∈ d.ev.flight.getD (fun _ => []) isl, o.source = source ∧ o.detail = detail

/-- A port that starts or restarts training in `d` is in ALIGNING with TRAINING = 0, and in TRAINING otherwise, with the timer of
that state (R110, R111, Table 4-4). -/
def trains (d e : Device) (p : Nat) : Prop :=
  if d.arr (portIsl p) (Obj.portTraining p) = 0 then e.link p = lkALIGNING ∧ (e.port p).timer = d.now + 50000000
  else e.link p = lkTRAINING ∧ (e.port p).timer = d.now + 1000000 * d.arr (portIsl p) Obj.trainTimeoutMs

/-- The credits that the dispatcher of a port group has spent on a cluster are its threads there that own a frame and the credits on
their way back, of 256 in all (R198). -/
def creditsFit (d : Device) (pg c : Nat) : Prop :=
  let spent := d.eng.spent.getD (fun _ => 0) (pg * 16 + c)
  spent ≤ 256 ∧ spent = (d.eng.threads.filter (fun x => x.1 / 256 == 4 * c + pg)).length
    + d.eng.returning.getD (fun _ => 0) (pg * 16 + c)

/-- Every dispatcher's credits fit, and no thread owns two frames. -/
def creditsKept (d : Device) : Prop :=
  d.eng.threads.sorted = true ∧ ∀ pg c, pg < 4 → c < 16 → creditsFit d pg c

/-- The command of a row of the service, as a master uses it. -/
def rowCommand (r : Row) : Instr :=
  match r with
  | .read => .kaznuRead | .write => .kaznuWrite | .readBlock => .kaznuReadBlock | .writeBlock => .kaznuWriteBlock
  | .commit => .kaznuCommit | .statusService => .statusService | .statusDescriptor => .statusDescriptor
  | .sessionOpen => .sessionOpen | .sessionClose => .sessionClose | .frostSoft => .frostSoft | .frostHard => .frostHard
  | .frostThaw => .frostThaw | .frostDisable => .frostDisable | .frostEnable => .frostEnable
  | .quadMode => .quadModeWrite | .portEnable => .portEnable | .portRetrain => .portResetRetrain
  | .portReset => .portResetReset | .groupEnable => .groupEnable | .emEnable => .emTableEnable
  | .fixedSelect => .fixedSelect | .reload => .reload | .clusterReset => .clusterReset
  | .poolAlloc => .poolAllocChain none | .poolIncref => .poolIncref none | .poolDecref => .poolDecref none
  | .poolFree => .poolFree none | .poolQuery => .poolQuery | .qmaxClear => .qmaxClear | .hostRing => .hostRingEnable
  | .railReport => .railReport | .intAck => .intAck | .ringEnable => .ringEnable | .telemEnable => .telemEnable
  | .sringEnable => .sringEnable | .exportEnable => .exportEnable | .lastGaspEnable => .lastGaspEnable
  | .overflowRead => .overflowRead | .snapshot => .snapshot | .counterMark => .counterMark
  | .ownerKeyHash => .ownerKeyHash | .ownerRevoke => .ownerRevoke | .rollbackAdvance => .rollbackAdvance
  | .lifecycleAdvance => .lifecycleAdvance | .mrExtend => .mrExtend | .quoteRequest => .quoteRequest
  | .warmReset => .warmReset | .stateInit => .stateRequestInit | .stateService => .stateRequestService
  | .stateTest => .stateRequestTest | .stateHalt => .stateRequestHalt

end Sys2Proof.Safety
end

