-- ==== Sys2Proof/Certificates/Slice0/Obligations.lean ====
section
/-!
DEFINITION. The statements for the provers.
-/
open Sys2Proof Sys2Proof.Machine

/-! ### The machine -/

/-- A step runs the command at the front of the queue on the state with the queue's rest. -/
def Obligations.StepRunsFront : Prop :=
  ∀ (c : Instr) (s : State), Sys2Proof.Machine.step { s with pending := c :: s.pending } = Sys2Proof.Machine.exec c s

/-- No command stops the block, and none touches the queue of commands. -/
def Obligations.EveryCommandAnswers : Prop :=
  ∀ (c : Instr) (s : State), ∃ t, Sys2Proof.Machine.exec c s = .next t ∧ t.pending = s.pending

/-- On an empty queue one nanosecond passes (the model's choice, log entry 5): the timestamp counter advances by 1, and no
staged value, no frame, nothing of the Kaznu service and no fuse changes, and no byte of a domain where no chain's release waits
for its place in its slice's order (R290). What has left the device is only added to, and with no sampling round in hand nothing
leaves. -/
def Obligations.EmptyQueueTicks : Prop :=
  ∀ s : State, s.pending = [] → ∃ t, Sys2Proof.Machine.step s = .next t ∧ t.pending = [] ∧ t.fuses = s.fuses
    ∧ t.d.now = s.d.now + 1 ∧ t.d.svc = s.d.svc ∧ t.d.pkt = s.d.pkt
    ∧ (∃ l, t.d.out = s.d.out ++ l ∧ (s.d.tm.roundLeft = [] → l = []))
    ∧ t.d.dict = { s.d.dict with live := t.d.dict.live, mem := t.d.dict.mem }
    ∧ (s.d.swc.releases = [] → t.d.dict.mem = s.d.dict.mem)

/-- A fuse row that is not BLANK never changes, whatever step is taken: a row once burned keeps its bits over every
command and every reset (Table 14-1, R382). -/
def Obligations.FuseRowsAreKept : Prop :=
  ∀ s t : State, Sys2Proof.Machine.step s = .next t → Safety.fusesKept s t

/-- The fuse array keeps its form on every step: canonical, with rows of 64 bits. The form is the model's own (log entry
4). -/
def Obligations.FuseFormIsKept : Prop :=
  ∀ s t : State, Safety.fusesFit s → Sys2Proof.Machine.step s = .next t → Safety.fusesFit t

/-- Only the end of a row's burn and the resets that can cut one short change a fuse. -/
def Obligations.FusesChangeOnlyByBurns : Prop :=
  ∀ (c : Instr) (s t : State), (∀ w, c ≠ .fuseRowBurnDone w) → c ≠ .porNLow → c ≠ .warmRstN → c ≠ .warmResetEntry →
    c ≠ .mgtCoreRestart → Sys2Proof.Machine.exec c s = .next t → t.fuses = s.fuses

/-- What reset leaves: BOOT, generation 0 on even parity, no front, the PF alone with rights, tenants other than 0
DISABLED, every link OFF, no frame, and time 0. The machine after reset: its fuses have their form, and no command
waits. The values of the fuses are the model's (log entry 4). -/
def Obligations.ResetState : Prop :=
  (let d := State.reset.d
   d.devState = stBOOT ∧ d.get Obj.generation = 0 ∧ d.get Obj.frontPhase = 0 ∧ d.parity = false
   ∧ (∀ t : Fin 4096, d.frostState 1 t = if t = 0 then 0 else 3)
   ∧ (∀ p : Fin 128, d.link p = lkOFF) ∧ d.pkt.frames = [] ∧ d.now = 0
   ∧ (∀ (m x r : Nat), x < 2 ^ 16 → r < 14 → d.mayNow islMGT 0 4096 x r = true
       ∧ (m ≠ 4096 → fixedMaster m = false → d.mayNow islMGT 0 m x r = false)))
  ∧ (Safety.fusesFit State.reset ∧ State.reset.pending = [])

/-! ### The Kaznu service -/

/-- The service takes a waiting request whose source is the next in the rotation after the one served last (R52). The
service takes no request in RESET, during a management restart, or before the response of the COMMIT in execution. The order among
the kinds of source is the model's choice (log entry 21), and so is that a command of the service leaves a request of another row
alone (log entry 45). -/
def Obligations.OneRequestAtATimeInRotation : Prop :=
  (∀ (d : Device) (w : Waiting), d.chosen = some w →
     w ∈ d.svc.waiting ∧ ∀ v ∈ d.svc.waiting, rotationRank d.svc.lastServed w.src ≤ rotationRank d.svc.lastServed v.src)
  ∧ (∀ d : Device, d.devState = stRESET ∨ d.sys.restarting = true ∨ d.svc.committing.isSome = true → d.chosen = none)
  ∧ (∀ (r : Row) (s : State) (w : Waiting), s.d.chosen = some w → s.d.rowFor w.request ≠ r →
     Sys2Proof.Machine.exec (Safety.rowCommand r) s = .next s)

/-- A request that a check of orders 1 to 7 of Table 2-10 stops is answered with the code of the first such check, and
has no other effect: at a mailbox the dictionary, the frames, the ports and the fuses stand (R67). -/
def Obligations.ChecksAnswerAndChangeNothing : Prop :=
  ∀ (r : Row) (s : State) (w : Waiting) (c : Code), s.d.chosen = some w → s.d.rowFor w.request = r → s.d.mute w = false →
    (s.d.take w).screen w.ask = some (.code c) → c ≠ .locked →
    Safety.answers (Safety.rowCommand r) s (fun t => Safety.answered t.d w { code := c } ∧ t.fuses = s.fuses
      ∧ (Safety.byMailbox w → t.d = { s.d with svc := t.d.svc, ev := t.d.ev, out := t.d.out }))

/-- The lowest-numbered VALID entry whose ranges hold the master and the resource alone decides a right: its class mask
gives it; with no such entry there is none (R89). No upset that left an entry or a mask without a majority stands (R66),
and the fixed rights of masters 4144 to 4164 are not asked of the table (R83). -/
def Obligations.AccessTablesDecide : Prop :=
  ∀ (d : Device) (isl : Nat) (par : Bool) (tg m x right : Nat), d.svc.unresolved = [] →
    let c := (d.ptr isl).copy par 13
    let e := fun (i : Nat) => d.copyGet c (Obj.accEntry tg i)
    let hit := fun (i : Nat) => (e i).testBit 63 = true ∧ bits (e i) 44 32 ≤ m ∧ m ≤ bits (e i) 57 45
      ∧ bits (e i) 15 0 ≤ x ∧ x ≤ bits (e i) 31 16
    let gives := fun (v : Nat) => d.mayFrame isl par tg m x right = v.testBit right
      ∧ (par = (d.ptr isl).parity → ¬ (4144 ≤ m ∧ m ≤ 4164) → d.mayNow isl tg m x right = v.testBit right)
    (∀ i, i < 64 → hit i → (∀ j, j < i → ¬ hit j) → gives (d.copyGet c (Obj.accClassMask tg (bits (e i) 62 58))))
    ∧ ((∀ i, i < 64 → ¬ hit i) → gives 0)

/-- A request that an access table denies is answered ACCESS and recorded: DENY_COUNT advances and the LAST_DENIED
fields name the master and the resource (R92). -/
def Obligations.DenialIsRecorded : Prop :=
  ∀ (r : Row) (s : State) (w : Waiting) (tg x : Nat), s.d.chosen = some w → s.d.rowFor w.request = r →
    s.d.mute w = false → (s.d.take w).screen w.ask = some (.denied tg x) → tg < 8 → Safety.byMailbox w →
    Safety.answers (Safety.rowCommand r) s (fun t => Safety.answered t.d w { code := .access }
      ∧ t.d.get (Obj.accDenyCount tg) = wrapAdd 64 (s.d.get (Obj.accDenyCount tg)) 1
      ∧ t.d.get (Obj.accLastDeniedMaster tg) = w.src.master ∧ t.d.get (Obj.accLastDeniedResource tg) = x
      ∧ Safety.onlyObjects [Obj.accDenyCount tg, Obj.accLastDeniedMaster tg, Obj.accLastDeniedResource tg] s.d t.d)

/-- Management-port and in-band requests in BOOT and HALT are discarded without a response (R68). -/
def Obligations.MuteRequestsVanish : Prop :=
  ∀ (r : Row) (s : State) (w : Waiting), s.d.chosen = some w → s.d.rowFor w.request = r → s.d.mute w = true →
    Sys2Proof.Machine.exec (Safety.rowCommand r) s = .next { s with d := { s.d with
      svc := { s.d.svc with waiting := s.d.svc.waiting.erase w, lastServed := w.src.number } } }

/-- A WRITE of objects 0x1008 to 0x101F by a master other than 4096 is answered ACCESS, whatever the access table
grants, where no check of an earlier order stops it (R70); at a mailbox no object changes. That R70 stands at order 3 of Table 2-10,
and that such an ACCESS is no denial to record, are the model's reading (log entry 15). -/
def Obligations.ManagementWritesNeedThePf : Prop :=
  ∀ (r : Row) (s : State) (w : Waiting), s.d.chosen = some w → s.d.rowFor w.request = r → s.d.mute w = false →
    let d := s.d.take w
    w.ask.r.op = opWRITE → 0x1008 ≤ w.ask.r.index → w.ask.r.index < 0x1020 → w.src.master ≠ 4096 →
    w.ask.r.formOk = true → d.serves w.ask = true → d.boxClosed w.ask = false → d.homeStopped w.ask = false →
    d.fieldBars w.ask = false →
    Safety.answers (Safety.rowCommand r) s (fun t => Safety.answered t.d w { code := .access } ∧ t.fuses = s.fuses
      ∧ (Safety.byMailbox w → t.d.dict = s.d.dict))

/-- A READ of a staged subindex returns its shadow, or its active copy where the request sets AUX bit 0 or a draining
front leaves the group no shadow; AUX bit 7 of the response says whether the two differ; no staged value changes (R57).
A WRITE of a staged subindex changes its shadow alone: no active value, which is that of the copy that serves the
current parity, and no other shadow (R57). -/
def Obligations.StagedSubindicesHaveTwoCopies : Prop :=
  (∀ (s : State) (w : Waiting) (r : ObjRow), Safety.passes s .read w →
     findRow w.ask.r.index w.ask.r.sub = some r → r.staged = true → w.ask.r.sub ≠ 0 → w.ask.key ≠ Obj.gpioIn →
     let k := w.ask.key
     let none_ := s.d.noShadow (groupOf w.ask.r.index)
     ∃ age, Safety.serves .kaznuRead s w
       { code := .ok, aux := if !none_ && s.d.shadow k != s.d.active k then 0x80 else 0, age := age,
         payload := beBytes r.ty.size (if w.ask.r.aux % 2 = 1 ∨ none_ then s.d.active k else s.d.shadow k) }
       (fun e => ∀ j, e.shadow j = s.d.shadow j ∧ e.active j = s.d.active j))
  ∧ (∀ (s : State) (w : Waiting) (r : ObjRow), Safety.writes s .write w →
     findRow w.ask.r.index w.ask.r.sub = some r → r.staged = true →
     Safety.serves .kaznuWrite s w { code := .ok } (fun e =>
       e.shadow w.ask.key = r.value w.ask.r.payload ∧ (∀ k, e.active k = s.d.active k)
       ∧ (∀ k, e.active k = e.copyGet ((e.ptr islMGT).copy e.parity (groupOf (k / 256))) k)
       ∧ (∀ k, k ≠ w.ask.key → e.shadow k = s.d.shadow k)))

/-- A READ of a stored subindex returns its value, and one of an object of MGT with AGE 0; one that a stopped cluster holds returns
its mirror copy, the last captured before the stop (R50, R55). That a mirrored value is that of the read itself, and which island's
AGE it has, are the model's choice (log entries 49 and 20). A READ_BLOCK returns the bytes held from its offset, up to the end of
the domain (R71): those stored, or in a window what its island holds: the records and valid bits of the ternary rows, the counters
of a bank, the state of SAs, meters, queues and event sources, the alias certificate, and the master's quote. STATUS answers with
the device's state, its draining flag, the master and the generation, or with the descriptor of a subindex: its type, access and
strobe group (Tables 2-11 and 2-12). -/
def Obligations.ReadsAnswer : Prop :=
  (∀ (s : State) (w : Waiting) (r : ObjRow), Safety.passes s .read w → Safety.byMailbox w →
     findRow w.ask.r.index w.ask.r.sub = some r → r.staged = false → w.ask.r.sub ≠ 0 → w.ask.key ≠ Obj.gpioIn →
     let home := homeOf w.ask.r.index r.access
     let gives := fun (v : Nat) => ∃ age, (home = islMGT → age = 0) ∧ Safety.serves .kaznuRead s w
       { code := .ok, age := age, payload := beBytes r.ty.size v } (fun e => e.dict = s.d.dict)
     ((r.access ≠ .rm ∨ s.d.stopped home = false) →
       (s.d.take w).computed s.fuses w.src.master w.ask.r.index w.ask.r.sub = none → gives (s.d.get w.ask.key))
     ∧ (r.access = .rm → s.d.stopped home = true → gives ((s.d.cluster home).mirror.getD objDefault w.ask.key)))
  ∧ (∀ (s : State) (w : Waiting) (r : ObjRow), Safety.passes s .readBlock w → Safety.byMailbox w →
     findRow w.ask.r.index w.ask.r.sub = some r →
     let i := w.ask.r.index
     let dim := s.d.domDim r i
     let n := min w.ask.count (dim.1 - w.ask.offset)
     let off := w.ask.offset
     let e := s.d.take w
     let gives := fun (b : Bytes) => ∃ age, Safety.serves .kaznuReadBlock s w { code := .ok, age := age, payload := b }
       (fun e => e.dict = s.d.dict)
     off % dim.2 = 0 → w.ask.count % dim.2 = 0 → w.ask.count ≤ 4080 → off < dim.1 →
     ((i < 0xE400 ∨ 0xE480 ≤ i) → (i < 0xEB10 ∨ 0xEB29 ≤ i) → i ∉ [0xE702, 0xE901, 0xE913, 0xEB01, 0xC041, 0xC051] →
       gives (if r.staged then s.d.shadowRead i off n else s.d.memRead i off n))
     ∧ (∀ t, t < 64 → i = 0xE400 + t →
         gives (byGranule dim.2 off n (fun k => s.d.rowRecord t (s.d.shadow (Obj.tcamWidth t)) k (s.d.noShadow 3))))
     ∧ (∀ t, t < 64 → i = 0xE440 + t → gives (byGranule 8 off n (fun k => s.d.validWord t k (s.d.noShadow 3))))
     ∧ (∀ b, b < 25 → i = 0xEB10 + b → gives (byGranule 8 off n (fun k =>
         beBytes 8 ((if k < 512 then e.ev.counters else e.ev.snaps).getD (fun _ => 0) (b * 512 + k % 512)))))
     ∧ (i = 0xE702 → gives (byGranule 32 off n (fun a => [byte (s.d.frostState 4 a), byte (s.d.saStateByte a), 0, 0]
         ++ beBytes 4 (s.d.saState a).epoch ++ beBytes 8 (s.d.saState a).tx ++ beBytes 8 (s.d.saState a).rxHigh
         ++ beBytes 4 (s.d.saState a).serial ++ zeros 4)))
     ∧ (i = 0xE901 → gives (byGranule 32 off n s.d.meterStateBytes))
     ∧ (i = 0xE913 → gives (byGranule 32 off n s.d.queueStatusBytes))
     ∧ (i = 0xEB01 → gives (byGranule 16 off n e.eventStatusBytes))
     ∧ (i = 0xC041 → gives (slice (fit 17088 s.d.sec.aliasCert) off n))
     ∧ (i = 0xC051 → gives (slice (fit 36048 (s.d.quote w.src.master).body) off n)))
  ∧ (∀ (s : State) (w : Waiting), Safety.byMailbox w →
     (Safety.passes s .statusService w → Safety.serves .statusService s w
       { code := .ok, payload := [byte s.d.devState, 1, byte (s.d.get Obj.draining), 0] ++ beBytes 2 w.src.master ++ [0, 0]
                                 ++ beBytes 8 (s.d.get Obj.generation) } (fun e => e.dict = s.d.dict))
     ∧ (∀ r, Safety.passes s .statusDescriptor w → findRow w.ask.r.index w.ask.r.sub = some r →
         ∃ flags rest, rest.length = 12 ∧ Safety.serves .statusDescriptor s w
           { code := .ok, payload := [byte r.ty.code, byte r.access.code,
               byte (if r.staged then groupOf w.ask.r.index else 0xFF), byte flags] ++ rest }
           (fun e => e.dict = s.d.dict)))

/-- A WRITE of an object that is not staged sets it, and at a mailbox no other object, staged value or domain byte changes; one of a
session's KEY sets that key alone (R96). An accepted WRITE_BLOCK of a staged domain writes the bytes of its shadow and no other
byte of either copy; of a plain domain its bytes and no other; at a mailbox nothing else of the dictionary changes (R57, R72). One
of TCAM_ROWS sets the rows it names, their validity apart, and one of TCAM_VALID the staged bits, and no other row changes (R172,
R173). Commands are stored; with FINAL those from offset 0 on run, at once or, where that is long, with PENDING (R188, log entry
14). Key records replace those that wait for their flip (R252). A bundle's segment at offset 0, or while RECEIVING, is stored, and
FINAL starts verification with PENDING (R386, log entry 35). -/
def Obligations.WritesLand : Prop :=
  (∀ (s : State) (w : Waiting) (r : ObjRow), Safety.writes s .write w →
     findRow w.ask.r.index w.ask.r.sub = some r → r.staged = false →
     (w.ask.r.index < 0x1010 ∨ 0x1020 ≤ w.ask.r.index) →
     Safety.serves .kaznuWrite s w { code := .ok } (fun e =>
       e.get w.ask.key = r.value w.ask.r.payload ∧ (Safety.byMailbox w → Safety.onlyObjects [w.ask.key] s.d e)))
  ∧ (∀ (s : State) (w : Waiting) (r : ObjRow), Safety.passes s .writeBlock w →
     findRow w.ask.r.index w.ask.r.sub = some r → (s.d.take w).windowBar w.ask r = none →
     let i := w.ask.r.index
     let off := w.ask.offset
     let b := w.ask.data
     let final := bit w.ask.r.aux 1
     let n := (off + b.length) / 64
     let wrote := fun (e : Device) => e.memRead i off b.length = b
       ∧ (Safety.byMailbox w → Safety.bytesKept i off b.length s.d e)
     ((i < 0xE400 ∨ 0xE480 ≤ i) → (i < 0xE500 ∨ 0xE540 ≤ i) → i ≠ 0xE600 → i ≠ 0xC100 →
       Safety.serves .kaznuWriteBlock s w { code := .ok } (fun e =>
         (r.staged = true → e.shadowRead i off b.length = storedBytes i b ∧ Safety.copyBytesKept i off b.length s.d e
           ∧ (∀ o n, e.activeRead i o n = s.d.activeRead i o n)
           ∧ (Safety.byMailbox w → e.dict = { s.d.dict with mem0 := e.dict.mem0, mem1 := e.dict.mem1 }))
         ∧ (r.staged = false → wrote e ∧ (Safety.byMailbox w → e.dict = { s.d.dict with mem := e.dict.mem }))
         ∧ (i = 0xE701 → ∀ a, (e.saState a).pendingEpoch =
             if off / 128 ≤ a ∧ a < (off + b.length) / 128 then none else (s.d.saState a).pendingEpoch)))
     ∧ (∀ t, t < 64 → i = 0xE400 + t → Safety.serves .kaznuWriteBlock s w { code := .ok } (fun e =>
         let width := s.d.shadow (Obj.tcamWidth t)
         let g := rowGranule width
         (∀ j, j < b.length / g → e.tcamRow t (off / g + j) = { rowOfRecord width (slice b (g * j) g) with
             even := (s.d.tcamRow t (off / g + j)).even, odd := (s.d.tcamRow t (off / g + j)).odd })
         ∧ (∀ k, (∀ j, j < b.length / g → k ≠ rowKey t (off / g + j)) →
             e.srh.rows.getD (fun _ => {}) k = s.d.srh.rows.getD (fun _ => {}) k)
         ∧ (Safety.byMailbox w → e.dict = s.d.dict)))
     ∧ (∀ t, t < 64 → i = 0xE440 + t → Safety.serves .kaznuWriteBlock s w { code := .ok } (fun e =>
         (∀ j k, j < b.length / 8 → k < 64 → e.tcamRow t (64 * (off / 8 + j) + k) =
             { s.d.tcamRow t (64 * (off / 8 + j) + k) with staged := bit (beAt b (8 * j) 8) k })
         ∧ (∀ k, (∀ j, j < 8 * b.length → k ≠ rowKey t (8 * off + j)) →
             e.srh.rows.getD (fun _ => {}) k = s.d.srh.rows.getD (fun _ => {}) k)
         ∧ (Safety.byMailbox w → e.dict = s.d.dict)))
     ∧ (∀ t, t < 64 → i = 0xE500 + t →
         let e0 := (s.d.take w).memWrite i off b
         (final = false → Safety.serves .kaznuWriteBlock s w { code := .ok } (fun e => wrote e ∧ e.srh = s.d.srh))
         ∧ (final = true → s.d.emBatchLong n = true → Safety.serves .kaznuWriteBlock s w { code := .pending } (fun e =>
             wrote e ∧ e.srh = { s.d.srh with emBatch := some (t, n) }))
         ∧ (final = true → s.d.emBatchLong n = false → Safety.serves .kaznuWriteBlock s w { code := .ok } (fun e =>
             e.srh = (e0.emBatchRun t n).srh ∧ e.memRead i off b.length = b)))
     ∧ (i = 0xE600 →
         let e0 := (s.d.take w).memWrite i off b
         (final = false → Safety.serves .kaznuWriteBlock s w { code := .ok } (fun e => wrote e ∧ e.srh = s.d.srh))
         ∧ (final = true → s.d.lpmBatchLong n = true → Safety.serves .kaznuWriteBlock s w { code := .pending } (fun e =>
             wrote e ∧ e.srh = { s.d.srh with lpmBatch := some n }))
         ∧ (final = true → s.d.lpmBatchLong n = false → Safety.serves .kaznuWriteBlock s w { code := .ok } (fun e =>
             e.srh = (e0.lpmBatchRun n).srh ∧ e.memRead i off b.length = b)))
     ∧ (i = 0xC100 → s.d.get s.d.phaseObj ≠ bpDONE → off = 0 ∨ s.d.get s.d.phaseObj = bpRECEIVING →
         Safety.serves .kaznuWriteBlock s w { code := if final then .pending else .ok } (fun e =>
           e.get s.d.phaseObj = (if final then bpVERIFYING else bpRECEIVING) ∧ e.memRead i off b.length = b
           ∧ (off ≠ 0 → Safety.byMailbox w → Safety.bytesKept i off b.length s.d e))))
  ∧ (∀ (s : State) (w : Waiting), Safety.writes s .write w → Safety.byMailbox w →
     0x1010 ≤ w.ask.r.index → w.ask.r.index < 0x1020 →
     let n := w.ask.r.index - 0x1010
     Safety.serves .kaznuWrite s w { code := .ok } (fun e =>
       e.session n = { s.d.session n with key := some (fit 32 w.ask.r.payload) }
       ∧ (∀ m, m ≠ n → e.session m = s.d.session m) ∧ e.dict = s.d.dict))

/-- A COMMIT that finds no front draining and no batch in the way starts a front of its mask in PREPARE; its response
waits for the flip, and the generation stands (R58, R59). -/
def Obligations.CommitStartsAFront : Prop :=
  ∀ (s : State) (w : Waiting), Safety.passes s .commit w → Safety.byMailbox w →
    (s.d.take w).commitBusy w.ask.value = false → w.ask.value ≠ 0 →
    Safety.answers .kaznuCommit s (fun t =>
      t.d.get Obj.frontPhase = 1 ∧ t.d.get Obj.lastCommitMask = w.ask.value
      ∧ t.d.get Obj.frontLastCommitTime = s.d.now ∧ t.d.front.mask = w.ask.value ∧ t.d.svc.committing = some w
      ∧ t.d.get Obj.generation = s.d.get Obj.generation ∧ t.d.ptrs = s.d.ptrs ∧ t.d.out = s.d.out ∧ t.fuses = s.fuses
      ∧ Safety.onlyObjects [Obj.frontPhase, Obj.lastCommitMask, Obj.frontLastCommitTime] s.d t.d)

/-- A write of OPEN opens a session that was CLOSED with L = 0, and a write of CLOSED closes it and erases its key and
its kept response (R75). -/
def Obligations.SessionsOpenAndClose : Prop :=
  ∀ (s : State) (w : Waiting), w.src = .mailbox 0 →
    let n := w.ask.r.index - 0x1010
    (Safety.writes s .sessionOpen w → s.d.get (Obj.sessionState n) ≠ 1 →
      Safety.serves .sessionOpen s w { code := .ok } (fun e =>
        e.get (Obj.sessionState n) = 1 ∧ e.get (Obj.sessionLastSequence n) = 0 ∧ (e.session n).key = (s.d.session n).key
        ∧ Safety.onlyObjects [Obj.sessionState n, Obj.sessionLastSequence n] s.d e))
    ∧ (Safety.writes s .sessionClose w →
      Safety.serves .sessionClose s w { code := .ok } (fun e =>
        e.get (Obj.sessionState n) = 0 ∧ e.session n = {} ∧ Safety.onlyObjects [Obj.sessionState n] s.d e))

/-! ### Frost -/

/-- A soft Frost of an ACTIVE function starts its drain deadline and is answered PENDING while work is in flight, which
it leaves alone; with none in flight the function is FROZEN at once and the answer is OK (R98, R101). A hard Frost of an
ACTIVE function starts its flush at once, with no deadline; unless it is a cluster, it is FROZEN with OK when the flush
leaves nothing in flight, and FROSTING with PENDING otherwise (R98, R101). What reaches a stage of the flushed
function later is met there (log entry 33). -/
def Obligations.FrostStarts : Prop :=
  (∀ (s : State) (w : Waiting), Safety.passes s .frostSoft w → Safety.byMailbox w →
     let d := s.d.take w
     let x := FrostAsk.ofNat w.ask.written
     let due := s.d.now + us (if x.deadlineUs = 0 then s.d.get Obj.deadlineDefault else x.deadlineUs)
     d.frostGate x = none → x.bad = false → d.frostState x.cls x.inst = 0 →
     ((d.frostBegin x.cls x.inst (some due)).inFlight x.cls x.inst = true →
       Safety.serves .frostSoft s w { code := .pending } (fun e =>
         e.frostState x.cls x.inst = 1 ∧ (e.frostFn x.cls x.inst).deadline = some due ∧ e.pkt = s.d.pkt ∧ e.eng = s.d.eng))
     ∧ ((d.frostBegin x.cls x.inst (some due)).inFlight x.cls x.inst = false → x.cls ≠ 3 →
       Safety.serves .frostSoft s w { code := .ok } (fun e => e.frostState x.cls x.inst = 2
         ∧ (∀ c i, c < 2 ^ 8 → i < 2 ^ 16 → (c, i) ≠ (x.cls, x.inst) → e.frostState c i = s.d.frostState c i))))
  ∧ (∀ (s : State) (w : Waiting), Safety.passes s .frostHard w →
     let d := s.d.take w
     let x := FrostAsk.ofNat w.ask.written
     d.frostGate x = none → x.bad = false → d.frostState x.cls x.inst = 0 → x.cls ≠ 3 →
     let left := ((d.frostBegin x.cls x.inst none).startFlush x.cls x.inst true).inFlight x.cls x.inst
     Safety.serves .frostHard s w { code := if left then .pending else .ok } (fun e =>
       e.frostState x.cls x.inst = (if left then 1 else 2) ∧ (e.frostFn x.cls x.inst).deadline = none
       ∧ (e.frostFn x.cls x.inst).flushing = left))

/-- THAW makes a FROZEN function ACTIVE, DISABLE makes it DISABLED, and ENABLE makes a DISABLED one FROZEN; each is
answered OK, and no other function's state changes (R98, Table 3-9). A FROSTING function with nothing left in flight becomes
FROZEN with event 950: nothing else changes, save of a cluster, whose pending reset unloads it and whose drained reload
starts loading (R101, Table 7-19). A drain deadline that has come, with work still in flight, counts in FORCED_COUNT, ends,
and starts the flush: the function is flushing, or already FROZEN (R101). -/
def Obligations.FrostMovesOn : Prop :=
  (∀ (s : State) (w : Waiting),
     let d := s.d.take w
     let x := FrostAsk.ofNat w.ask.written
     let others := fun (e : Device) =>
       ∀ c i, c < 2 ^ 8 → i < 2 ^ 16 → (c, i) ≠ (x.cls, x.inst) → e.frostState c i = s.d.frostState c i
     d.frostGate x = none → x.bad = false →
     (Safety.passes s .frostThaw w → d.frostState x.cls x.inst = 2 →
       Safety.serves .frostThaw s w { code := .ok } (fun e => e.frostState x.cls x.inst = 0 ∧ others e))
     ∧ (Safety.passes s .frostDisable w → d.frostState x.cls x.inst = 2 →
       Safety.serves .frostDisable s w { code := .ok } (fun e => e.frostState x.cls x.inst = 3 ∧ others e))
     ∧ (Safety.passes s .frostEnable w → d.frostState x.cls x.inst = 3 →
       Safety.serves .frostEnable s w { code := .ok } (fun e => e.frostState x.cls x.inst = 2 ∧ others e)))
  ∧ (∀ (fn : FnId) (s : State), frostable fn.cls fn.inst = true → s.d.frostState fn.cls fn.inst = 1 →
     (s.d.inFlight fn.cls fn.inst = false →
       (fn.cls = 3 → (s.d.cluster fn.inst).resetPending = false ∧ (s.d.cluster fn.inst).autoPending = false
         ∧ s.d.get (Obj.clLoadState fn.inst) ≠ ldDRAINING) →
       let f : FrostFn := { s.d.frostFn fn.cls fn.inst with state := 2, deadline := none, flushing := false }
       Sys2Proof.Machine.exec (.frostComplete fn) s =
         .next { s with d := (s.d.setFrost fn.cls fn.inst f).fire islMGT 950 (fn.cls * 2 ^ 56 + fn.inst) })
     ∧ (s.d.inFlight fn.cls fn.inst = false → fn.cls = 3 →
       Safety.answers (.frostComplete fn) s (fun t => t.fuses = s.fuses ∧ t.d.frostState 3 fn.inst = 2
         ∧ Safety.reports t.d islMGT 950 (3 * 2 ^ 56 + fn.inst)
         ∧ ((s.d.cluster fn.inst).resetPending = true → t.d.get (Obj.clLoadState fn.inst) = ldUNLOADED
             ∧ (t.d.cluster fn.inst).image = {})
         ∧ ((s.d.cluster fn.inst).resetPending = false → s.d.get (Obj.clLoadState fn.inst) = ldDRAINING →
             t.d.get (Obj.clLoadState fn.inst) = ldLOADING)))
     ∧ (∀ due, (s.d.frostFn fn.cls fn.inst).deadline = some due → due ≤ s.d.now →
       s.d.inFlight fn.cls fn.inst = true →
       Safety.answers (.frostDeadline fn) s (fun t => t.fuses = s.fuses
         ∧ (t.d.frostFn fn.cls fn.inst).deadline = none
         ∧ ((t.d.frostState fn.cls fn.inst = 1 ∧ (t.d.frostFn fn.cls fn.inst).flushing = true)
             ∨ t.d.frostState fn.cls fn.inst = 2)
         ∧ (fn.cls = 3 → t.d.frostState 3 fn.inst = 1)
         ∧ t.d.get Obj.forcedCount = satAdd (objWidth Obj.forcedCount) (s.d.get Obj.forcedCount) 1)))

/-- Tenant 0 cannot be Frosted or disabled, and always reads ACTIVE: each Frost command that names it is answered RANGE
and changes no function (R87). -/
def Obligations.TenantZeroStaysActive : Prop :=
  (∀ d : Device, d.frostState 1 0 = 0)
  ∧ (∀ (r : Row) (s : State) (w : Waiting), r ∈ [Row.frostSoft, .frostHard, .frostThaw, .frostDisable, .frostEnable] →
    Safety.passes s r w → (FrostAsk.ofNat w.ask.written).cls = 1 → (FrostAsk.ofNat w.ask.written).inst = 0 →
    Safety.serves (Safety.rowCommand r) s w { code := .range } (fun e => e.frost = s.d.frost))

/-! ### Ports and links -/

/-- An accepted QUAD_MODE write sets the quad's shadow mode and, for each port of the new mode, the shadow FEC to the
mode's default; no active value changes (R107). ENABLE = 1 of a defined port whose link is OFF, in a state that lets links run
and not DISABLED under Frost, starts training with its timer, or with TRAINING = 0 alignment with its own, and no other port
changes; ENABLE = 0 takes the link to OFF and ends a hold, and changes no port's record where the link is not UP, no hold runs
and nothing is held (R110, R115). PORT_RESET 1 or 2 of a port that is neither UP nor OFF starts training again in the same way,
and 2 with no hold running and nothing held changes no other port; PORT_RESET 2 of one that is UP does so too; PORT_RESET 1 of
one that is UP and sends nothing, with a Lull window, does so too, counts a LINK_DOWN and starts a hold at the port group's time
(R25); PORT_RESET 1 or 2 of one that is OFF leaves it OFF; and PORT_RESET 2 leaves no hold, whatever the link (R129). That a
PORT_RESET leaves an OFF port OFF, and that ENABLE starts no port DISABLED under Frost, is the model's reading (log entry 13). -/
def Obligations.PortWritesActAtOnce : Prop :=
  (∀ (s : State) (w : Waiting), Safety.writes s .quadMode w →
     let q := w.ask.r.index - 0x2100
     let m := w.ask.written
     Safety.serves .quadModeWrite s w { code := .ok } (fun e =>
       e.shadow (Obj.quadMode q) = m
       ∧ (∀ p, p / 4 = q → modeDefines m p = true → e.shadow (Obj.portFec p) = (modeFec m).headD 0)
       ∧ (∀ k, e.active k = s.d.active k)))
  ∧ (∀ (s : State) (w : Waiting), Safety.writes s .portEnable w →
     let p := w.ask.r.index - 0x2200
     (w.ask.written = 1 → s.d.defined p = true → s.d.link p = lkOFF → s.d.dataRuns = true → s.d.frostState 2 p ≠ 3 →
       Safety.serves .portEnable s w { code := .ok } (fun e =>
         e.get (Obj.portEnable p) = 1 ∧ Safety.trains s.d e p ∧ ∀ q, q ≠ p → e.port q = s.d.port q))
     ∧ (w.ask.written = 0 → Safety.serves .portEnable s w { code := .ok } (fun e =>
         e.get (Obj.portEnable p) = 0 ∧ e.link p = lkOFF ∧ e.holding p = false))
     ∧ (w.ask.written = 0 → s.d.link p ≠ lkUP → s.d.holding p = false → s.d.heldCopies p = [] →
       Safety.serves .portEnable s w { code := .ok } (fun e =>
         e.get (Obj.portEnable p) = 0 ∧ e.link p = lkOFF ∧ e.ports = s.d.ports)))
  ∧ (∀ (s : State) (w : Waiting),
     let p := w.ask.r.index - 0x2200
     (Safety.writes s .portRetrain w → s.d.link p ≠ lkUP → s.d.link p ≠ lkOFF →
       Safety.serves .portResetRetrain s w { code := .ok } (fun e => Safety.trains s.d e p ∧ e.swc = s.d.swc))
     ∧ (Safety.writes s .portRetrain w → s.d.link p = lkOFF →
       Safety.serves .portResetRetrain s w { code := .ok } (fun e => e.link p = lkOFF ∧ e.ports = s.d.ports))
     ∧ (Safety.writes s .portReset w → s.d.link p = lkOFF →
       Safety.serves .portResetReset s w { code := .ok } (fun e => e.link p = lkOFF ∧ e.holding p = false
         ∧ (s.d.holding p = false → s.d.heldCopies p = [] → e.ports = s.d.ports)))
     ∧ (Safety.writes s .portReset w → Safety.serves .portResetReset s w { code := .ok } (fun e => e.holding p = false))
     ∧ (Safety.writes s .portReset w → s.d.link p = lkUP →
       Safety.serves .portResetReset s w { code := .ok } (fun e => Safety.trains s.d e p ∧ e.holding p = false))
     ∧ (Safety.writes s .portRetrain w → s.d.link p = lkUP → s.d.transmitting p = none →
       s.d.arr (portIsl p) (Obj.portLullWindowUs p) ≠ 0 →
       Safety.serves .portResetRetrain s w { code := .ok } (fun e => Safety.trains s.d e p ∧ e.holding p = true
         ∧ e.get (Obj.pstHoldStart p) = s.d.timeAt (portIsl p)
         ∧ e.get (Obj.pstLinkDowns p) = wrapAdd (objWidth (Obj.pstLinkDowns p)) (s.d.get (Obj.pstLinkDowns p)) 1
         ∧ e.swc = s.d.swc))
     ∧ (Safety.writes s .portReset w → s.d.link p ≠ lkUP → s.d.link p ≠ lkOFF → s.d.holding p = false →
       s.d.heldCopies p = [] →
       Safety.serves .portResetReset s w { code := .ok } (fun e => Safety.trains s.d e p
         ∧ ∀ q, q ≠ p → e.port q = s.d.port q)))

/-! ### Writes of the search, cluster and pool objects -/

/-- ENABLE = 1 of a group puts it among the groups being filled and is answered PENDING (the model's choice, log entry 14), or
OK where its shadow is 1 already; ENABLE = 1 of an exact-match table enabled in neither copy puts it among the tables being
cleared and is answered PENDING where the clear is long (log entry 14), and otherwise sets its shadow to 1; no active value
changes by either. A change of FIXED_SELECT applies at once, disables the complex's sixteen groups in both copies and ends
their fills; a write of the value it has changes nothing of the search (R175, R176, R181). -/
def Obligations.SearchEnables : Prop :=
  ∀ (s : State) (w : Waiting),
    (Safety.writes s .groupEnable w → s.d.shadow w.ask.key ≠ 1 →
      Safety.serves .groupEnable s w { code := .pending } (fun e =>
        (w.ask.r.index - 0x4010) ∈ e.srh.fills ∧ (∀ k, e.shadow k = s.d.shadow k) ∧ (∀ k, e.active k = s.d.active k)))
    ∧ (Safety.writes s .groupEnable w → s.d.shadow w.ask.key = 1 →
      Safety.serves .groupEnable s w { code := .ok } (fun e => e.srh = s.d.srh ∧ ∀ k, e.shadow k = s.d.shadow k))
    ∧ (let t := w.ask.r.index - 0x4400
      Safety.writes s .emEnable w →
        ((s.d.take w).emClearLong t = true → Safety.serves .emTableEnable s w { code := .pending } (fun e =>
          t ∈ e.srh.clears ∧ ∀ k, e.shadow k = s.d.shadow k ∧ e.active k = s.d.active k))
        ∧ ((s.d.take w).emClearLong t = false → Safety.serves .emTableEnable s w { code := .ok } (fun e =>
          e.shadow (Obj.emEnable t) = 1 ∧ ∀ k, e.active k = s.d.active k)))
    ∧ (let c := w.ask.r.index - 0x4000
      Safety.writes s .fixedSelect w →
        (s.d.get (Obj.cxFixedSelect c) ≠ w.ask.written →
          Safety.serves .fixedSelect s w { code := .ok } (fun e => e.get (Obj.cxFixedSelect c) = w.ask.written
            ∧ (∀ b i, i / 16 = c → e.copyGet b (Obj.grpEnable i) = 0) ∧ (∀ i ∈ e.srh.fills, i / 16 ≠ c)))
        ∧ (s.d.get (Obj.cxFixedSelect c) = w.ask.written →
          Safety.serves .fixedSelect s w { code := .ok } (fun e => e.srh = s.d.srh
            ∧ e.get (Obj.cxFixedSelect c) = w.ask.written ∧ ∀ b k, e.copyGet b k = s.d.copyGet b k)))

/-- RELOAD of a LOADED and ACTIVE cluster, where the device state, the slot and the other clusters allow it, starts its
drain: LOAD_STATE DRAINING, the cluster FROSTING with a deadline 950 µs away, and the answer PENDING (R231).
CLUSTER_RESET of a FROZEN or DISABLED cluster leaves it UNLOADED with its stores cleared, its Frost state as it was, and is
answered OK; of an ACTIVE or FROSTING one whose threads still hold frames it starts a hard Frost, keeps the reset for its end
and is answered PENDING (R232). -/
def Obligations.ClusterRequestsStart : Prop :=
  (∀ (s : State) (w : Waiting), Safety.passes s .reload w → Safety.byMailbox w → w.ask.written = 1 →
     let c := w.ask.r.index - 0x5000
     s.d.dataRuns = true → s.d.frostState 3 c = 0 → s.d.get (Obj.slotPresent (s.d.get (Obj.clImageSlot c))) ≠ 0 →
     s.d.reloadRuns = false → s.d.onlyInService c = false → s.d.get (Obj.clLoadState c) = ldLOADED →
     Safety.serves .reload s w { code := .pending } (fun e => e.get (Obj.clLoadState c) = ldDRAINING
       ∧ e.frostState 3 c = 1 ∧ (e.frostFn 3 c).deadline = some (s.d.now + 950000) ∧ (e.cluster c).wasActive = true
       ∧ e.eng.threads = s.d.eng.threads))
  ∧ (∀ (s : State) (w : Waiting), Safety.passes s .clusterReset w → Safety.byMailbox w → w.ask.written = 1 →
     let c := w.ask.r.index - 0x5000
     (2 ≤ s.d.frostState 3 c → Safety.serves .clusterReset s w { code := .ok } (fun e =>
       e.get (Obj.clLoadState c) = ldUNLOADED ∧ (e.cluster c).image = {} ∧ (e.cluster c).storeErrors = []
       ∧ (e.cluster c).resetPending = false ∧ (e.cluster c).autoPending = false ∧ e.frost = s.d.frost))
     ∧ (s.d.frostState 3 c ≤ 1 → s.d.clusterBusy c = true → Safety.serves .clusterReset s w { code := .pending } (fun e =>
       e.frostState 3 c = 1 ∧ (e.frostFn 3 c).flushing = true ∧ (e.cluster c).resetPending = true
       ∧ e.get (Obj.clLoadState c) = s.d.get (Obj.clLoadState c))))

/-- Where the pool's slice can still take requester 26 in the present SWC cycle, with the releases that stand before it in its
order (R290, Table 10-9): a master that holds ALLOC on an ACTIVE pool with room gets a chain of its own: the cells taken, one
reference, and the head in its POOL_RESULT (R291, R293). On a chain that lies in the pool and is allocated, INCREF with SHARE adds
a reference, DECREF by the owner drops one and releases the chain with the last, FREE by the owner with FREE releases it, and
QUERY with READ returns its head record; each result code is OK (R291, R293). Where the slice can not, the request waits. Which of
the free cells are taken is the model's choice (log entry 7), and so is the order of a slice's cycle where the rules leave it (log
entry 60). -/
def Obligations.MastersUseThePools : Prop :=
  (∀ (s : State) (w : Waiting) (h : Nat) (rest : List Nat), Safety.writes s .poolAlloc w → Safety.byMailbox w →
     let m := w.src.master
     let p := bits w.ask.written 60 56
     let n := bits w.ask.written 28 21
     let d := (s.d.take w).poolReach p 26
     s.d.poolOpen p 26 = true → n ≠ 0 → s.d.mayNow islSWC 3 m p rALLOC = true → s.d.frostState 6 p = 0 →
     n ≤ d.poolFree p → n ≤ d.deviceFree → takeCells d.cellsInUse 0 n = h :: rest →
     Safety.serves (.poolAllocChain none) s w { code := .ok } (fun e =>
       e.svc.poolResult.getD (fun _ => 0) m = h
       ∧ e.swc.chains.find h = some { allocated := true, pool := p, refs := 1, owner := m, cells := h :: rest }
       ∧ e.get (Obj.poolAllocs p) = wrapAdd (objWidth (Obj.poolAllocs p)) (d.get (Obj.poolAllocs p)) 1))
  ∧ (∀ (s : State) (w : Waiting) (c : Chain), Safety.byMailbox w →
     let m := w.src.master
     let p := bits w.ask.written 60 56
     let h := bits w.ask.written 20 0
     let d := (s.d.take w).poolReach p 26
     let ok := fun (e : Device) => e.svc.poolResult.getD (fun _ => 0) m / 2 ^ 56 = 0
     s.d.poolOpen p 26 = true →
     d.swc.chains.find h = some c → c.pool = p → c.allocated = true → c.frame = false → m ≠ masterFrames →
     (Safety.writes s .poolIncref w → s.d.mayNow islSWC 3 m p rSHARE = true → c.refs ≠ 255 →
       Safety.serves (.poolIncref none) s w { code := .ok } (fun e => ok e ∧ e.chain h = { c with refs := c.refs + 1 }))
     ∧ (Safety.writes s .poolDecref w → c.owner = m → 1 < c.refs →
       Safety.serves (.poolDecref none) s w { code := .ok } (fun e => ok e ∧ e.chain h = { c with refs := c.refs - 1 }))
     ∧ (Safety.writes s .poolDecref w → c.owner = m → c.refs = 1 →
       Safety.serves (.poolDecref none) s w { code := .ok } (fun e => ok e ∧ (e.chain h).allocated = false))
     ∧ (Safety.writes s .poolFree w → c.owner = m → s.d.mayNow islSWC 3 m p rFREE = true →
       Safety.serves (.poolFree none) s w { code := .ok } (fun e => ok e ∧ e.chain h = { c with allocated := false }))
     ∧ (Safety.writes s .poolQuery w → s.d.mayNow islSWC 3 m p rREAD = true →
       Safety.serves .poolQuery s w { code := .ok } (fun e => ok e ∧ e.svc.poolQuery.getD (fun _ => 0) m = headRecord c
         ∧ e.swc = d.swc)))
  ∧ (∀ (s : State) (w : Waiting) (r : Row), r ∈ [Row.poolAlloc, .poolIncref, .poolDecref, .poolFree, .poolQuery] →
     s.d.chosen = some w → s.d.poolOpen (bits w.ask.written 60 56) 26 = false →
     Sys2Proof.Machine.exec (Safety.rowCommand r) s = .next s)
  ∧ (∀ (d : Device) (p : Nat), d.swc.releases = [] → (d.poolReach p 26).swc.chains = d.swc.chains)

/-- The cells taken for a chain are free, distinct and of the buffer, and there are as many as asked for while that many
are free (R286). -/
def Obligations.CellsTakenAreFree : Prop :=
  ∀ (used : List Nat) (slice n : Nat),
    (∀ c ∈ takeCells used slice n, c ∉ used ∧ c < cellCount) ∧ (takeCells used slice n).Nodup
    ∧ (used.length + n ≤ cellCount → (takeCells used slice n).length = n)

/-! ### Writes of the rings, the traffic manager and Barometer -/

/-- ENABLE = 1 of a host ring enables it with its indices and counts at zero and PHASE 1; ENABLE = 0 disables it and
keeps them (R401). ENABLE = 1 of an event, telemetry or sample ring starts it at index 0 with PHASE 1, and event records
at sequence 0 (R331, R362, R376); EXPORT_ENABLE restarts the sequence (R344); LAST_GASP_ENABLE is stored. -/
def Obligations.RingsStartAtZero : Prop :=
  (∀ (s : State) (w : Waiting), Safety.writes s .hostRing w →
     let g := ringNumber w.ask.r.index
     Safety.serves .hostRingEnable s w { code := .ok } (fun e => e.get (Obj.ringEnable g) = w.ask.written
       ∧ (w.ask.written = 1 → (e.ring g).head = 0 ∧ (e.ring g).tail = 0 ∧ (e.ring g).chead = 0 ∧ (e.ring g).ctail = 0
           ∧ (e.ring g).phase = true ∧ (e.ring g).done = 0)
       ∧ (w.ask.written ≠ 1 → e.host = s.d.host) ∧ (∀ j, j ≠ g → e.ring j = s.d.ring j)))
  ∧ (∀ (s : State) (w : Waiting),
     let f := w.ask.r.index - 0xB010
     let v := w.ask.written
     (Safety.writes s .ringEnable w → Safety.serves .ringEnable s w { code := .ok } (fun e =>
       e.get (Obj.erRingEnable f) = v ∧ (v = 1 → e.get (Obj.erRingTail f) = 0 ∧ e.get (Obj.erRingHead f) = 0
         ∧ e.evRing f = { phase := true, seq := 0 })))
     ∧ (Safety.writes s .telemEnable w → Safety.serves .telemEnable s w { code := .ok } (fun e =>
       e.get Obj.telemEnable = v ∧ (v = 1 → e.get Obj.telemTail = 0 ∧ e.get Obj.telemHead = 0 ∧ e.tm.phase = true)))
     ∧ (Safety.writes s .sringEnable w → Safety.serves .sringEnable s w { code := .ok } (fun e =>
       e.get Obj.sringEnable = v ∧ (v = 1 → e.get Obj.sringTail = 0 ∧ e.get Obj.sringHead = 0 ∧ e.ev.sringPhase = true)))
     ∧ (Safety.writes s .exportEnable w → Safety.serves .exportEnable s w { code := .ok } (fun e =>
       e.get Obj.exportEnable = v ∧ (v = 1 → s.d.get Obj.exportEnable = 0 → e.get Obj.exportSequence = 0)
       ∧ (v ≠ 1 → e.get Obj.exportSequence = s.d.get Obj.exportSequence)))
     ∧ (Safety.writes s .lastGaspEnable w → Safety.serves .lastGaspEnable s w { code := .ok } (fun e =>
       e.get w.ask.key = v ∧ (Safety.byMailbox w → Safety.onlyObjects [w.ask.key] s.d e))))

/-- INT_ACK = 1 clears INT_STATUS and raises INT_N (R365); QMAX_CLEAR zeroes the maxima of its queues and no other byte of the
queue status (R327); COUNTER_MARK empties the counter-change log and clears LOG_OVERFLOW; a read of OVERFLOW returns its bits
and clears them (R369); SNAPSHOT copies the counters of its bank (R370). An accepted RAIL_REPORT moves STATIC_MW by the error over 2^CAL_SHIFT,
truncated toward zero and kept between 0 and 640,000, stores the error and counts the report; one out of range is
answered RANGE and counted in CAL_REJECTS (R340, R341). -/
def Obligations.CountersAndReportsAreServed : Prop :=
  (∀ (s : State) (w : Waiting), Safety.byMailbox w →
     (Safety.writes s .intAck w → w.ask.written = 1 → Safety.serves .intAck s w { code := .ok } (fun e =>
       e.get Obj.evIntStatus = 0 ∧ e.sys = { s.d.sys with intN := true } ∧ Safety.onlyObjects [Obj.evIntStatus] s.d e))
     ∧ (Safety.writes s .qmaxClear w → Safety.serves .qmaxClear s w { code := .ok } (fun e =>
       ∀ q i, q < 65536 → i < 32 → e.memByte Obj.domQueueStatus (32 * q + i) =
         if w.ask.written / 65536 ≤ q ∧ q ≤ w.ask.written % 65536 ∧ 8 ≤ i ∧ i < 16 then 0
         else s.d.memByte Obj.domQueueStatus (32 * q + i)))
     ∧ (Safety.writes s .counterMark w → Safety.serves .counterMark s w { code := .ok } (fun e =>
       e.ev.logged = [] ∧ e.get Obj.logOverflow = 0 ∧ Safety.onlyObjects [Obj.logOverflow] s.d e))
     ∧ (let b := Obj.bankOverflow (w.ask.r.index - 0xB100)
       Safety.passes s .overflowRead w →
       Safety.serves .overflowRead s w { code := .ok, payload := beBytes 64 (s.d.get b) } (fun e =>
         e.get b = 0 ∧ Safety.onlyObjects [b] s.d e))
     ∧ (let b := w.ask.r.index - 0xB100
       Safety.writes s .snapshot w → (s.d.take w).ev.counters.sorted = true →
       Safety.serves .snapshot s w { code := .ok } (fun e => (∀ n, n < 512 →
         e.ev.snaps.getD (fun _ => 0) (b * 512 + n) = (s.d.take w).ev.counters.getD (fun _ => 0) (b * 512 + n))
         ∧ e.ev.counters = (s.d.take w).ev.counters)))
  ∧ (∀ (s : State) (w : Waiting), Safety.passes s .railReport w → Safety.byMailbox w →
     let b := w.ask.r.payload
     let err : Int := (beAt b 16 4 : Int) - s.d.modelledMw (beAt b 0 8) (beAt b 8 8)
     (s.d.railBad b = false → Safety.serves .railReport s w { code := .ok } (fun e =>
       (e.get Obj.staticMw : Int)
           = min 640000 (max 0 ((s.d.get Obj.staticMw : Int) + Int.tdiv err (2 ^ s.d.get Obj.calShift)))
       ∧ e.get Obj.lastErrorMw = ofInt 32 err
       ∧ e.get Obj.calReports = wrapAdd (objWidth Obj.calReports) (s.d.get Obj.calReports) 1
       ∧ Safety.onlyObjects [Obj.staticMw, Obj.lastErrorMw, Obj.calReports] s.d e))
     ∧ (s.d.railBad b = true → Safety.serves .railReport s w { code := .range } (fun e =>
       e.get Obj.calRejects = wrapAdd (objWidth Obj.calRejects) (s.d.get Obj.calRejects) 1
       ∧ Safety.onlyObjects [Obj.calRejects] s.d e)))

/-! ### Fuses, measurements and quotes -/

/-- A burn that the checks allow starts with its rows to go: an owner key's hash, an owner slot's revoke marker, the
markers of a rollback advance, or the lifecycle's marker; BURN_STATUS reads BURNING, the answer is PENDING, and no fuse
has changed yet (R381, R383 to R385). A burn is refused while SUPPLY_STABLE is 0: STATE, with BURN_STATUS REFUSED_SUPPLY
and no burn started (R381). The end of a row's burn puts what reads back into that row, if it is BLANK, and no other row
changes; the last row ends the burn as DONE where the row is VALID and the burn was not cut short, as TORN where it is
INVALID (R381, R382). What reads back is an operand, and how a burn that is cut ends is the model's reading (log entries
3 and 34). -/
def Obligations.BurnsStartAndEnd : Prop :=
  (∀ (s : State) (w : Waiting), w.src = .mailbox 0 → s.d.burnState = true → s.d.get Obj.supplyStable ≠ 0 →
     s.d.sec.burn = none →
     let n := w.ask.r.index - 0xC010
     let v := w.ask.written
     let burning := fun (b : Burn) (e : Device) => e.sec.burn = some b ∧ e.sec.burnCut = false
       ∧ e.get Obj.burnStatus = bsBURNING ∧ Safety.onlyObjects [Obj.burnStatus] s.d e
     (Safety.passes s .ownerKeyHash w → s.d.get Obj.lifecycle < 2 → ownerWritten s.fuses n = false → ownerRows n v ≠ [] →
       Safety.serves .ownerKeyHash s w { code := .pending } (burning ⟨.ownerKey n, ownerRows n v⟩))
     ∧ (Safety.passes s .ownerRevoke w → v = 1 → s.d.get Obj.lifecycle = 0 → ownerRevoked s.fuses n = false →
       Safety.serves .ownerRevoke s w { code := .pending } (burning ⟨.ownerRevoke n, [(52 + n, markerWord)]⟩))
     ∧ (Safety.passes s .lifecycleAdvance w → v = 2 → s.d.get Obj.lifecycle = 1 →
       Safety.serves .lifecycleAdvance s w { code := .pending } (burning ⟨.lifecycle 2, [(129, markerWord)]⟩))
     ∧ (let rows := (((List.range 64).filter (fun i => fuseRow s.fuses (64 + i) == 0)).take (v - fuseRollback s.fuses)).map
           (fun i => (64 + i, markerWord))
       Safety.passes s .rollbackAdvance w → fuseRollback s.fuses < v → v ≤ s.d.get Obj.bundleSvn → rows ≠ [] →
       Safety.serves .rollbackAdvance s w { code := .pending } (burning ⟨.rollback v, rows⟩)))
  ∧ (∀ (s : State) (w : Waiting), w.src = .mailbox 0 → s.d.burnState = true → s.d.get Obj.supplyStable = 0 →
     Safety.passes s .ownerRevoke w → w.ask.written = 1 → s.d.get Obj.lifecycle = 0 →
     ownerRevoked s.fuses (w.ask.r.index - 0xC010) = false →
     Safety.serves .ownerRevoke s w { code := .state } (fun e =>
       e.sec = s.d.sec ∧ e.get Obj.burnStatus = bsREFUSED ∧ Safety.onlyObjects [Obj.burnStatus] s.d e))
  ∧ (∀ (s : State) (x : BitVec 64) (b : Burn) (row word : Nat) (rest : List (Nat × Nat)), s.d.sec.burn = some b →
     b.rows = (row, word) :: rest → x ≠ 0 →
     Safety.answers (.fuseRowBurnDone x) s (fun t =>
       (∀ r, r ≠ row → fuseRow t.fuses r = fuseRow s.fuses r)
       ∧ fuseRow t.fuses row = (if fuseRow s.fuses row = 0 then x.toNat else fuseRow s.fuses row)
       ∧ (rest ≠ [] → s.d.sec.burnCut = false → rowState t.fuses row ≠ 2 → t.d.sec.burn = some { b with rows := rest })
       ∧ (rest = [] → s.d.sec.burnCut = false → rowState t.fuses row ≠ 2 →
           t.d.sec.burn = none ∧ t.d.get Obj.burnStatus = bsDONE)
       ∧ (s.d.sec.burnCut = false → rowState t.fuses row = 2 → t.d.sec.burn = none ∧ t.d.get Obj.burnStatus = bsTORN)))

/-- MR_EXTEND replaces one of MR10 to MR15 by the SHA-256 of itself and the digest, and no other register changes
(R390); QUOTE_REQUEST of a device quote by a master 4096 to 4143 with no quote running, and fewer than four in all, starts one
with its request and the GENERATION of the moment and is answered PENDING (R392). A running quote whose GENERATION still holds
ends with status 2 and event 804: its request stands, and its bytes are the text of Table 14-14 and its signature by the alias
key, whose randomness is free (log entry 2). One that a flip has overtaken is made again at the new GENERATION, and at the
fourth such attempt ends with status 3 and event 804 (R394). That the text is made, and GENERATION compared, as the quote is done
is the model's reading (log entry 34). -/
def Obligations.MeasurementsAndQuotes : Prop :=
  (∀ (s : State) (w : Waiting), Safety.byMailbox w →
     let b := w.ask.r.payload
     let i := byteAt b 0
     (Safety.passes s .mrExtend w → 10 ≤ i → i ≤ 15 → Safety.serves .mrExtend s w { code := .ok } (fun e =>
       e.get (Obj.mr0 i) = beNat (sha256 (beBytes 32 (s.d.get (Obj.mr0 i)) ++ slice b 1 32))
       ∧ Safety.onlyObjects [Obj.mr0 i] s.d e))
     ∧ (Safety.passes s .quoteRequest w → s.d.quoteState = true → beAt b 32 2 = 0xFFFF → beAt b 34 6 = 0 →
       (s.d.quote w.src.master).status ≠ 1 → (s.d.sec.quotes.filter (fun e => e.2.status == 1)).length < 4 →
       w.src.master < 4144 →
       Safety.serves .quoteRequest s w { code := .pending } (fun e => (e.quote w.src.master).status = 1
         ∧ (e.quote w.src.master).request = b ∧ (e.quote w.src.master).gen = s.d.get Obj.generation ∧ e.dict = s.d.dict)))
  ∧ (∀ (m : Nat) (s : State), (s.d.quote m).status = 1 → s.d.quoteState = true →
     let q := s.d.quote m
     let g := s.d.get Obj.generation
     let text := s.d.quoteText s.fuses q.request
     (q.gen = g → ∃ rnd : Bytes, rnd.length = 16 ∧ Safety.answers (.quoteDone m) s (fun t => t.fuses = s.fuses
       ∧ t.d.quote m = { q with status := 2, body := text ++ slh128f.sign s.d.sec.aliasSeed rnd text }
       ∧ Safety.reports t.d islMGT 804 m ∧ t.d.dict = s.d.dict ∧ ∀ n, n ≠ m → t.d.quote n = s.d.quote n))
     ∧ (q.gen ≠ g → q.tries < 3 → Sys2Proof.Machine.exec (.quoteDone m) s =
         .next { s with d := s.d.setQuote m { q with gen := g, tries := q.tries + 1 } })
     ∧ (q.gen ≠ g → 3 ≤ q.tries → Sys2Proof.Machine.exec (.quoteDone m) s =
         .next { s with d := (s.d.setQuote m { q with status := 3, tries := 4 }).fire islMGT 804 m }))

/-! ### Start-up, states and resets -/

/-- STATE_REQUEST moves the device as Table 16-2 says: TEST, SERVICE and RECOVERY to INIT; INIT to SERVICE, or to
RECOVERY while a cause stands; INIT to TEST; and any of the four to HALT (R419). -/
def Obligations.StateRequestsMoveTheDevice : Prop :=
  ∀ (s : State) (w : Waiting), w.src = .mailbox 0 →
    let st := s.d.devState
    (Safety.passes s .stateInit w → st = stTEST ∨ st = stSERVICE ∨ st = stRECOVERY →
      Safety.serves .stateRequestInit s w { code := .ok } (fun e => e.devState = stINIT ∧ e.get Obj.stateEntered = s.d.now
        ∧ Safety.onlyObjects [Obj.deviceState, Obj.stateEntered, Obj.recoveryCause] s.d e))
    ∧ (Safety.passes s .stateService w → st = stINIT →
      Safety.serves .stateRequestService s w { code := .ok } (fun e =>
        e.devState = (if s.d.recoveryNow = 0 then stSERVICE else stRECOVERY)))
    ∧ (Safety.passes s .stateTest w → st = stINIT →
      Safety.serves .stateRequestTest s w { code := .ok } (fun e => e.devState = stTEST))
    ∧ (Safety.passes s .stateHalt w → s.d.dataRuns = true →
      Safety.serves .stateRequestHalt s w { code := .ok } (fun e => e.devState = stHALT))

/-- A write of WARM_RESET is answered OK and schedules the reset; its entry resets the device to BOOT with RESET_CAUSE
3, keeping the timestamp counter, the PCIe link and the SMBus address, and clearing every staged value, frame and
session (R421). What the reset keeps beside Table 16-5 is the model's reading (log entry 36). WARM_RST_N makes a warm
reset with RESET_CAUSE 2 and holds the device in RESET until it rises; then, with POR_N high and no TEST_MODE, the
device scans its fuses and enters BOOT (R418, R421). POR_N falling is a cold reset: RESET, the timestamp counter at 0,
every object but DEVICE_STATE and VCORE_LOW at its default; and POR_N rising samples TEST_MODE and the SMBus address at time 0
and, with WARM_RST_N high and no TEST_MODE, scans the fuses and enters BOOT (R414, R418, R449, R451). A warm or cold reset discards every shadow copy,
whatever the device was doing (R62). A management restart holds the service with event 33 and, when it ends, lets it go
on: a COMMIT it interrupted is answered with the GENERATION, or waits again where its front is still in PREPARE; a second
mismatch within 1 s makes a warm reset with RESET_CAUSE 4 (R437, R438). What the restart holds is the
model's reading (log entry 38). -/
def Obligations.ResetsRun : Prop :=
  ((∀ (s : State) (w : Waiting), Safety.passes s .warmReset w → w.src = .mailbox 0 → w.ask.written = 1 →
     Safety.serves .warmReset s w { code := .ok } (fun e => e.sys = { s.d.sys with warmDue := true } ∧ e.dict = s.d.dict))
   ∧ (∀ s : State, s.d.sys.warmDue = true → s.d.devState ≠ stRESET → s.d.sys.warmRstN = true → s.d.sys.thermtripN = true →
     s.d.sec.burn = none →
     Safety.answers .warmResetEntry s (fun t => t.fuses = s.fuses ∧ t.d.devState = stBOOT ∧ t.d.get Obj.resetCause = 3
       ∧ t.d.now = s.d.now ∧ t.d.host.inL0 = s.d.host.inL0 ∧ t.d.sys.smbAddr = s.d.sys.smbAddr ∧ t.d.pkt = {}
       ∧ t.d.svc.sessions = [] ∧ Safety.nothingStaged t.d ∧ t.d.dict.mem = []
       ∧ t.d.sec.scan = s.fuses ∧ t.d.get Obj.hostLinkRate = s.d.get Obj.hostLinkRate)))
  ∧ ((∀ s : State, s.d.devState ≠ stRESET → s.d.sec.burn = none →
     Safety.answers .warmRstN s (fun t => t.fuses = s.fuses ∧ t.d.devState = stRESET ∧ t.d.get Obj.resetCause = 2
       ∧ t.d.sys.warmRstN = false ∧ t.d.now = s.d.now ∧ t.d.pkt = {} ∧ Safety.nothingStaged t.d))
   ∧ (∀ s : State, s.d.sys.warmRstN = false → s.d.devState = stRESET → s.d.sys.porN = true → s.d.sys.testMode = false →
     s.d.sys.thermtripN = true →
     Safety.answers .warmRstNRise s (fun t => t.fuses = s.fuses ∧ t.d.devState = stBOOT ∧ t.d.sec.scan = s.fuses
       ∧ t.d.get Obj.bootPhase = (if fusesBootable s.fuses then bpWAIT else bpFUSEFAULT)
       ∧ t.d.get Obj.lifecycle = fuseLifecycle s.fuses ∧ t.d.sys.warmRstN = true)))
  ∧ ((∀ s : State, s.d.sec.burn = none →
     Safety.answers .porNLow s (fun t => t.fuses = s.fuses ∧ t.d.devState = stRESET ∧ t.d.now = 0 ∧ t.d.sys.porN = false
       ∧ t.d.sys.thermtripN = true ∧ t.d.pkt = {} ∧ t.d.svc = {}
       ∧ (∀ k, k ≠ Obj.deviceState → k ≠ Obj.vcoreLow → t.d.get k = objDefault k) ∧ Safety.nothingStaged t.d))
   ∧ (∀ (s : State) (a : Fin 4), s.d.sys.porN = false → s.d.sys.warmRstN = true → s.d.sys.thermtripN = true →
     Safety.answers (.porNRise false a) s (fun t => t.fuses = s.fuses ∧ t.d.devState = stBOOT ∧ t.d.now = 0
       ∧ t.d.sys.porN = true ∧ t.d.sys.smbAddr = a.val ∧ t.d.sec.scan = s.fuses
       ∧ t.d.get Obj.bootPhase = (if fusesBootable s.fuses then bpWAIT else bpFUSEFAULT)))
   ∧ (∀ (s : State) (test : Bool) (a : Fin 4), s.d.sys.porN = false →
     Safety.answers (.porNRise test a) s (fun t => t.fuses = s.fuses ∧ t.d.now = 0 ∧ t.d.sys.porN = true
       ∧ t.d.sys.testMode = test ∧ t.d.sys.smbAddr = a.val ∧ (test = true → t.d.devState = s.d.devState))))
  ∧ ((∀ s : State, Safety.answers .porNLow s (fun t => Safety.nothingStaged t.d))
   ∧ (∀ s : State, s.d.devState ≠ stRESET →
     Safety.answers .warmRstN s (fun t => Safety.nothingStaged t.d)
     ∧ (s.d.sys.warmDue = true → Safety.answers .warmResetEntry s (fun t => Safety.nothingStaged t.d))
     ∧ (∀ t0, s.d.sys.lastRestart = some t0 → s.d.now < t0 + 1000000000 →
       Safety.answers .mgtCoreRestart s (fun t => Safety.nothingStaged t.d ∧ t.d.get Obj.resetCause = 4))))
  ∧ ((∀ s : State, s.d.devState ≠ stRESET → (∀ t0, s.d.sys.lastRestart = some t0 → t0 + 1000000000 ≤ s.d.now) →
     let y : Sys := { s.d.sys with restarting := true, lastRestart := some s.d.now, restartRequest := s.d.svc.committing }
     let e : Device := { s.d with sys := y, svc := { s.d.svc with committing := none } }
     Sys2Proof.Machine.exec .mgtCoreRestart s = .next { s with d := e.fire islMGT 33 0 })
   ∧ (∀ (s : State) (t0 : Nat), s.d.devState ≠ stRESET → s.d.sys.lastRestart = some t0 → s.d.now < t0 + 1000000000 →
     s.d.sys.warmRstN = true → s.d.sys.thermtripN = true → s.d.sec.burn = none →
     Safety.answers .mgtCoreRestart s (fun t => t.d.devState = stBOOT ∧ t.d.get Obj.resetCause = 4 ∧ t.fuses = s.fuses
       ∧ Safety.nothingStaged t.d))
   ∧ (∀ s : State, s.d.sys.restarting = true → s.d.sys.restartRequest = none →
     Sys2Proof.Machine.exec .mgtRestartDone s = .next { s with d := { s.d with sys := { s.d.sys with
       restarting := false, restartRequest := none } } })
   ∧ (∀ (s : State) (w : Waiting), s.d.sys.restarting = true → s.d.sys.restartRequest = some w → s.d.get Obj.frontPhase ≠ 1 →
     Safety.answers .mgtRestartDone s (fun t => t.d.sys.restarting = false
       ∧ Safety.answered t.d w { code := .ok, payload := beBytes 8 (s.d.get Obj.generation) }))
   ∧ (∀ (s : State) (w : Waiting), s.d.sys.restarting = true → s.d.sys.restartRequest = some w → s.d.get Obj.frontPhase = 1 →
     Safety.answers .mgtRestartDone s (fun t => t.d.sys.restarting = false ∧ t.d.svc.committing = some w)))

/-- Power fail and THERMTRIP_N, in every state but RESET and HALT, take the device to HALT with every link OFF: the first sets
PFAIL_ACCEPTED, clears SUPPLY_STABLE and fires event 940, the second sets TRIP_LATCHED, fires event 942 and puts the HBM stacks
in self-refresh; in RESET and HALT the device's state stands, and of the two only the pins and SUPPLY_STABLE move. A glitch is
counted; SUPPLY_STABLE rises where every junction is in range, and its fall cuts a burn after its row (R381, R382, R428, R435).
Sensors are read as given: with every junction in range nothing else changes, with one out of range SUPPLY_STABLE is 0, and
above 105 °C event 35 names the hottest island, the lowest of equals; each millisecond THERMAL_K falls by one from 100 °C, not
below 4, rises by one to 97 °C, not above 16, and holds between (R432 to R434). VCORE_LOW follows the supply: its rise fires
event 36 and takes every island but MGT, whose clock may change now, to the lowest of its settings and 12 (R436, R446). That the
pins alone move in RESET and HALT, and what PFAIL_N does to SUPPLY_STABLE, is log entry 36; how clocks change, and that event 35
names the lowest of equally hot islands, log entry 37. -/
def Obligations.SuppliesAndHeatAreFollowed : Prop :=
  ((∀ s : State, s.d.devState ≠ stRESET → s.d.devState ≠ stHALT →
     Safety.answers .pfailAsserted s (fun t => t.fuses = s.fuses ∧ t.d.devState = stHALT ∧ t.d.get Obj.pfailAccepted = 1
       ∧ t.d.get Obj.supplyStable = 0 ∧ t.d.sys.pfailN = false ∧ (∀ p, p < 128 → t.d.link p = lkOFF)
       ∧ Safety.reports t.d islMGT 940 0))
   ∧ (∀ s : State, s.d.devState = stRESET ∨ s.d.devState = stHALT →
     Safety.answers .pfailAsserted s (fun t => t.d.devState = s.d.devState ∧ t.d.sys = { s.d.sys with pfailN := false }
       ∧ t.d.get Obj.supplyStable = 0 ∧ Safety.onlyObjects [Obj.supplyStable] s.d t.d ∧ t.d.out = s.d.out))
   ∧ (∀ (s : State) (i : Fin 25), s.d.sys.porN = true → s.d.devState ≠ stRESET → s.d.devState ≠ stHALT →
     Safety.answers (.thermtrip i) s (fun t => t.fuses = s.fuses ∧ t.d.devState = stHALT ∧ t.d.get Obj.tripLatched = 1
       ∧ (∀ p, p < 128 → t.d.link p = lkOFF) ∧ Safety.reports t.d islMGT 942 0
       ∧ t.d.sys = { s.d.sys with thermtripN := false, hbmSelfRefresh := true }))
   ∧ (∀ (s : State) (i : Fin 25), s.d.sys.porN = true → s.d.devState = stRESET ∨ s.d.devState = stHALT →
     Sys2Proof.Machine.exec (.thermtrip i) s =
       .next { s with d := { s.d with sys := { s.d.sys with thermtripN := false } } })
   ∧ (∀ s : State, s.d.devState ≠ stRESET →
     Sys2Proof.Machine.exec .pfailGlitch s = .next { s with d := s.d.bump Obj.pfailGlitches })
   ∧ (∀ s : State, Safety.answers .supplyStableRise s (fun t => t.fuses = s.fuses
       ∧ t.d = { s.d with dict := t.d.dict, sys := { s.d.sys with pfailN := true } }
       ∧ Safety.onlyObjects [Obj.supplyStable] s.d t.d
       ∧ t.d.get Obj.supplyStable = (if s.d.junctionInRange then 1 else s.d.get Obj.supplyStable)))
   ∧ (∀ s : State, Safety.answers .supplyStableFall s (fun t => t.fuses = s.fuses ∧ t.d.get Obj.supplyStable = 0
       ∧ t.d.sec = { s.d.sec with burnCut := s.d.sec.burn.isSome } ∧ Safety.onlyObjects [Obj.supplyStable] s.d t.d)))
  ∧ ((∀ (s : State) (xs : List Int), s.d.devState ≠ stRESET → xs.length = 25 →
     Safety.answers (.sensorRead xs) s (fun t => t.fuses = s.fuses ∧ t.d.sys = { s.d.sys with temps := xs }
       ∧ Safety.onlyObjects [Obj.supplyStable] s.d t.d
       ∧ ((∀ x ∈ xs, 0 ≤ x ∧ x ≤ 105000) → t.d = { s.d with sys := { s.d.sys with temps := xs } })
       ∧ ((∃ x ∈ xs, x < 0 ∨ 105000 < x) → t.d.get Obj.supplyStable = 0)
       ∧ (∀ i : Fin 25, (∀ j : Fin 25, xs.getD j 0 ≤ xs.getD i 0) → (∀ j : Fin 25, j < i → xs.getD j 0 < xs.getD i 0) →
           105000 < xs.getD i 0 → Safety.reports t.d islMGT 35 (i.val + ofInt 32 (xs.getD i 0) * 2 ^ 32))))
   ∧ (∀ s : State, s.d.devState ≠ stRESET → s.d.sys.lastThermal + 1000000 ≤ s.d.now →
     Safety.answers .thermalThrottle s (fun t => t.d.sys.lastThermal = s.d.now
       ∧ t.d.get Obj.thermalK = (if 100000 ≤ s.d.tempMax then max 4 (s.d.get Obj.thermalK - 1)
           else if s.d.tempMax ≤ 97000 then min 16 (s.d.get Obj.thermalK + 1) else s.d.get Obj.thermalK)))
   ∧ (∀ s : State, s.d.get Obj.vcoreLow ≠ 1 → Safety.answers .vcoreLow s (fun t => t.fuses = s.fuses
       ∧ t.d.get Obj.vcoreLow = 1 ∧ Safety.reports t.d islMGT 36 0 ∧ Safety.onlyObjects [Obj.vcoreLow] s.d t.d
       ∧ ∀ i, i < 24 → s.d.clockStuck i = false → s.d.clockFree i = true →
           t.d.clockK i = min (s.d.baroK i) (min (s.d.get Obj.thermalK) 12)))
   ∧ (∀ s : State, Safety.answers .vcoreLowCleared s (fun t => t.fuses = s.fuses ∧ t.d.get Obj.vcoreLow = 0
       ∧ Safety.onlyObjects [Obj.vcoreLow] s.d t.d
       ∧ ∀ i, i < 24 → s.d.clockStuck i = false → s.d.clockFree i = true →
           t.d.clockK i = min (s.d.baroK i) (min (s.d.get Obj.thermalK) 16))))

/-! ### Temperature, pins and the test port -/

/-- An edge on PPS_IN is captured, counted and reported with event 37, unless it comes within 500 ms of the last accepted one,
which is counted as a reject; PPS_OUT goes high for 100 µs when the time of day has just crossed a second, once a second (R450).
In every state but RESET the SMBus slave at 0x5C + 2 ADDR1 + ADDR0 answers a read of each command of Table 17-6 with its value, low
byte first and with a packet error code behind it, and refuses a write or a reserved code, and nothing else changes; in RESET it does
not answer; a temperature that is a whole number of sixteenths of a degree is answered exactly (R451), and one between two as
one of the two (log entry 1); the packet error code is that of log entry 57. While TRST_N is high: IDCODE shifts out 0x1128_0B9B;
BYPASS shifts out the 0 it captures and takes TDI; the boundary-scan instructions take what is scanned in and shift out a free
value (log entry 1); in EXTEST the latches drive the low-speed pins, and EXTEST_PULSE and EXTEST_TRAIN drive the lanes from them
(log entry 57); and a debug instruction acts as BYPASS in OPERATIONAL, as the fuses were last scanned and in RESET as they stand
(log entry 37), and shifts out a free value otherwise. TRST_N selects IDCODE and holds the TAP
(R447, R452): whether it has risen by the next test command is a free value, and where it has not, that command does nothing (log
entry 57). -/
def Obligations.PinsAndPortsAnswer : Prop :=
  ((∀ s : State, s.d.devState ≠ stRESET → (∀ a, s.d.sys.ppsInAt = some a → a + 500000000 ≤ s.d.now) →
     Safety.answers .ppsInEdge s (fun t => t.d.sys = { s.d.sys with ppsInAt := some s.d.now }
       ∧ t.d.get Obj.ppsInCapture = s.d.now ∧ Safety.reports t.d islMGT 37 s.d.now
       ∧ t.d.get Obj.ppsInCount = wrapAdd (objWidth Obj.ppsInCount) (s.d.get Obj.ppsInCount) 1
       ∧ Safety.onlyObjects [Obj.ppsInCapture, Obj.ppsInCount] s.d t.d))
   ∧ (∀ (s : State) (a : Nat), s.d.devState ≠ stRESET → s.d.sys.ppsInAt = some a → s.d.now < a + 500000000 →
     Sys2Proof.Machine.exec .ppsInEdge s = .next { s with d := s.d.bump Obj.ppsInRejects })
   ∧ (∀ s : State, s.d.devState ≠ stRESET → s.d.get Obj.ppsOutEnable = 1 → s.d.secondCrossed = true →
     let t : State := { s with d := { s.d with sys := { s.d.sys with
       ppsOut := true, ppsOutUntil := s.d.now + 100000, ppsSecond := some (s.d.now - s.d.pastSecond) } } }
     Sys2Proof.Machine.exec .ppsOutPulse s = .next t ∧ Sys2Proof.Machine.exec .ppsOutPulse t = .next t))
  ∧ (∀ s : State, s.d.devState ≠ stRESET →
     let a := 0x5C + s.d.sys.smbAddr
     let reads := fun (c : Instr) (code : Nat) (data : Bytes) => Sys2Proof.Machine.exec c s = .next { s with d := { s.d with
       out := s.d.out ++ [.smbus a code data (smbusPec a code data)] } }
     reads .smbusDeviceState 0 (leBytes 1 s.d.devState)
     ∧ reads .smbusRecoveryCause 1 (leBytes 1 (s.d.get Obj.recoveryCause))
     ∧ reads .smbusThermalK 2 (leBytes 1 (s.d.get Obj.thermalK))
     ∧ (∀ n : Int, 16 * s.d.tempMax = 1000 * n → reads .smbusTempMax 3 (leBytes 2 (ofInt 16 n)))
     ∧ reads .smbusFlags 4 (leBytes 1 (s.d.get Obj.pfailAccepted + 2 * s.d.get Obj.tripLatched + 4 * s.d.get Obj.vcoreLow
         + 8 * s.d.get Obj.supplyStable))
     ∧ (∀ v, fuseVcore s.d.sec.scan = some v → reads .smbusVcoreRequired 5 (leBytes 2 v))
     ∧ reads .smbusDevicePower 6 (leBytes 2 (s.d.get Obj.baroDevicePowerMw / 1000))
     ∧ (∀ (code : Fin 256) (i : Fin 25) (n : Int), code.val = 0x10 + i → 16 * s.d.temp i = 1000 * n →
         reads (.smbusIslandTemp ⟨code, false⟩) code (leBytes 2 (ofInt 16 n))))
  ∧ (∀ s : State, s.d.devState ≠ stRESET →
     let a := 0x5C + s.d.sys.smbAddr
     let near := fun (c : Instr) (code : Nat) (x : Int) => ∃ v, (v = ofInt 16 (2 * x / 125) ∨ v = ofInt 16 (2 * x / 125 + 1))
       ∧ Safety.answers c s (fun t => t.d.dict = s.d.dict ∧ t.d.sys = s.d.sys ∧ t.d.out = s.d.out
           ++ [.smbus a code (leBytes 2 v) (smbusPec a code (leBytes 2 v))])
     near .smbusTempMax 3 s.d.tempMax
     ∧ (∀ (code : Fin 256) (i : Fin 25), code.val = 0x10 + i → near (.smbusIslandTemp ⟨code, false⟩) code (s.d.temp i))
     ∧ (∀ x : Sys2Proof.SmbusCall, (x.write = true ∨ 7 ≤ x.code.val ∧ (x.code.val < 0x10 ∨ 0x28 < x.code.val)) →
         Sys2Proof.Machine.exec (.smbusIslandTemp x) s =
           .next { s with d := { s.d with out := s.d.out ++ [.smbusNack a x.code] } }))
  ∧ (∀ (s : State) (c : Instr), s.d.devState = stRESET →
     c ∈ [.smbusDeviceState, .smbusRecoveryCause, .smbusThermalK, .smbusTempMax, .smbusFlags, .smbusVcoreRequired,
          .smbusDevicePower] ∨ (∃ x, c = .smbusIslandTemp x) →
     Sys2Proof.Machine.exec c s = .next s)
  ∧ (∀ s : State, s.d.sys.trstN = true →
     let scans := fun (c : Instr) (ir n : Nat) (more : List Output) => ∃ x, Sys2Proof.Machine.exec c s = .next { s with d := { s.d with
       sys := { s.d.sys with jtagIr := ir, bscan := n }, free := s.d.free + 1, out := s.d.out ++ .tdo x :: more } }
     let passes := fun (c : Instr) (b : Bool) => Sys2Proof.Machine.exec c s = .next { s with d := { s.d with
       sys := { s.d.sys with jtagIr := 0, bypass := b }, out := s.d.out ++ [.tdo 0] } }
     Sys2Proof.Machine.exec .jtagIdcode s = .next { s with d := { s.d with
       sys := { s.d.sys with jtagIr := 1 }, out := s.d.out ++ [.tdo 0x11280B9B] } }
     ∧ (∀ b, passes (.jtagBypass b) b)
     ∧ (∀ n, scans (.jtagSamplePreload n) 2 n [] ∧ scans (.jtagExtest n) 3 n [] ∧ scans (.jtagExtestPulse n) 4 n [.lanes false n]
         ∧ scans (.jtagExtestTrain n) 5 n [.lanes true n])
     ∧ (∀ b, fuseLifecycle (if s.d.devState = stRESET then s.fuses else s.d.sec.scan) = 2 → passes (.jtagDebug b) b)
     ∧ (∀ b, fuseLifecycle (if s.d.devState = stRESET then s.fuses else s.d.sec.scan) ≠ 2 → ∃ x,
       Sys2Proof.Machine.exec (.jtagDebug b) s = .next { s with d := { s.d with
         sys := { s.d.sys with jtagIr := 6 }, free := s.d.free + 1, out := s.d.out ++ [.tdo x] } }))
  ∧ (∀ d : Device, 3 ≤ d.sys.jtagIr → d.sys.jtagIr ≤ 5 →
     let latch := fun x => d.sys.bscan.testBit (Config.scanCell x)
     d.pinIntN = latch .intN ∧ d.pinThermtripN = latch .thermtripN ∧ d.pinPpsOut = latch .ppsOut
     ∧ ∀ n, n < 16 → d.gpioDriven.testBit n = latch (.gpioDrive n) ∧ d.gpioLevel.testBit n = latch (.gpio n))
  ∧ (∀ s : State, Sys2Proof.Machine.exec .trstNLow s =
       .next { s with d := { s.d with sys := { s.d.sys with jtagIr := 1, trstN := false } } })
  ∧ (∀ (s : State) (b : Bool) (n : Nat), s.d.sys.trstN = false →
     ∀ c ∈ [Instr.jtagIdcode, .jtagBypass b, .jtagSamplePreload n, .jtagExtest n, .jtagExtestPulse n, .jtagExtestTrain n,
            .jtagDebug b],
       Sys2Proof.Machine.exec c s = .next { s with d := { s.d with free := s.d.free + 1 } }
       ∨ Sys2Proof.Machine.exec c s
         = Sys2Proof.Machine.exec c { s with d := { s.d with free := s.d.free + 1, sys := { s.d.sys with trstN := true } } })

/-! ### Requests that arrive -/

/-- A host's write of words to a mailbox's request buffer is stored there, and GO queues that buffer and makes the mailbox BUSY;
while it is BUSY, or while the management cores restart, GO and each word are ignored and counted in MISUSE (R73, R74, R437).
The first frame at port 131, of an ACTIVE tenant with no request in the service and a token in the bucket, becomes a waiting
in-band request and takes its token (R76, R77). -/
def Obligations.RequestsAreQueued : Prop :=
  (∀ (fn : Fin 32) (w : Bytes) (s : State), s.d.fnReached fn = true → w.length = 4 → bit (leAt w 0 4) 0 = true →
     let m := s.d.mailbox fn
     let irq := bit (leAt w 0 4) 8
     (m.state ≠ 1 → s.d.sys.restarting = false →
       Safety.answers (.mailboxGo fn 0 w) s (fun t => t.fuses = s.fuses
       ∧ t.d.svc.waiting = s.d.svc.waiting ++ [{ src := .mailbox fn, msg := fit 4096 m.request }]
       ∧ t.d.mailbox fn = { m with state := 1, irqEn := irq } ∧ (∀ n, n ≠ fn.val → t.d.mailbox n = s.d.mailbox n)
       ∧ t.d.dict = s.d.dict))
     ∧ (m.state = 1 ∨ s.d.sys.restarting = true →
       Safety.answers (.mailboxGo fn 0 w) s (fun t => t.fuses = s.fuses ∧ t.d.svc.waiting = s.d.svc.waiting
       ∧ t.d.mailbox fn = { m with irqEn := irq, misuse := satAdd 8 m.misuse 1 }
       ∧ Safety.onlyObjects [Obj.svcMailboxMisuseCount] s.d t.d))
     ∧ (∀ (off : Nat) (b : Bytes), off % 4 = 0 → b.length % 4 = 0 → off + b.length ≤ 4096 →
       (m.state ≠ 1 → s.d.sys.restarting = false →
         Safety.answers (.mailboxGo fn (0x1000 + off) b) s (fun t => t.fuses = s.fuses ∧ t.d.dict = s.d.dict
         ∧ t.d.svc.waiting = s.d.svc.waiting ∧ (t.d.mailbox fn).state = m.state
         ∧ slice (t.d.mailbox fn).request off b.length = b))
       ∧ (m.state = 1 ∨ s.d.sys.restarting = true →
         Safety.answers (.mailboxGo fn (0x1000 + off) b) s (fun t => t.fuses = s.fuses
         ∧ t.d.svc.waiting = s.d.svc.waiting ∧ (t.d.mailbox fn).request = m.request ∧ (t.d.mailbox fn).state = m.state
         ∧ (b.length = 4 → (t.d.mailbox fn).misuse = satAdd 8 m.misuse 1)
         ∧ Safety.onlyObjects [Obj.svcMailboxMisuseCount] s.d t.d))))
  ∧ (∀ (s : State) (i : Nat) (rest : List Nat), (s.d.port 131).tx = i :: rest →
     let c := s.d.copyRec i
     let f := s.d.frame c.frame
     let b := c.out.getD []
     let n := inbandHead f.tag
     s.d.frostState 1 f.tenant = 0 → s.d.netRuns = true → s.d.inbandWaits f.tenant = false → oneRequest ≤ s.d.bucketNow →
     Safety.answers .inbandRequest s (fun t => t.fuses = s.fuses ∧ t.d.svc = { s.d.svc with
       waiting := s.d.svc.waiting ++ [{ src := .inband f.tenant f.origin f.cls (b.take n), msg := b.drop n }]
       bucket := s.d.bucketNow - oneRequest, bucketAt := s.d.now }))

/-- A datagram whose trailer verifies under its session's key is queued when its SEQUENCE is L + 1 and no request of the session
waits; when it is L and the response to L is kept, that response is sent again and nothing is executed; one that repeats L
while it executes, or L + 1 while it waits, is discarded; and any other is counted in SEQUENCE_REJECT_COUNT with event 14 (R75).
A datagram that does not verify is counted in AUTH_FAIL_COUNT with event 13 and queues no request, and one AUTH response a
millisecond answers on its port (R74). A neighbour query for the port's address is answered with its MAC, and nothing else
changes (R75). Which datagrams count as not verified beside those of R75, that a repeat of L + 1 is discarded while that request
waits, and that neighbour queries are answered in every state but RESET, are the model's choices (log entry 21). -/
def Obligations.ManagementPortsAnswer : Prop :=
  (∀ (p : Fin 2) (src n : Nat) (b : Bytes) (s : State), s.d.netRuns = true → s.d.get (Obj.mportMode p) ≠ 0 →
     s.d.get (Obj.mportUdpPort p) ≠ 0 → s.d.verified b = some n →
     let l := s.d.get (Obj.sessionLastSequence n)
     (beAt b 4 4 = l + 1 → s.d.sessionWaits n = false →
       Sys2Proof.Machine.exec (.mgmtDatagram p src b) s = .next { s with d := { s.d with svc := { s.d.svc with
         waiting := s.d.svc.waiting ++ [{ src := .session n p src, msg := b }] } } })
     ∧ (∀ m, beAt b 4 4 = l → l ≠ 0 → (s.d.session n).executing ≠ some l → (s.d.session n).kept = some m →
       Sys2Proof.Machine.exec (.mgmtDatagram p src b) s = .next { s with d := { s.d with
         out := s.d.out ++ [.kaznu p src m] } })
     ∧ (beAt b 4 4 = l → l ≠ 0 → (s.d.session n).executing = some l →
       Sys2Proof.Machine.exec (.mgmtDatagram p src b) s = .next s)
     ∧ (beAt b 4 4 = l + 1 → s.d.sessionWaits n = true → Sys2Proof.Machine.exec (.mgmtDatagram p src b) s = .next s)
     ∧ (beAt b 4 4 ≠ l + 1 → (beAt b 4 4 ≠ l ∨ l = 0 ∨ (s.d.session n).executing ≠ some l ∧ (s.d.session n).kept = none) →
       Sys2Proof.Machine.exec (.mgmtDatagram p src b) s =
         .next { s with d := (s.d.bump Obj.svcSequenceRejectCount).fireOf islMGT 14 n n 0 }))
  ∧ (∀ (p : Fin 2) (src : Nat) (b : Bytes) (s : State), s.d.netRuns = true → s.d.get (Obj.mportMode p) ≠ 0 →
     s.d.get (Obj.mportUdpPort p) ≠ 0 → s.d.verified b = none →
     Safety.answers (.mgmtDatagram p src b) s (fun t => t.fuses = s.fuses ∧ t.d.svc.waiting = s.d.svc.waiting
       ∧ t.d.get Obj.svcAuthFailCount = satAdd (objWidth Obj.svcAuthFailCount) (s.d.get Obj.svcAuthFailCount) 1
       ∧ Safety.onlyObjects [Obj.svcAuthFailCount] s.d t.d ∧ Safety.reports t.d islMGT 13 p
       ∧ ((∀ a, s.d.svc.authAt.find p = some a → a + 1000000 ≤ s.d.now) → t.d.out = s.d.out ++ [.kaznu p src authResponse])
       ∧ (∀ a, s.d.svc.authAt.find p = some a → s.d.now < a + 1000000 → t.d.out = s.d.out)))
  ∧ (∀ (p : Fin 2) (v6 : Bool) (target src : Nat) (s : State), s.d.devState ≠ stRESET → s.d.get (Obj.mportMode p) ≠ 0 →
     target ≠ 0 → s.d.get (if v6 then Obj.mportIpv6 p else Obj.mportIpv4 p) = target →
     Sys2Proof.Machine.exec (.arpNeighbourSolicitation p v6 target src) s = .next { s with d := { s.d with
       out := s.d.out ++ [.neighbour p src target (s.d.get (Obj.mportMac p))] } })

/-- A scrub corrects and counts an upset that two copies resolve, and marks the field of one that none does (R66). The
scrub of a node's record counts a correctable error, and counts an uncorrectable one and names its node; a clean record
changes nothing (R143). The scrub of a cluster's stores counts a correctable error, and leaves an uncorrectable word to the
fetch that meets it, and a cluster that is stopped is not scrubbed (R50, R230). A pass of the ternary scrub rewrites a tile row that differs from the golden copy, counts it and
names it in event 197, and one that is clean, or meets a row as the golden copy has it, counts nothing; with stack 3 failed
there is no pass (R178, R439). The HBM scrub moves on to the next line, counts a correctable error, and counts an uncorrectable
one of a table region, names its region in event 203 and puts the entries of its line in error; one of a golden copy counts
nothing (R191, R192). The 64th uncorrectable error that a stack reports within 1 s is its failure, and a stack that fails its
training is failed from then on (R439). What a scrub meets is an operand (log entry 3). -/
def Obligations.ScrubsReportWhatTheyMeet : Prop :=
  (∀ (s : State) (x : Upset), s.d.devState ≠ stRESET → fieldExists x.field = true →
     (x.resolved = true → Safety.answers (.tmrScrub [x]) s (fun t => t.fuses = s.fuses
       ∧ t.d.get Obj.tmrLastField = x.field ∧ t.d.svc = s.d.svc
       ∧ t.d.get Obj.tmrCorrectedCount = satAdd (objWidth Obj.tmrCorrectedCount) (s.d.get Obj.tmrCorrectedCount) 1))
     ∧ (x.resolved = false → x.field / 2 ^ 24 ≠ 2 → x.field / 2 ^ 24 ≠ 6 → Safety.answers (.tmrScrub [x]) s (fun t =>
       t.fuses = s.fuses ∧ x.field ∈ t.d.svc.unresolved ∧ t.d.get Obj.tmrLastField = x.field
       ∧ t.d.get Obj.tmrUnresolvedCount = satAdd (objWidth Obj.tmrUnresolvedCount) (s.d.get Obj.tmrUnresolvedCount) 1)))
  ∧ ((∀ (pg : Fin 4) (copy : Bool) (node : Fin 256) (s : State),
     Sys2Proof.Machine.exec (.graphScrub pg copy node .clean) s = .next s
     ∧ Sys2Proof.Machine.exec (.graphScrub pg copy node .correctable) s =
         .next { s with d := s.d.bump (Obj.pgGraphEccCorrected pg) }
     ∧ Safety.answers (.graphScrub pg copy node .uncorrectable) s (fun t => t.d.get (Obj.pgLastEccNode pg) = node.val
         ∧ t.d.get (Obj.pgGraphEccUncorrectable pg)
           = wrapAdd (objWidth (Obj.pgGraphEccUncorrectable pg)) (s.d.get (Obj.pgGraphEccUncorrectable pg)) 1
         ∧ graphKey pg copy node ∈ t.d.pkt.graphErr ∧ t.d.pkt.frames = s.d.pkt.frames
         ∧ Safety.onlyObjects [Obj.pgLastEccNode pg, Obj.pgGraphEccUncorrectable pg] s.d t.d))
   ∧ (∀ (c : Fin 16) (nano : Bool) (addr : Fin 16384) (s : State),
     Sys2Proof.Machine.exec (.storeScrub c nano addr .clean) s = .next s
     ∧ (s.d.stopped c = true → ∀ x, Sys2Proof.Machine.exec (.storeScrub c nano addr x) s = .next s)
     ∧ (s.d.stopped c = false → Sys2Proof.Machine.exec (.storeScrub c nano addr .correctable) s =
         .next { s with d := s.d.bump (Obj.clStoreEccCorrected c) })
     ∧ (s.d.stopped c = false → Safety.answers (.storeScrub c nano addr .uncorrectable) s (fun t => t.d.dict = s.d.dict
         ∧ (if nano then 16384 + addr.val % 4096 else addr.val) ∈ (t.d.cluster c).storeErrors
         ∧ (t.d.cluster c).image = (s.d.cluster c).image ∧ t.d.eng.threads = s.d.eng.threads)))
   ∧ (∀ (c : Fin 4) (l : List TileUpset) (s : State), s.d.srh.failedStacks.testBit 3 = true →
     Sys2Proof.Machine.exec (.tcamScrub c l) s = .next s)
   ∧ (∀ (c : Fin 4) (x : TileUpset) (s : State), s.d.srh.failedStacks.testBit 3 = false → s.d.srh.upsets = [] →
     let row : TileRow := ⟨x.data.toNat, x.mask.toNat, x.prio.toNat, x.odd, x.even⟩
     Safety.answers (.tcamScrub c []) s (fun t => t.d.dict = s.d.dict ∧ t.d.srh = s.d.srh)
     ∧ (s.d.goldenTile c x.tile x.row = some row →
         Safety.answers (.tcamScrub c [x]) s (fun t => t.d.dict = s.d.dict ∧ t.d.srh = s.d.srh))
     ∧ (∀ g, s.d.goldenTile c x.tile x.row = some g → g ≠ row → Safety.answers (.tcamScrub c [x]) s (fun t => t.d.srh = s.d.srh
         ∧ t.d.get (Obj.cxScrubRepairs c) = wrapAdd (objWidth (Obj.cxScrubRepairs c)) (s.d.get (Obj.cxScrubRepairs c)) 1
         ∧ Safety.reports t.d islSRH 197 (c * 2 ^ 56 + x.tile * 2 ^ 40 + x.row)
         ∧ Safety.onlyObjects [Obj.cxScrubRepairs c] s.d t.d)))
   ∧ (∀ s : State,
     let l := s.d.scrubNext
     let next := (l + 1) % (4096 * regionLines)
     let near := fun (n : Nat) =>
       ((s.d.srh.hbmErrors.getD (fun _ => []) n).filter (fun t => decide (s.d.now ≤ t + 1000000000))).length
     Safety.answers (.hbmScrubLine .clean) s (fun t => t.d.dict = s.d.dict ∧ t.d.srh = { s.d.srh with scrubAt := next })
     ∧ Safety.answers (.hbmScrubLine .correctable) s (fun t => t.d.srh = { s.d.srh with scrubAt := next }
         ∧ t.d.get Obj.srhHbmEccCorrected = wrapAdd (objWidth Obj.srhHbmEccCorrected) (s.d.get Obj.srhHbmEccCorrected) 1
         ∧ Safety.onlyObjects [Obj.srhHbmEccCorrected] s.d t.d)
     ∧ (lineRegion l < 4088 → Safety.answers (.hbmScrubLine .uncorrectable) s (fun t => t.d.srh.scrubAt = next
         ∧ t.d.get Obj.srhHbmEccUncorrectable = wrapAdd (objWidth Obj.srhHbmEccUncorrectable) (s.d.get Obj.srhHbmEccUncorrectable) 1
         ∧ Safety.reports t.d islSRH 203 (lineRegion l)
         ∧ (∀ n, s.d.tableOfLine l = some n → ∀ x ∈ s.d.lineEntries (s.d.emCfg (s.d.activeCopy 4) n) n l,
             x ∈ t.d.srh.entryErrors)
         ∧ (near (lineRegion l / 1024) < 63 → t.d.srh.failedStacks = s.d.srh.failedStacks
             ∧ Safety.onlyObjects [Obj.srhHbmEccUncorrectable] s.d t.d)
         ∧ (63 ≤ near (lineRegion l / 1024) → t.d.srh.failedStacks.testBit (lineRegion l / 1024) = true)))
     ∧ (4088 ≤ lineRegion l → Safety.answers (.hbmScrubLine .uncorrectable) s (fun t => t.d.srh.scrubAt = next
         ∧ (near 3 < 63 → t.d.srh.failedStacks = s.d.srh.failedStacks ∧ t.d.dict = s.d.dict)
         ∧ (63 ≤ near 3 → t.d.srh.failedStacks.testBit 3 = true))))
   ∧ (∀ (n : Fin 4) (s : State),
     (s.d.bootLoading = true → s.d.sec.hbmDone = false →
       Safety.answers (.hbmStackFailed n) s (fun t => t.fuses = s.fuses ∧ t.d.srh.failedStacks.testBit n = true
         ∧ (∀ m, m ≠ n.val → t.d.srh.failedStacks.testBit m = s.d.srh.failedStacks.testBit m) ∧ t.d.pkt = s.d.pkt))
     ∧ (s.d.bootLoading = false ∨ s.d.sec.hbmDone = true → Sys2Proof.Machine.exec (.hbmStackFailed n) s = .next s)))

/-! ### Generation fronts -/

/-- At the end of preparation the pointer flips: the generation advances, MGT's parity changes, the new copies of the
named groups are the other ones and those of the others the same, the front goes to the islands, and the COMMIT is
answered OK with the new generation (R59, R237). Release returns the front to IDLE: every island's pointer names the
committed copies for both parities, and for the groups of the front the two copies hold the same values, so the shadow
reads as committed (R238, R245). -/
def Obligations.FrontsFlipAndRelease : Prop :=
  (∀ s : State, s.d.get Obj.frontPhase = 1 →
     Safety.answers .frontFlip s (fun t => t.fuses = s.fuses
       ∧ t.d.get Obj.generation = (s.d.get Obj.generation + 1) % 2 ^ 64 ∧ t.d.get Obj.frontPhase = 2
       ∧ t.d.get Obj.draining = 1 ∧ t.d.get Obj.frontLastFlipTime = s.d.now
       ∧ t.d.parity = !s.d.parity
       ∧ (∀ g, t.d.activeCopy g = (s.d.activeCopy g != s.d.front.mask.testBit g))
       ∧ t.d.svc.committing = none ∧ t.d.front.oldParity = s.d.parity
       ∧ (∀ w, s.d.svc.committing = some w →
           Safety.answered t.d w { code := .ok, payload := beBytes 8 ((s.d.get Obj.generation + 1) % 2 ^ 64) })))
  ∧ (∀ s : State, s.d.get Obj.frontPhase = 5 → s.d.dict.copy0.sorted = true → s.d.dict.copy1.sorted = true →
     s.d.dict.mem0.sorted = true → s.d.dict.mem1.sorted = true →
     Safety.answers .frontDrained s (fun t => t.fuses = s.fuses ∧ t.d.get Obj.frontPhase = 0 ∧ t.d.get Obj.draining = 0
       ∧ t.d.get Obj.frontLastDrainTime = s.d.now ∧ (∀ i, i < 25 → t.d.ptr i = (s.d.ptr islMGT).released)
       ∧ (∀ g, t.d.noShadow g = false)
       ∧ (∀ k, s.d.front.mask.testBit (groupOf (k / 256)) = true →
           t.d.copyGet true k = s.d.active k ∧ t.d.copyGet false k = s.d.active k ∧ t.d.shadow k = s.d.active k)
       ∧ (∀ dom o c, o < 2 ^ 32 → s.d.front.mask.testBit (groupOf dom) = true →
           t.d.copyByte c dom o = s.d.copyByte (s.d.activeCopy (groupOf dom)) dom o)
       ∧ (∀ c k, s.d.front.mask.testBit (groupOf (k / 256)) = false → t.d.copyGet c k = s.d.copyGet c k)
       ∧ t.d.cry.oldSas = []))

/-- A front that reaches an island gives it MGT's pointer, and the island acknowledges; when every running island of the
first step has, the front goes on to the port groups, and when those have, it drains (R239, R240). When an island acknowledges
is the model's reading (log entry 27). A silence of 1 ms since the flip is counted in STALLS once a front, and event 17 names the
lowest silent island; an expiry point reached in DRAIN with old frames in the census is counted in FRONTS_EXPIRED, and expiry
runs from then on; the census at zero starts release (R243, R244, R246). -/
def Obligations.FrontsCrossTheDevice : Prop :=
  ((∀ (i : Fin 25) (s : State), s.d.get Obj.frontPhase = 2 ∨ s.d.get Obj.frontPhase = 3 → i.val ∈ s.d.unheard →
     Safety.answers (.frontArrival i) s (fun t => t.fuses = s.fuses ∧ i.val ∈ t.d.front.acks ∧ t.d.ptr i = s.d.ptr islMGT
       ∧ (∀ j, j ≠ i.val → t.d.ptr j = s.d.ptr j) ∧ t.d.dict.copy0 = s.d.dict.copy0 ∧ t.d.dict.copy1 = s.d.dict.copy1))
   ∧ (∀ s : State, s.d.get Obj.frontPhase = 2 → s.d.unheard = [] →
     Sys2Proof.Machine.exec .frontDistributed s = .next { s with d := s.d.put Obj.frontPhase 3 })
   ∧ (∀ s : State, s.d.get Obj.frontPhase = 3 → s.d.unheard = [] →
     Safety.answers .frontStamped s (fun t => t.d.get Obj.frontPhase = 4 ∧ t.d.get Obj.frontLastStampTime = s.d.now
       ∧ (s.d.now < s.d.expiryPoint →
           t.d.front = { s.d.front with finalEntries := (stampers.map (fun i => s.d.finalOf i)).sum }
           ∧ Safety.onlyObjects [Obj.frontPhase, Obj.frontLastStampTime] s.d t.d)
       ∧ (s.d.expiryPoint ≤ s.d.now → t.d.front.expiring = true))))
  ∧ ((∀ (s : State) (i : Nat) (is : List Nat), s.d.get Obj.frontPhase = 2 ∨ s.d.get Obj.frontPhase = 3 → s.d.unheard = i :: is →
     s.d.front.stalled = false → s.d.get Obj.frontLastFlipTime + 1000000 ≤ s.d.now →
     Safety.answers .frontStall s (fun t => t.d.front = { s.d.front with stalled := true }
       ∧ t.d.get Obj.frontStalls = satAdd (objWidth Obj.frontStalls) (s.d.get Obj.frontStalls) 1
       ∧ (∃ m, m ∈ s.d.unheard ∧ (∀ j ∈ s.d.unheard, m ≤ j) ∧ Safety.reports t.d islMGT 17 m)
       ∧ Safety.onlyObjects [Obj.frontStalls] s.d t.d))
   ∧ (∀ s : State, s.d.get Obj.frontPhase = 4 → s.d.front.expiring = false → s.d.oldResident ≠ 0 →
     s.d.expiryPoint ≤ s.d.now →
     Safety.answers .frontExpired s (fun t => t.fuses = s.fuses ∧ t.d.front.expiring = true
       ∧ t.d.get Obj.frontFrontsExpired = satAdd (objWidth Obj.frontFrontsExpired) (s.d.get Obj.frontFrontsExpired) 1
       ∧ (s.d.oldWaiting = [] → s.d.oldCopies = [] → t.d.front = { s.d.front with expiring := true }
           ∧ Safety.onlyObjects [Obj.frontFrontsExpired] s.d t.d)))
   ∧ (∀ s : State, s.d.get Obj.frontPhase = 4 → s.d.oldResident = 0 →
     Sys2Proof.Machine.exec .censusZero s = .next { s with d := s.d.put Obj.frontPhase 5 }))

/-! ### Barometer -/

/-- Where accounting runs, an island that is not stopped closes its tick when its time passes a multiple of 10 µs: what it has
counted, with its idle lane bits, becomes its newest report, and its counts start again; that this happens in a step on an empty
queue is the model's choice (log entries 5 and 8). An island's oldest report reaches MGT: its counts join the open tick, and one
for a tick that is closed is counted in LATE_REPORTS (R338). A change of an island's clock that was held back is applied (R446).
The close of a tick takes what has been received, charges the STATIC account STATIC_MW for 10 µs, and counts the tick (R338,
R339). An export writes the ledger and then its header to its slot and advances the sequence; one abandoned, or made while the PF
issues no DMA, is counted with event 773 (R343, R344; the last is the model's reading, log entry 11). -/
def Obligations.EnergyIsAccounted : Prop :=
  ((∀ (i : Fin 25) (s : State), s.pending = [] → s.d.accounts = true → s.d.stopped i = false →
     s.d.timeAt i / 10000 < Device.timeAt { s.d with now := s.d.now + 1 } i / 10000 →
     let xs := islandPart s.d.baro.activity i
     let e := Device.countIsland { s.d with now := s.d.now + 1 } i
     let r : TickReport := ⟨s.d.timeAt i / 10000 + 1, xs ++ e.idleLanes i xs, islandPart s.d.baro.thrown i⟩
     ∃ t, Sys2Proof.Machine.step s = .next t ∧ t.d.reportsOf i = s.d.reportsOf i ++ [r]
       ∧ islandPart t.d.baro.activity i = [] ∧ islandPart t.d.baro.thrown i = [])
   ∧ (∀ (i : Fin 25) (s : State) (r : TickReport) (rest : List TickReport), s.d.accounts = true →
     s.d.reportsOf i = r :: rest →
     Safety.answers (.islandTickReport i) s (fun t => t.fuses = s.fuses ∧ t.d.reportsOf i = rest
       ∧ (∀ j, j ≠ i.val → t.d.reportsOf j = s.d.reportsOf j)
       ∧ t.d.baro.received = addCounts s.d.baro.received r.counts
       ∧ t.d.baro.receivedThrown = addCounts s.d.baro.receivedThrown r.thrown
       ∧ t.d.baro.accounts = s.d.baro.accounts ∧ t.d.baro.activity = s.d.baro.activity
       ∧ (s.d.baro.lastClose < r.boundary * 10000 → t.d.dict = s.d.dict)
       ∧ (r.boundary * 10000 ≤ s.d.baro.lastClose →
           t.d.get Obj.baroLateReports = wrapAdd (objWidth Obj.baroLateReports) (s.d.get Obj.baroLateReports) 1
           ∧ Safety.onlyObjects [Obj.baroLateReports] s.d t.d)))
   ∧ (∀ (i : Fin 25) (s : State), s.d.wantK i ≠ s.d.clockK i → s.d.clockStuck i = false → s.d.clockFree i = true →
     Safety.answers (.clockChangeDeferred i) s (fun t => t.fuses = s.fuses ∧ t.d.clockK i = s.d.wantK i
       ∧ (∀ j, j ≠ i.val → t.d.clockK j = s.d.clockK j) ∧ t.d.dict = s.d.dict)))
  ∧ (∀ s : State, s.d.accounts = true → s.d.baro.lastClose + 10000 + 5000 ≤ s.d.now →
     let static := s.d.baro.remainders.getD (fun _ => 0) acctStatic + s.d.get Obj.staticMw * quartersPerMwTick
     Safety.answers .tickClose s (fun t => t.fuses = s.fuses ∧ t.d.baro.lastClose = s.d.baro.lastClose + 10000
       ∧ t.d.baro.received = [] ∧ t.d.baro.receivedThrown = []
       ∧ t.d.baro.accounts.getD (fun _ => 0) acctStatic
           = wrapAdd 64 (s.d.baro.accounts.getD (fun _ => 0) acctStatic) (static / quartersPerUj)
       ∧ t.d.baro.remainders.getD (fun _ => 0) acctStatic = static % quartersPerUj
       ∧ t.d.get Obj.baroTicks = wrapAdd (objWidth Obj.baroTicks) (s.d.get Obj.baroTicks) 1
       ∧ t.d.get Obj.baroForecastMw = forecastMw t.d.baro.device))
  ∧ (∀ s : State, s.d.accounts = true → s.d.get Obj.exportEnable = 1 →
     let n := s.d.get Obj.exportSequence + 1
     let base := s.d.get Obj.exportBase + (n % 2) * 0x11000
     s.d.baro.exportAt < s.d.now / us (s.d.get Obj.exportPeriodUs) →
     (s.d.dmaOk 0 = true → Safety.answers (.ledgerExport true) s (fun t => t.fuses = s.fuses
       ∧ t.d.out = s.d.out ++ [.dma 0 (base + 64) s.d.exportBody (s.d.host.relaxed.contains 0),
                               .dma 0 base (s.d.exportHeader n) false]
       ∧ t.d.get Obj.exportSequence = n ∧ Safety.onlyObjects [Obj.exportSequence] s.d t.d))
     ∧ (∀ written, written = false ∨ s.d.dmaOk 0 = false → Safety.answers (.ledgerExport written) s (fun t => t.d.out = s.d.out
       ∧ t.d.get Obj.exportErrors = wrapAdd (objWidth Obj.exportErrors) (s.d.get Obj.exportErrors) 1
       ∧ Safety.reports t.d islMGT 773 0 ∧ Safety.onlyObjects [Obj.exportErrors] s.d t.d)))

/-! ### Events, messages, banks and samples -/

/-- The oldest occurrence of an island reaches the event unit: its source's TOTAL counts it; a source whose ENABLE is 0 does no
more; an enabled one that may make a record of its own accord enters the order queue, or where its source is limited waits in
its key's slot without being folded; and any other is folded into that slot, which counts it, takes its fields where it is the
newest, and is counted in FOLDED (R355 to R357, R359). That a limited source's occurrence waits in its slot is the model's reading
(log entry 26). -/
def Obligations.OccurrencesReachTheEventUnit : Prop :=
  ∀ (i : Fin 25) (s : State) (o : Occurrence) (rest : List Occurrence), s.d.ev.flight.getD (fun _ => []) i = o :: rest →
    let k := limiterKey o
    let x : Occurrence := { o with arrived := s.d.ev.arrivals + 1 }
    Safety.answers (.eventOccurrence i) s (fun t => t.fuses = s.fuses
      ∧ t.d.ev.flight.getD (fun _ => []) i = rest ∧ (∀ j, j ≠ i.val →
          t.d.ev.flight.getD (fun _ => []) j = s.d.ev.flight.getD (fun _ => []) j)
      ∧ beNat (t.d.memRead Obj.domEventStatus (16 * o.source) 8)
          = (beNat (s.d.memRead Obj.domEventStatus (16 * o.source) 8) + 1) % 2 ^ 64
      ∧ (s.d.sourceOn o.source = false → t.d.ev.queue = s.d.ev.queue ∧ t.d.ev.pending = s.d.ev.pending)
      ∧ (s.d.sourceOn o.source = true → s.d.triggers x = true → limitedSource o.source = false →
          t.d.ev.queue = s.d.ev.queue ++ [x] ∧ t.d.ev.pending = s.d.ev.pending)
      ∧ (s.d.sourceOn o.source = true → s.d.triggers x = true → limitedSource o.source = true →
          t.d.ev.queue = s.d.ev.queue ∧ t.d.slotOf k = { (s.d.slotOf k).take x with triggered := true }
          ∧ t.d.get Obj.evFolded = s.d.get Obj.evFolded)
      ∧ (s.d.sourceOn o.source = true → s.d.triggers x = false → t.d.ev.queue = s.d.ev.queue
          ∧ (t.d.slotOf k).count = satAdd 32 (s.d.slotOf k).count 1
          ∧ ((s.d.slotOf k).arrived ≤ s.d.ev.arrivals → (t.d.slotOf k).time = o.time ∧ (t.d.slotOf k).isl = o.isl)
          ∧ t.d.get Obj.evFolded = wrapAdd (objWidth Obj.evFolded) (s.d.get Obj.evFolded) 1))

/-- When the record writer is free and no slot is ready, the record of the queue's head goes to the ring of its source at
RING_TAIL, which advances: with an empty slot it carries that occurrence alone, and otherwise the slot's too where it may; and
where a slot is ready and the queue is empty, the slot's record goes out and the slot is empty (R358, R360, R361). A moderated
message is sent when its interval ends, and a pending one when its vector's or its function's mask is cleared, where neither mask
stands and the function issues DMA; a vector with nothing pending is only unmasked (R364). How masks and Bus Master Enable act on a
message is the model's reading (log entries 26 and 32). A counter's wrap sets its bit of OVERFLOW and no other (R369); a drain of
one completed sample record writes it to the sample ring with the ring's PHASE (R376). -/
def Obligations.RecordsAndMessagesGoOut : Prop :=
  (∀ (s : State) (o : Occurrence) (rest : List Occurrence), s.d.writerFree = true → s.d.ev.queue = o :: rest →
     s.d.readySlot = none → s.d.sourceOn o.source = true →
     let k := limiterKey o
     let f := s.d.routeOf o.source
     let tail := s.d.get (Obj.erRingTail f)
     let carried := match entryCarries o (s.d.slotOf k) rest with
       | some p => (p.last k, p.count)
       | none => (o, 1)
     s.d.ringOn f = true → s.d.ringRoom f = true →
     Safety.answers .eventRecordWrite s (fun t => t.fuses = s.fuses ∧ t.d.ev.queue = rest
       ∧ t.d.get (Obj.erRingTail f) = (tail + 1) % s.d.get (Obj.erRingEntries f)
       ∧ (t.d.evRing f).seq = ((s.d.evRing f).seq + 1) % 2 ^ 32
       ∧ ((s.d.slotOf k).count = 0 → carried = (o, 1))
       ∧ (entryCarries o (s.d.slotOf k) rest ≠ none → (t.d.slotOf k).count = 0)
       ∧ ∃ more, t.d.out = s.d.out ++ .dma f (s.d.get (Obj.erRingBase f) + 32 * tail)
           (recordBytes carried.1 carried.2 (s.d.evRing f)) false :: more))
  ∧ (∀ (s : State) (k : Nat) (p : Pending), s.d.writerFree = true → s.d.ev.queue = [] → s.d.readySlot = some (k, p) →
     let f := s.d.routeOf (keySource k)
     let tail := s.d.get (Obj.erRingTail f)
     Safety.answers .eventRecordWrite s (fun t => t.fuses = s.fuses ∧ (t.d.slotOf k).count = 0
       ∧ t.d.get (Obj.erRingTail f) = (tail + 1) % s.d.get (Obj.erRingEntries f)
       ∧ (limitedSource (keySource k) = true → t.d.ev.lastRecord.find k = some s.d.now)
       ∧ ∃ more, t.d.out = s.d.out ++ .dma f (s.d.get (Obj.erRingBase f) + 32 * tail)
           (recordBytes (p.last k) p.count (s.d.evRing f)) false :: more))
  ∧ (∀ (fn : Fin 32) (v : Fin 2048) (s : State), fn.val ∉ s.d.ev.fnMasked → s.d.dmaOk fn = true →
     let k := vecKey fn v
     let x := s.d.vec k
     let sent : MsixVec := { masked := false, waiting := false, lastAt := some s.d.now, due := none }
     (∀ at_, x.due = some at_ → at_ ≤ s.d.now → x.masked = false →
       Safety.answers (.msixModerationExpiry fn v) s (fun t => t.d.out = s.d.out ++ [.msix fn v] ∧ t.d.vec k = sent
         ∧ t.d.dict = s.d.dict))
     ∧ (x.waiting = true → Safety.answers (.msixVectorUnmask fn (some v)) s (fun t =>
         t.d.out = s.d.out ++ [.msix fn v] ∧ t.d.vec k = sent ∧ t.d.dict = s.d.dict))
     ∧ (x.waiting = false → Safety.answers (.msixVectorUnmask fn (some v)) s (fun t =>
         t.d.out = s.d.out ∧ t.d.vec k = { x with masked := false } ∧ t.d.dict = s.d.dict)))
  ∧ (∀ (fn : Fin 32) (s : State), Safety.answers (.msixVectorUnmask fn none) s (fun t =>
       t.d.ev.fnMasked = s.d.ev.fnMasked.erase fn.val ∧ t.d.dict = s.d.dict
       ∧ ∀ v : Fin 2048, fn.val ∉ s.d.ev.fnMasked.erase fn.val → s.d.dmaOk fn = true →
           (s.d.vec (vecKey fn v)).masked = false → (s.d.vec (vecKey fn v)).waiting = true → Output.msix fn v ∈ t.d.out))
  ∧ ((∀ (b : Fin 25) (n : Fin 512) (s : State), s.d.ev.wraps.contains (b.val, n.val) = true →
     Safety.answers (.counterWrap b n) s (fun t => (t.d.get (Obj.bankOverflow b)).testBit n = true
       ∧ (∀ m, m ≠ n.val → (t.d.get (Obj.bankOverflow b)).testBit m = (s.d.get (Obj.bankOverflow b)).testBit m)
       ∧ t.d.ev.wraps = s.d.ev.wraps.erase (b.val, n.val) ∧ Safety.onlyObjects [Obj.bankOverflow b] s.d t.d))
   ∧ (∀ (c : Fin 16) (s : State) (b : Bytes), s.d.drainsNow c = true → (s.d.sampler c).buffer = [b] →
     let tail := s.d.get Obj.sringTail
     let next := (tail + 1) % s.d.get Obj.sringEntries
     next ≠ s.d.get Obj.sringHead →
     Safety.answers (.sampleDrain c) s (fun t =>
       t.d.out = s.d.out ++ [.dma 0 (s.d.get Obj.sringBase + 32 * tail) (phased s.d.ev.sringPhase b) false]
       ∧ t.d.get Obj.sringTail = next ∧ (t.d.sampler c).buffer = [] ∧ Safety.onlyObjects [Obj.sringTail] s.d t.d)))

/-! ### The host interface -/

/-- The four ring doorbells, as aligned 32-bit accesses: an index below ENTRIES, written by the owner of a ring that runs and
holds its right, is taken by the ring and changes nothing else; any other is counted in DOORBELL_REJECTS with event 865 and the
rings stand. A completion doorbell takes from the completions not read those it passes (R402, R405). EVENT_HEAD below
RING_ENTRIES sets RING_HEAD, and any other value is counted. An access of another size has no effect (R400). A completion doorbell of
the standing value takes none: that is the model's reading (log entry 53). -/
def Obligations.DoorbellsPost : Prop :=
  ∀ (fn : Fin 32) (v : Nat) (s : State), s.d.fnReached fn = true →
    let good := fun (g : Nat) => s.d.ringRuns g = true ∧ s.d.owner g = fn.val ∧ s.d.fnActive fn = true
      ∧ v < s.d.get (Obj.ringEntries g) ∧ v < 65536
      ∧ s.d.mayNow islMGT (ringNeeds g).1 (4096 + fn.val) (ringNeeds g).2.1 (ringNeeds g).2.2 = true
    let posts := fun (c : Instr) (g : Nat) => good g → Sys2Proof.Machine.exec c s =
      .next { s with d := s.d.setRing g { s.d.ring g with tail := v, doorbell := v } }
    let rejects := fun (c : Instr) (g : Nat) => ¬ good g →
      Safety.answers c s (fun t => t.d.host = s.d.host ∧ (∃ off, Safety.reports t.d islMGT 865 (fn * 2 ^ 16 + off))
        ∧ t.d.get Obj.hostDoorbellRejects = wrapAdd (objWidth Obj.hostDoorbellRejects) (s.d.get Obj.hostDoorbellRejects) 1)
    (∀ r : Fin 64, posts (.rxDoorbell fn r ⟨v, 4⟩) r ∧ rejects (.rxDoorbell fn r ⟨v, 4⟩) r)
    ∧ (∀ r : Fin 64, posts (.injectDoorbell fn r ⟨v, 4⟩) (64 + r) ∧ rejects (.injectDoorbell fn r ⟨v, 4⟩) (64 + r))
    ∧ (∀ r : Fin 16, posts (.jobDoorbell fn r ⟨v, 4⟩) (128 + r) ∧ rejects (.jobDoorbell fn r ⟨v, 4⟩) (128 + r))
    ∧ (∀ r : Fin 16, rejects (.completionDoorbell fn r ⟨v, 4⟩) (128 + r) ∧ (good (128 + r) →
      let x := s.d.ring (128 + r)
      let n := s.d.get (Obj.ringEntries (128 + r))
      Sys2Proof.Machine.exec (.completionDoorbell fn r ⟨v, 4⟩) s = .next { s with
        d := s.d.setRing (128 + r)
          { x with chead := v, compDoorbell := v, unread := x.unread - (v + n - x.chead) % n } }))
    ∧ (v < s.d.get (Obj.erRingEntries fn) →
      Sys2Proof.Machine.exec (.eventHeadWrite fn ⟨v, 4⟩) s = .next { s with d := s.d.put (Obj.erRingHead fn) v })
    ∧ (s.d.get (Obj.erRingEntries fn) ≤ v →
      Sys2Proof.Machine.exec (.eventHeadWrite fn ⟨v, 4⟩) s = .next { s with d := s.d.bump Obj.hostDoorbellRejects })
    ∧ (∀ size, size ≠ 4 → (∀ r : Fin 64, Sys2Proof.Machine.exec (.rxDoorbell fn r ⟨v, size⟩) s = .next s
        ∧ Sys2Proof.Machine.exec (.injectDoorbell fn r ⟨v, size⟩) s = .next s)
      ∧ (∀ r : Fin 16, Sys2Proof.Machine.exec (.jobDoorbell fn r ⟨v, size⟩) s = .next s
        ∧ Sys2Proof.Machine.exec (.completionDoorbell fn r ⟨v, size⟩) s = .next s)
      ∧ Sys2Proof.Machine.exec (.eventHeadWrite fn ⟨v, size⟩) s = .next s)

/-- A failed read stops its ring with event 866 and counts in its DMA_ERRORS (R408). An inject descriptor that is in order, whose
target has room and is its ring's turn, hands its frame to the port group's inject queue in PARSER mode and to admission in QUEUE
mode; one that is not in order, once its turn comes, hands on none; each advances HEAD, and while its target has no room, or another
ring has the turn, the ring waits (R404). One that names no port group waits for nothing (the model's choice, log entry 56). A frame at port 128 with no posted buffer is dropped and
counted with event 867; one with a posted buffer that holds it, and credit in the policer, is written to its buffer and its
descriptor back, and HEAD advances (R403). -/
def Obligations.HostRingsMoveFrames : Prop :=
  ((∀ (g : Fin 144) (s : State), s.d.ringRuns g = true →
     Safety.answers (.ringDmaError g) s (fun t => t.d.get (Obj.ringEnable g) = 0
       ∧ t.d.get (Obj.ringDmaErrors g) = wrapAdd (objWidth (Obj.ringDmaErrors g)) (s.d.get (Obj.ringDmaErrors g)) 1
       ∧ Safety.reports t.d islMGT 866 ((ringNeeds g).2.1 + (ringNeeds g).1 * 2 ^ 8)
       ∧ t.d.host = s.d.host ∧ Safety.onlyObjects [Obj.ringEnable g, Obj.ringDmaErrors g] s.d t.d))
   ∧ (∀ (r : Fin 64) (s : State) (b x : Bytes),
     let g := 64 + r.val
     let pg := byteAt b 11 % 4
     let n := s.d.pkt.nextFrame
     let on := fun (t : State) => t.fuses = s.fuses
       ∧ (t.d.ring g).head = ((s.d.ring g).head + 1) % s.d.get (Obj.ringEntries g)
     s.d.injectReady g = true → (s.d.ringRight g).2 = true →
     let turn := s.d.injectRoom b = true ∧ s.d.injectFirst g (injectTarget b) = true
     (∀ st, injectStatus true b = some st → injectNames b = false ∨ turn →
       Safety.answers (.injectDescriptorTake r (some b) (some x)) s (fun t => on t ∧ t.d.pkt = s.d.pkt))
     ∧ (injectNames b = true → ¬ turn →
       Safety.answers (.injectDescriptorTake r (some b) (some x)) s (fun t => t.fuses = s.fuses ∧ t.d.pkt = s.d.pkt
         ∧ t.d.host.rings = s.d.host.rings ∧ t.d.dict = s.d.dict ∧ t.d.out = s.d.out))
     ∧ (injectStatus true b = none → s.d.injectRoom b = true → s.d.injectFirst g (injectTarget b) = true →
       (bit (byteAt b 10) 0 = false →
         Safety.answers (.injectDescriptorTake r (some b) (some x)) s (fun t => on t
           ∧ (t.d.pgs pg).inject = (s.d.pgs pg).inject ++ [n] ∧ t.d.host.injectLast.find pg = some g
           ∧ (t.d.frame n).bytes = fit (leAt b 8 2) x ∧ (t.d.frame n).stage = .injectWait))
       ∧ (bit (byteAt b 10) 0 = true →
         Safety.answers (.injectDescriptorTake r (some b) (some x)) s (fun t => on t
           ∧ (t.d.frame n).bytes = fit (leAt b 8 2) x ∧ (t.d.frame n).stage = .admitting
           ∧ (t.d.frame n).direct = some (leAt b 12 2, leAt b 14 2)))))
   ∧ (∀ (s : State) (i : Nat) (rest : List Nat) (desc : Option Bytes), s.d.dataRuns = true → (s.d.port 128).tx = i :: rest →
     let g := s.d.rxRing (s.d.frame (s.d.copyRec i).frame)
     s.d.ringRuns g = true → s.d.fnActive (s.d.owner g) = true → (s.d.ringRight g).2 = true →
     (s.d.ring g).head = (s.d.ring g).tail →
     Sys2Proof.Machine.exec (.slowpathRingWrite desc) s =
       .next { s with d := ((s.d.bump (Obj.ringRxNoBufferDrops g)).dropCopy i).fireOf islMGT 867 g g 0 }))
  ∧ (∀ (s : State) (i : Nat) (rest : List Nat) (b : Bytes), s.d.dataRuns = true → (s.d.port 128).tx = i :: rest →
     let c := s.d.copyRec i
     let g := s.d.rxRing (s.d.frame c.frame)
     let len := leAt b 8 4
     s.d.ringRuns g = true → s.d.fnActive (s.d.owner g) = true → (s.d.ringRight g).2 = true →
     (s.d.ring g).head ≠ (s.d.ring g).tail → 64 ≤ len → len ≤ 16384 → (c.out.getD []).length ≤ len → c.out.getD [] ≠ [] →
     (s.d.copyAcct c).toNat * 8000000 ≤ s.d.policerNow →
     Safety.answers (.slowpathRingWrite (some b)) s (fun t => t.fuses = s.fuses
       ∧ (t.d.ring g).head = ((s.d.ring g).head + 1) % s.d.get (Obj.ringEntries g)
       ∧ t.d.host.policer = s.d.policerNow - (s.d.copyAcct c).toNat * 8000000
       ∧ Output.dma (s.d.owner g) (leAt b 0 8) (c.out.getD []) (s.d.host.relaxed.contains (s.d.owner g)) ∈ t.d.out))

/-- The first entry to L0 and later changes of rate or width set both, rate 0 is down, and a change fires event 864; VF_ENABLE sets
NumVFs and VF Enable and takes Bus Master Enable from functions that cease to exist; BUS_MASTER_ENABLE sets Bus Master Enable of
its function, and Enable Relaxed Ordering where it is written. An FLR frees the function's mailbox, disables its event ring and
its rings, takes its Bus Master Enable and marks its waiting requests to be run without a response; one of the PF also stops
telemetry, the sample ring, the export and the last gasp, and clears VF Enable. PERST_N takes the link down, with no VF and no bus
master and no message pending, and stays low until the first entry to L0 (R398, R399, R409, R417, R422). Enable Relaxed Ordering
beside Bus Master Enable is log entry 48's choice; what becomes of Bus Master Enable and of the vectors is that of entries 26 and
32. -/
def Obligations.LinkAndFunctions : Prop :=
  (∀ (rate width : Nat) (s : State), s.d.devState ≠ stRESET → s.d.host.everL0 = false →
    Safety.answers (.firstEntryToL0 rate width) s (fun t => t.d.host = { s.d.host with everL0 := true, inL0 := rate % 256 != 0 }
      ∧ t.d.sys = { s.d.sys with perstN := true }
      ∧ t.d.get Obj.hostLinkRate = rate % 256 ∧ t.d.get Obj.hostLinkWidth = width % 256
      ∧ Safety.onlyObjects [Obj.hostLinkRate, Obj.hostLinkWidth] s.d t.d))
  ∧ (∀ (rate width : Nat) (s : State), s.d.host.everL0 = true →
    s.d.get Obj.hostLinkRate ≠ rate % 256 ∨ s.d.get Obj.hostLinkWidth ≠ width % 256 →
    Safety.answers (.pcieLinkChange rate width) s (fun t => t.d.host = { s.d.host with inL0 := rate % 256 != 0 }
      ∧ t.d.get Obj.hostLinkRate = rate % 256 ∧ t.d.get Obj.hostLinkWidth = width % 256
      ∧ Safety.reports t.d islMGT 864 (rate % 256 + width % 256 * 2 ^ 8)
      ∧ Safety.onlyObjects [Obj.hostLinkRate, Obj.hostLinkWidth] s.d t.d))
  ∧ (∀ (n : Fin 32) (on : Bool) (s : State), s.d.fnReached 0 = true →
    Safety.answers (.vfEnable n on) s (fun t => t.d.host.numVfs = n.val ∧ t.d.host.vfEnable = on
      ∧ t.d.get Obj.hostNumVfs = (if on then n.val else 0) ∧ t.d.host.rings = s.d.host.rings
      ∧ (∀ f, f ∈ t.d.host.busMaster ↔ f ∈ s.d.host.busMaster ∧ (f = 0 ∨ (on = true ∧ f ≤ n.val)))))
  ∧ (∀ (fn : Fin 32) (on : Bool) (ro : Option Bool) (s : State), s.d.fnReached fn = true →
    Safety.answers (.busMasterEnable fn ⟨on, ro⟩) s (fun t => (fn.val ∈ t.d.host.busMaster ↔ on = true)
      ∧ (∀ f, f ≠ fn.val → (f ∈ t.d.host.busMaster ↔ f ∈ s.d.host.busMaster) ∧ (f ∈ t.d.host.relaxed ↔ f ∈ s.d.host.relaxed))
      ∧ (fn.val ∈ t.d.host.relaxed ↔ ro = some true ∨ (ro = none ∧ fn.val ∈ s.d.host.relaxed)) ∧ t.d.dict = s.d.dict))
  ∧ (∀ (fn : Fin 32) (s : State), s.d.fnReached fn = true →
    Safety.answers (.flr fn) s (fun t => t.fuses = s.fuses ∧ (t.d.mailbox fn).state = 0 ∧ (t.d.mailbox fn).misuse = 0
      ∧ fn.val ∉ t.d.host.busMaster ∧ t.d.get (Obj.erRingEnable fn) = 0
      ∧ (∀ g, g < 144 → s.d.owner g = fn.val → t.d.get (Obj.ringEnable g) = 0)
      ∧ (∀ w ∈ t.d.svc.waiting, w.src = .mailbox fn → w.discard = true)
      ∧ (fn = 0 → t.d.get Obj.telemEnable = 0 ∧ t.d.get Obj.sringEnable = 0 ∧ t.d.get Obj.exportEnable = 0
          ∧ t.d.get Obj.hostLastGaspEnable = 0 ∧ t.d.host.vfEnable = false)))
  ∧ (∀ s : State, Safety.answers .perstN s (fun t => t.fuses = s.fuses ∧ t.d.sys.perstN = false
      ∧ t.d.get Obj.hostNumVfs = 0 ∧ t.d.host.inL0 = false ∧ t.d.host.everL0 = false
      ∧ t.d.host.numVfs = 0 ∧ t.d.host.vfEnable = false ∧ t.d.host.busMaster = [] ∧ t.d.ev.vectors = []
      ∧ t.d.get Obj.hostLinkRate = 0))

/-! ### The bundle -/

/-- Verification ends: a bundle with a reason against it is REJECTED with that reason and event 801, and its bytes are discarded;
one with none is LOADING, at boot as in an update, whose images then take their slots, which read PRESENT, and end it as DONE with
its BUNDLE_ID (R387 to R389). The order of the checks is that of log entry 35. LOADING at boot ends when the HBM has trained, each
stack that did not being failed, the lanes are calibrated and the clusters have loaded: the device is in INIT with BOOT_PHASE
DONE, every cluster whose load failed, or whose image the loader does not accept, UNLOADED and the others LOADED (R424). -/
def Obligations.BundlesBootTheDevice : Prop :=
  ((∀ s : State, s.d.awake = true → s.d.get s.d.phaseObj = bpVERIFYING →
     let r := s.d.bundleReason s.fuses (s.d.devState != stBOOT) s.d.bundle
     Safety.answers .bundleVerified s (fun t => t.fuses = s.fuses
       ∧ t.d.get s.d.phaseObj = (if r = 0 then bpLOADING else bpREJECTED)
       ∧ (r ≠ 0 → t.d.get s.d.reasonObj = r ∧ Safety.reports t.d islMGT 801 r ∧ (∀ o, o < 2 ^ 32 → t.d.memByte Obj.domBundleTransfer o = 0)
         ∧ Safety.onlyObjects [s.d.phaseObj, s.d.reasonObj] { s.d with dict := { s.d.dict with mem := t.d.dict.mem } } t.d)))
   ∧ (∀ s : State, s.d.awake = true → s.d.get Obj.updatePhase = bpLOADING → (∀ e ∈ s.d.sec.installs, e.1 < 4) →
     Safety.answers .updateLoadingDone s (fun t => t.fuses = s.fuses ∧ t.d.get Obj.updatePhase = bpDONE
       ∧ t.d.sec.installs = [] ∧ t.d.get Obj.bundleId = beAt s.d.bundle 48 16
       ∧ (∀ e ∈ s.d.sec.installs, t.d.get (Obj.slotPresent e.1) = 1)
       ∧ t.d.get Obj.bundleSvn = s.d.get Obj.bundleSvn)))
  ∧ ((∀ (s : State) (failed : Nat), s.d.bootLoading = true → s.d.sec.hbmDone = false →
     Safety.answers (.hbmTrainingDone failed) s (fun t => t.fuses = s.fuses ∧ t.d.sec = { s.d.sec with hbmDone := true }
       ∧ t.d.sys = { s.d.sys with hbmSelfRefresh := false }
       ∧ (∀ n, n < 4 → t.d.srh.failedStacks.testBit n = (s.d.srh.failedStacks.testBit n || failed.testBit n))
       ∧ (failed % 16 = 0 → t.d.dict = s.d.dict)))
   ∧ (∀ s : State, s.d.bootLoading = true →
     Sys2Proof.Machine.exec .serdesCalibrationDone s =
       .next { s with d := { s.d with sec := { s.d.sec with serdesDone := true } } })
   ∧ (∀ (s : State) (failed : Nat), s.d.bootLoading = true → s.d.sec.hbmDone = true → s.d.sec.serdesDone = true →
     Safety.answers (.bootLoadingDone failed) s (fun t => t.fuses = s.fuses ∧ t.d.devState = stINIT
       ∧ t.d.get Obj.bootPhase = bpDONE ∧ t.d.srh.selftest = true
       ∧ (∀ c, c < 16 → t.d.get (Obj.clLoadState c) =
           if failed.testBit c ∨ (s.d.eng.images.getD (fun _ => {}) (s.d.get (Obj.clImageSlot c))).loadable = false
           then ldUNLOADED else ldLOADED))))

/-! ### Links and the MAC -/

/-- Training that completes takes the link to ALIGNING with a timer of 50 ms and every lane's signal present; lock takes it UP and
counts it, and a hold that runs with nothing held is over; each timer's expiry trains again, where a port with TRAINING = 0 has
nothing to train and is in ALIGNING, and the training timer's counts in TRAIN_FAILS where the port trains (Table 4-4, R110, R111).
Whether training completes is the command (log entry 3). A link that goes down trains again, is counted, and has its lost lanes'
signals read so; where the port's window is not 0, a hold starts with that window, and a frame in transmission is counted in
TX_ABORTED and its copy is gone; where it is 0 and there is nothing to flush, no hold starts (R113, R114, R124). A hold whose
window has passed with nothing held ends, and is counted (R126). That RX_SIGNAL follows training and the lanes that LINK_DOWN names is
the model's reading (log entry 42). -/
def Obligations.LinksRiseAndFall : Prop :=
  (∀ (p : Fin 128) (s : State),
     (s.d.link p = lkTRAINING →
       Safety.answers (.trainingComplete p) s (fun t => t.fuses = s.fuses ∧ t.d.link p = lkALIGNING
         ∧ (t.d.port p).timer = s.d.now + 50000000 ∧ (∀ l ∈ s.d.lanes p, t.d.get (Obj.laneRxSignal l) = 1)
         ∧ (∀ q, q ≠ p.val → t.d.port q = s.d.port q) ∧ t.d.swc = s.d.swc ∧ t.d.pkt = s.d.pkt))
     ∧ (s.d.link p = lkTRAINING → (s.d.port p).timer ≤ s.d.now →
       Safety.answers (.trainingTimeout p) s (fun t => Safety.trains s.d t.d p
         ∧ t.d.get (Obj.pstTrainFails p) = (if s.d.arr (portIsl p) (Obj.portTraining p) = 0 then s.d.get (Obj.pstTrainFails p)
             else wrapAdd (objWidth (Obj.pstTrainFails p)) (s.d.get (Obj.pstTrainFails p)) 1)
         ∧ t.d.swc = s.d.swc ∧ t.d.pkt = s.d.pkt
         ∧ Safety.onlyObjects [Obj.linkState p, Obj.pstTrainFails p] s.d t.d))
     ∧ (s.d.link p = lkALIGNING → s.d.holding p = false ∨ s.d.heldCopies p = [] →
       Safety.answers (.alignmentLock p) s (fun t => t.fuses = s.fuses ∧ t.d.link p = lkUP ∧ t.d.holding p = false
         ∧ t.d.get (Obj.pstLinkUps p) = wrapAdd (objWidth (Obj.pstLinkUps p)) (s.d.get (Obj.pstLinkUps p)) 1
         ∧ t.d.swc = s.d.swc ∧ t.d.pkt = s.d.pkt))
     ∧ (s.d.link p = lkALIGNING → (s.d.port p).timer ≤ s.d.now →
       Safety.answers (.alignmentTimeout p) s (fun t => Safety.trains s.d t.d p
         ∧ t.d.swc = s.d.swc ∧ t.d.pkt = s.d.pkt ∧ Safety.onlyObjects [Obj.linkState p] s.d t.d)))
  ∧ ((∀ (p : Fin 128) (lost : Nat) (s : State), s.d.link p = lkUP →
     let w := s.d.arr (portIsl p) (Obj.portLullWindowUs p)
     let falls := fun (t : State) => t.fuses = s.fuses ∧ Safety.trains s.d t.d p
       ∧ t.d.get (Obj.pstLinkDowns p) = wrapAdd (objWidth (Obj.pstLinkDowns p)) (s.d.get (Obj.pstLinkDowns p)) 1
       ∧ (∀ l ∈ s.d.lanes p, lost.testBit (l - p) = true → t.d.get (Obj.laneRxSignal l) = 0)
     let holds := fun (t : State) => t.d.holding p = true ∧ t.d.get (Obj.pstHoldStart p) = s.d.timeAt (portIsl p)
       ∧ (t.d.port p).holdWindow = w
       ∧ t.d.get (Obj.pstHolds p) = wrapAdd (objWidth (Obj.pstHolds p)) (s.d.get (Obj.pstHolds p)) 1
     (s.d.transmitting p = none → w ≠ 0 →
       Safety.answers (.linkDown p lost) s (fun t => falls t ∧ holds t ∧ t.d.swc = s.d.swc ∧ t.d.pkt = s.d.pkt))
     ∧ (∀ i, s.d.transmitting p = some i → w ≠ 0 →
       Safety.answers (.linkDown p lost) s (fun t => falls t ∧ holds t ∧ t.d.pkt.copies = s.d.pkt.copies.drop i
         ∧ t.d.get (Obj.pstTxAborted p) = wrapAdd (objWidth (Obj.pstTxAborted p)) (s.d.get (Obj.pstTxAborted p)) 1))
     ∧ (w = 0 → s.d.transmitting p = none → s.d.heldCopies p = [] →
       Safety.answers (.linkDown p lost) s (fun t => falls t ∧ t.d.holding p = s.d.holding p ∧ t.d.pkt = s.d.pkt)))
   ∧ (∀ (p : Fin 128) (s : State), s.d.windowOver p = true → s.d.heldCopies p = [] →
     Safety.answers (.lullWindowExpiry p) s (fun t => t.d.holding p = false ∧ t.d.link p = s.d.link p
       ∧ t.d.get (Obj.pstLullExpired p) = wrapAdd (objWidth (Obj.pstLullExpired p)) (s.d.get (Obj.pstLullExpired p)) 1
       ∧ t.d.swc = s.d.swc ∧ t.d.pkt = s.d.pkt
       ∧ Safety.onlyObjects [Obj.pstHoldState p, Obj.pstLullExpired p] s.d t.d)))

/-- A good frame of a port that is UP and ACTIVE, identified as a frame of tenant 0 or of a tenant that is ACTIVE, allowed on the
port and not throttled, and not in band, waits in the merge where its port's buffer has room, stamped with the port group's
current parity and with its FCS taken off, and is counted in INGRESS_OVERRUN where it has none; one whose FCS is wrong, or that
came with an uncorrectable codeword, counts in RX_FCS_ERRORS and one that cannot be identified in ID_DROPS, and enters no queue; a
frame at a stopped data plane is discarded and counted (R40, R117, R118, R122, R135, R136). A port's frame in transmission leaves
with its FCS and its copy is gone (R223, R460). The FEC codewords are those the frame brings, of each kind (log entry 42),
and that the FCS is checked before the size is the model's choice (log entry 50). -/
def Obligations.MacsReceiveAndSend : Prop :=
  (∀ (p : Fin 128) (b : Bytes) (n m : Nat) (s : State) (t cls : Nat) (tag : Tag),
    let par := (s.d.ptr (portIsl p)).parity
    let f : Frame := { bytes := dropFcs b, port := p, origin := p, pg := p / 32, tenant := t, cls := cls, parity := par,
                       entered := s.d.timeAt (portIsl p), tag := tag, since := s.d.now }
    s.d.defined p = true → s.d.forwards = true → s.d.link p = lkUP → s.d.frostState 2 p = 0 → fcsOk b = true →
    64 ≤ b.length → b.length ≤ s.d.cfg (portIsl p) par (Obj.portMaxFrame p) →
    s.d.identify p par (dropFcs b) = some (t, cls, tag) →
    (t = 0 ∨ (s.d.portAllowed (portIsl p) par t p = true ∧ s.d.frostState 1 t = 0 ∧ s.d.admitFrac t = 1024)) →
    s.d.inbandTest f = 0 →
    (¬ Config.rxBuffer p < s.d.portWaiting p →
      Safety.answers (.macReceive p b ⟨n, m⟩ 0) s (fun u => u.fuses = s.fuses
        ∧ (u.d.pgs (p / 32)).merge = (s.d.pgs (p / 32)).merge ++ [s.d.pkt.nextFrame]
        ∧ u.d.frame s.d.pkt.nextFrame = { f with stage := .merge }
        ∧ (∀ i, i ≠ s.d.pkt.nextFrame → u.d.frame i = s.d.frame i) ∧ u.d.swc = s.d.swc ∧ u.d.out = s.d.out
        ∧ u.d.get (Obj.pstRxFrames p) = wrapAdd (objWidth (Obj.pstRxFrames p)) (s.d.get (Obj.pstRxFrames p)) 1))
    ∧ (Config.rxBuffer p < s.d.portWaiting p →
      Safety.answers (.macReceive p b ⟨n, m⟩ 0) s (fun u => (u.d.pgs (p / 32)).merge = (s.d.pgs (p / 32)).merge
        ∧ u.d.pkt.frames = s.d.pkt.frames ∧ u.d.get (Obj.pstIngressOverrun p) =
            wrapAdd (objWidth (Obj.pstIngressOverrun p)) (s.d.get (Obj.pstIngressOverrun p)) 1)))
  ∧ (∀ (p : Fin 128) (b : Bytes) (n m k : Nat) (s : State), s.d.defined p = true →
    let counts := fun (o : Nat) => Safety.answers (.macReceive p b ⟨n, m⟩ k) s (fun u => u.d.pkt = s.d.pkt ∧ u.d.swc = s.d.swc
      ∧ u.d.out = s.d.out ∧ u.d.get o = wrapAdd (objWidth o) (s.d.get o) 1)
    (s.d.forwards = false → counts (Obj.pstRxDiscard p))
    ∧ (s.d.forwards = true → s.d.link p = lkUP → s.d.frostState 2 p = 0 →
      (k ≠ 0 ∨ fcsOk b = false → counts (Obj.pstRxFcsErrors p))
      ∧ (k = 0 → fcsOk b = true → 64 ≤ b.length →
          b.length ≤ s.d.cfg (portIsl p) (s.d.ptr (portIsl p)).parity (Obj.portMaxFrame p) →
          s.d.identify p (s.d.ptr (portIsl p)).parity (dropFcs b) = none → counts (Obj.pstIdDrops p))))
  ∧ (∀ (p : Fin 128) (i : Nat) (s : State), s.d.transmitting p = some i →
    let b := (s.d.copyRec i).out.getD []
    Safety.answers (.macTransmitEnd p) s (fun u => u.fuses = s.fuses ∧ u.d.out = s.d.out ++ [.frame p (b ++ fcsBytes b)]
      ∧ u.d.pkt.copies = s.d.pkt.copies.drop i ∧ u.d.svc = s.d.svc ∧ u.d.host = s.d.host))

/-! ### Parsing -/

/-- A free pipeline takes the frame at the head of the merge, which no flush or expiry removes, and walks the graph of its profile
over it: a walk that ends leaves the frame in the parser with its key area, its summary and its 64 cycles begun; a walk that ends
in a trap drops the frame where its profile drops that reason, and hands it, with its reason, to admission where it does not,
there to wait for landing room if there is none; a record that the walk meets uncorrectable, at a node that passes the limits of
depth, is LAST_ECC_NODE (R133, R140, R143, R148, R149; log entry 58 has the walk's choices). With no frame in the merge the frame of the inject queue is taken and counted, unless a recirculated one has its turn,
and a recirculated one has the next. A frame that has spent its cycles goes to the dispatch input, or to CRY first, with the key its key profile builds, and each
of its pre-lookups waits in the complex (R134, R153, R155). That the merge takes one frame per command is the model's choice (log
entry 43). -/
def Obligations.FramesAreParsed : Prop :=
  (∀ (pg : Fin 4) (s : State) (i : Nat) (rest : List Nat) (cell : EccOutcome) (node : Fin 256) (found : EccOutcome),
    s.d.dataRuns = true → s.d.pipelineFree pg = true → (s.d.pgs pg).merge = i :: rest → s.d.sweep i = none →
    let isl := islPG pg
    let f := s.d.frame i
    let g := fun k => s.d.cfg isl f.parity k
    let prof := g (Obj.tenParseProfile f.tenant)
    let meets := (s.d.walk pg i).1.reads.contains node.val = true ∧ (s.d.graphNode pg f.parity node).2 = false
    (∀ w payload, s.d.walk pg i = (w, .done payload) → found ≠ .uncorrectable ∨ ¬ meets →
      Safety.answers (.ingressMerge ⟨pg, cell, node, found⟩) s (fun t => t.fuses = s.fuses ∧ (t.d.pgs pg).merge = rest
        ∧ (t.d.pgs pg).parser = (s.d.pgs pg).parser ++ [i]
        ∧ t.d.frame i = parsedFrame f (g (Obj.profDefaultKeyProfile prof)) payload w (s.d.cycleOf isl)
        ∧ (∀ j, j ≠ i → t.d.frame j = s.d.frame j) ∧ t.d.swc = s.d.swc ∧ t.d.out = s.d.out))
    ∧ (∀ w reason off ecc at_, s.d.walk pg i = (w, .trap reason at_ off ecc) → found ≠ .uncorrectable ∨ ¬ meets →
      (bit (g (Obj.profTrapAction prof)) (reason - 1) = false → f.pg = pg.val →
        Safety.answers (.ingressMerge ⟨pg, cell, node, found⟩) s (fun t => (t.d.pgs pg).merge = rest
          ∧ ((t.d.pgs pg).admitting = (s.d.pgs pg).admitting ++ [i] ∨ (t.d.pgs pg).keyq = (s.d.pgs pg).keyq ++ [i])
          ∧ (t.d.frame i).reason = reason ∧ (t.d.frame i).bytes = f.bytes))
      ∧ (bit (g (Obj.profTrapAction prof)) (reason - 1) = true →
        Safety.answers (.ingressMerge ⟨pg, cell, node, found⟩) s (fun t => t.d.hasFrame i = false)))
    ∧ (found = .uncorrectable → meets → (∀ off ecc, (s.d.walk pg i).2 ≠ .trap 0x01 node.val off ecc) →
      Safety.answers (.ingressMerge ⟨pg, cell, node, found⟩) s (fun t => t.d.get (Obj.pgLastEccNode pg) = node.val)))
  ∧ (∀ (pg : Fin 4) (s : State) (i : Nat) (rest : List Nat) (cell : EccOutcome) (node : Fin 256),
    s.d.dataRuns = true → s.d.pipelineFree pg = true → (s.d.pgs pg).merge = [] → (s.d.pgs pg).inject = i :: rest →
    (s.d.pgs pg).recircNext = false ∨ s.d.recircWaits pg = false →
    Safety.answers (.ingressMerge ⟨pg, cell, node, .clean⟩) s (fun t => t.fuses = s.fuses
      ∧ t.d.get (Obj.pgInjectParsed pg) = wrapAdd (objWidth (Obj.pgInjectParsed pg)) (s.d.get (Obj.pgInjectParsed pg)) 1
      ∧ (t.d.pgs pg).recircNext = true))
  ∧ (∀ (pg : Fin 4) (s : State) (i : Nat) (rest : List Nat), s.d.dataRuns = true → (s.d.pgs pg).parser = i :: rest →
    s.d.parserReady pg i = true → s.d.sweep i = none →
    let f := s.d.frame i
    let prof := s.d.keyProfile pg f
    Safety.answers (.parseComplete pg) s (fun t => t.fuses = s.fuses ∧ (t.d.pgs pg).parser = rest
      ∧ (t.d.pgs pg).keyq = (s.d.pgs pg).keyq ++ [i]
      ∧ (t.d.frame i).key = buildKey prof f.key (summaryBytes f.summary)
      ∧ (t.d.frame i).stage = (if f.secEnd = 0 then .dispatchWait else .decrypt)
      ∧ (t.d.complexQueue pg).length = (s.d.complexQueue pg).length + (preLookups prof).length
      ∧ t.d.swc = s.d.swc ∧ t.d.out = s.d.out))

/-! ### Search -/

/-- The oldest request of a kind is answered, one result to the slot of its frame, in every case. At a complex that works and a
table that is enabled, that the frame's tenant may read and whose key takes the tenant's binding, an exact-match hit with nothing
in error carries the associated data of the key's record and a miss the table's miss data; a ternary search of the table's next
group carries the winning row's, or the profile's miss data, the tiles upset in it searched as they are; and a longest-prefix
lookup the data of the longest route that matches or the VRF's default (R163, R166, R168 to R170, R178, R183, R185). What the
cache answers is free (log entry 1), and the order of the checks is the model's reading (log entry 41). -/
def Obligations.LookupsAreServed : Prop :=
  ∀ (c : Fin 4) (s : State) (r : LookupReq) (d : Device) (x : EccOutcome) (us : List TileUpset),
    s.d.dataRuns = true → s.d.hasFrame r.frame = true →
    let res := fun (word status : Nat) => s.d.srh.results ++ [⟨r.frame, r.pass, r.slot, word, status⟩]
    let one := fun (cmd : Instr) => Safety.answers cmd s (fun t => t.fuses = s.fuses
      ∧ (∃ w st, t.d.srh.results = res w st) ∧ t.d.complexQueue c = d.complexQueue c)
    (s.d.takeRequest c 0 = some (r, d) → one (.tcamLookup c ⟨x, us⟩))
    ∧ (s.d.takeRequest c 1 = some (r, d) → one (.emLookup c x))
    ∧ (s.d.takeRequest c 2 = some (r, d) → one (.lpmLookup c x))
    ∧ (s.d.complexFailed c = false → x ≠ .uncorrectable →
      (∀ k, s.d.takeRequest c 1 = some (r, d) → r.table < 64 → s.d.mayLookup r (0xE500 + r.table) = true →
        let w := s.d.cfg islSRH r.parity (Obj.emKeyBytes r.table)
        let e := s.d.emCfg ((s.d.ptr islSRH).copy r.parity 4) r.table
        let found := s.d.emFind e r.table r.parity k
        s.d.cfg islSRH r.parity (Obj.emEnable r.table) = 1 →
        bindKey w (s.d.cfg islSRH r.parity (Obj.emTenantBind r.table)) r.tenant (fitKey w r.key) = some k →
        found = none ∨ entryName r.table (recKey k) ∉ s.d.srh.entryErrors →
        (∀ l ∈ s.d.emLines e r.table r.parity k, s.d.lineLost l = false) →
        Safety.answers (.emLookup c x) s (fun t => ∃ cached, t.d.srh.results =
          match found with
          | some y => res (s.d.emRecord r.table y.2).ad (lkStatus 1 1 0 c 0 cached 0)
          | none => res (s.d.cfg islSRH r.parity (Obj.emMissData r.table)) (lkStatus 0 1 0 c 0 cached 0)))
      ∧ (∀ k, s.d.takeRequest c 0 = some (r, d) →
        let t := s.d.cfg islSRH r.parity (Obj.sprofTable r.table)
        let w := 10 * s.d.cfg islSRH r.parity (Obj.tcamWidth t)
        let b := s.d.cfg islSRH r.parity (Obj.sprofTenantBind r.table)
        let g := nextGroup (s.d.srh.rotation.getD (fun _ => 15) (64 * c + t)) (s.d.tableGroups c t)
        let m := s.d.searchMap r.parity c g
        let mask := bindMask b (beBytes 80 (s.d.cfg islSRH r.parity (Obj.sprofGlobalMask r.table)))
        t ≠ 0xFF → s.d.mayLookup r (0xE400 + t) = true → s.d.tableGroups c t ≠ [] →
        bindKey w b r.tenant (fitKey w r.key) = some k →
        Safety.answers (.tcamLookup c ⟨x, us⟩) s (fun u => u.d.srh.results =
          match (s.d.tilesUpset c us).tcamWinner m (keyNum k) (keyNum mask) r.parity with
          | some y => res (s.d.tcamRow t y).ad (lkStatus 1 0 0 c g false y)
          | none => res (s.d.cfg islSRH r.parity (Obj.sprofMissData r.table)) (lkStatus 0 0 0 c 0 false 0)))
      ∧ (s.d.takeRequest c 2 = some (r, d) → s.d.mayLookup r 0xE600 = true → r.vrfOk = true →
        let fam := r.table % 2
        let e := s.d.vrfEntry r.parity r.vrf
        let addr := beNat (fitKey (famBits fam / 8) r.key)
        let found := longestRoute (s.d.routes r.parity) r.vrf fam addr (famBits fam)
        vrfEnabled e fam = true → s.d.lpmLost r.parity = false ∨ s.d.familyRouted r.parity r.vrf fam = false →
        (∀ y, found = some y → matchedRoute r.vrf fam addr y.1 ∉ s.d.srh.routeErrors) →
        Safety.answers (.lpmLookup c x) s (fun t => ∃ cached, t.d.srh.results =
          match found with
          | some y => res y.2 (lkStatus 1 2 0 c 0 cached y.1)
          | none => res (beAt e (16 + 8 * fam) 8) (lkStatus 0 2 0 c 0 cached 0))))

/-- Where group 3 has a shadow, a group whose fill is done is enabled in it; where group 4 has one, a table whose clearing is done
is; neither changes an active value (R175, R181). A pending batch runs its commands, is pending no longer and event 201 names its
window; one of a single command reports what that gave (R188, R189). The cascade self-test sets each complex's geometry (R176).
When the work is due is the model's choice (log entries 14 and 45). -/
def Obligations.TableWorkCompletes : Prop :=
  (∀ (c : Fin 4) (g : Fin 16) (s : State), s.d.awake = true → (16 * c.val + g.val) ∈ s.d.srh.fills →
     s.d.noShadow 3 = false →
    let i := 16 * c.val + g.val
    Safety.answers (.groupFillDone c g) s (fun t => t.fuses = s.fuses ∧ t.d.shadow (Obj.grpEnable i) = 1
      ∧ (∀ k, t.d.active k = s.d.active k) ∧ (∀ k, k ≠ Obj.grpEnable i → t.d.shadow k = s.d.shadow k)
      ∧ t.d.srh.fills = s.d.srh.fills.erase i))
  ∧ (∀ (t : Fin 64) (s : State), s.d.awake = true → t.val ∈ s.d.srh.clears → s.d.noShadow 4 = false →
    Safety.answers (.emClearDone t) s (fun u => u.fuses = s.fuses ∧ u.d.shadow (Obj.emEnable t) = 1
      ∧ (∀ k, u.d.active k = s.d.active k) ∧ u.d.srh.clears = s.d.srh.clears.erase t.val))
  ∧ (∀ (t n : Nat) (s : State), s.d.awake = true → s.d.srh.emBatch = some (t, n) →
    let r := s.d.emCommand t (s.d.memRead (Obj.domEmCommand t) 0 64)
    Safety.answers (.tableBatchDone false) s (fun u => u.fuses = s.fuses
      ∧ u.d.srh = { (s.d.emBatchRun t n).srh with emBatch := none } ∧ Safety.reports u.d islSRH 201 (0xE500 + t)
      ∧ (n = 1 → u.d.srh = { r.1.srh with emBatch := none }
          ∧ u.d.memRead (Obj.domEmResult t) 0 16 = resultRecord r.2.1 r.2.2)))
  ∧ (∀ (n : Nat) (s : State), s.d.awake = true → s.d.srh.lpmBatch = some n →
    let r := s.d.lpmCommand (s.d.memRead Obj.domLpmCommand 0 64)
    Safety.answers (.tableBatchDone true) s (fun u => u.fuses = s.fuses
      ∧ u.d.srh = { (s.d.lpmBatchRun n).srh with lpmBatch := none } ∧ Safety.reports u.d islSRH 201 0xE600
      ∧ (n = 1 → u.d.srh = { r.1.srh with lpmBatch := none }
          ∧ u.d.memRead Obj.domLpmResult 0 16 = resultRecord r.2.1 r.2.2)))
  ∧ (∀ (l : List SelfTest) (s : State), s.d.awake = true → s.d.srh.selftest = true →
    Safety.answers (.cascadeSelftestDone l) s (fun u => u.fuses = s.fuses ∧ u.d.srh.selftest = false
      ∧ ∀ c, c < 4 →
        let x := l.getD c { failedTiles := 0, shortFailed := false }
        u.d.get (Obj.cxGeometry c) = (if x.shortFailed then 2 else if x.failedTiles % 2 ^ 64 ≠ 0 then 1 else 0)
        ∧ u.d.get (Obj.cxSelftestDetail c) = x.failedTiles % 2 ^ 64))

/-! ### The engines -/

/-- A frame at the head of the dispatch input, decrypted and parsed, which no flush or expiry removes, goes to the considered
cluster with most credits, where one is left and the frame can land: it takes the next number of its order domain, spends a
credit, and, where the credits fit the threads, owns the lowest of the threads that were free in the engine of its port group's share
that has most of them, at its profile's entry, which ends at once where the image has none; every other thread stands, and the credits
still fit (R198 to R202, R285); where no credit is left or it cannot land, it waits; where no cluster is considered, it is dropped and
counted; one that no engine takes goes on to admission once it can land (R37, R148). A credit on its way back returns, and the
credits still fit; with none on its way nothing changes. A thread that hands its result on is free, and the credits still fit. They
fit at reset (R198). -/
def Obligations.FramesAreDispatched : Prop :=
  (∀ (pg : Fin 4) (s : State) (i : Nat) (rest : List Nat), (s.d.pgs pg).keyq = i :: rest → s.d.dataRuns = true →
    let f := s.d.frame i
    let c := s.d.pickCluster pg (s.d.pgs pg).lastCluster (s.d.considered pg f)
    let dom := 16384 * pg.val + s.d.orderLocal pg f
    let entry := (s.d.cluster c).image.entries.getD f.profile 0x3FFF
    f.stage ≠ .decrypt → s.d.sweep i = none →
    (f.walked = true → f.reason = 0 →
      (s.d.considered pg f ≠ [] → s.d.credits pg c ≠ 0 → s.d.roomToLand i = true →
        Safety.answers (.dispatch pg) s (fun t => t.fuses = s.fuses ∧ (t.d.pgs pg).keyq = rest
          ∧ t.d.credits pg c = s.d.credits pg c - 1
          ∧ t.d.eng.odSeq.getD (fun _ => 0) dom = (s.d.eng.odSeq.getD (fun _ => 0) dom + 1) % 65536
          ∧ (Safety.creditsKept s.d → Safety.creditsKept t.d
              ∧ ∃ e n, 16 * pg.val ≤ e ∧ e < 16 * pg.val + 16 ∧ n < 16 ∧ s.d.thread? (threadKey c e n) = none
                ∧ (∀ m, m < n → s.d.thread? (threadKey c e m) ≠ none)
                ∧ (∀ e', 16 * pg.val ≤ e' → e' < 16 * pg.val + 16 →
                    (s.d.freeThreads c e').length ≤ (s.d.freeThreads c e).length
                    ∧ (e' < e → (s.d.freeThreads c e').length < (s.d.freeThreads c e).length))
                ∧ (∀ j, j ≠ threadKey c e n → t.d.thread? j = s.d.thread? j)
                ∧ ∃ x, t.d.thread? (threadKey c e n) = some x ∧ x.frame = i ∧ x.pc = entry ∧ x.tenant = f.tenant
                  ∧ x.state = (if entry = 0x3FFF then .ending else .ready))
          ∧ (entry ≠ 0x3FFF → (t.d.frame i).stage = .thread ∧ (t.d.frame i).domain = dom
              ∧ (t.d.frame i).seq = s.d.eng.odSeq.getD (fun _ => 0) dom ∧ t.d.swc = s.d.swc ∧ t.d.out = s.d.out)))
      ∧ (s.d.considered pg f ≠ [] → s.d.credits pg c = 0 ∨ s.d.roomToLand i = false →
        Sys2Proof.Machine.exec (.dispatch pg) s = .next s)
      ∧ (s.d.considered pg f = [] → Safety.answers (.dispatch pg) s (fun t => t.d.hasFrame i = false
          ∧ t.d.get (Obj.dispStatNoClusterDrops pg) =
              wrapAdd (objWidth (Obj.dispStatNoClusterDrops pg)) (s.d.get (Obj.dispStatNoClusterDrops pg)) 1)))
    ∧ (f.walked = false ∨ f.reason ≠ 0 → f.pg = pg.val → s.d.roomToLand i = true →
      Safety.answers (.dispatch pg) s (fun t => (t.d.pgs pg).keyq = rest
        ∧ (t.d.pgs pg).admitting = (s.d.pgs pg).admitting ++ [i] ∧ (t.d.frame i).stage = .admitting))
    ∧ (f.walked = false ∨ f.reason ≠ 0 → s.d.roomToLand i = false → Sys2Proof.Machine.exec (.dispatch pg) s = .next s))
  ∧ (∀ (pg : Fin 4) (c : Fin 16) (s : State), s.d.dataRuns = true →
    let back := fun (d : Device) => d.eng.returning.getD (fun _ => 0) (pg.val * 16 + c.val)
    (∀ r, back s.d = r + 1 → Safety.creditsKept s.d → Safety.answers (.creditReturn pg c) s (fun t => t.fuses = s.fuses
      ∧ back t.d = r ∧ t.d.credits pg c = s.d.credits pg c + 1 ∧ Safety.creditsKept t.d
      ∧ (∀ x y, x < 4 → y < 16 → (x, y) ≠ (pg.val, c.val) → t.d.credits x y = s.d.credits x y)
      ∧ t.d = { s.d with eng := { s.d.eng with returning := t.d.eng.returning, spent := t.d.eng.spent } }))
    ∧ (back s.d = 0 → Sys2Proof.Machine.exec (.creditReturn pg c) s = .next s))
  ∧ (∀ (c : Fin 16) (e : Fin 64) (n : Fin 16) (s : State) (x : Thread), s.d.dataRuns = true →
    s.d.thread? (threadKey c e n) = some x → x.state = .ending → (s.d.frame x.frame).pg = e.val / 16 → Safety.creditsKept s.d →
    Safety.answers (.resultAccepted c e n) s (fun t => Safety.creditsKept t.d ∧ t.d.thread? (threadKey c e n) = none))
  ∧ Safety.creditsKept State.reset.d

/-- An engine that holds one thread, which may issue, issues its microword, its ALUs and its window unit acting with the values the
thread held and its sampler off: NEXT, JUMP, the WAY modes, CALL, RETURN and YIELD then take the thread to the address Table 7-6
gives, and END with no stop asked makes it ENDING with the disposition it had; the thread may issue again four cycles later (R196,
R205, R207, R208, R209, R217). A microword that looks up asks its complex and its slot is outstanding (R211); a thread about
to issue after 512 issues since it last yielded, and one whose fetch meets an uncorrectable error, is torn (R221, R230). A small
store's sequencer goes to its microword's target, to the next address, or by its condition (R226). The readings of the units are
those of log entry 24. -/
def Obligations.MicrowordsRun : Prop :=
  (∀ (c : Fin 16) (e : Fin 64) (n : Fin 16) (fetch : EccOutcome) (s : State) (t : Thread), s.d.dataRuns = true →
    let k := threadKey c e n
    let f := s.d.frame t.frame
    let now := s.d.engCycle c e + 1
    s.d.thread? k = some t → (∀ m : Fin 16, m ≠ n → s.d.thread? (threadKey c e m) = none) →
    t.state = .ready → t.nextIssue ≤ now →
    let w := (s.d.cluster c).image.fetch t.pc
    let t1 := { t with yieldCount := t.yieldCount + 1, issued := t.issued + 1, nextIssue := now + 4 }
    let torn := Safety.answers (.microwordIssue c ⟨e, fetch⟩) s (fun u => ∃ x, u.d.thread? k = some x ∧ x.state = .ending
      ∧ x.result.torn = true ∧ x.result.stopAddr = t.pc ∧ x.result.disp = .trap ∧ (u.d.frame t.frame).reason = 8)
    ((s.d.cluster c).fetchError t.pc = true → torn)
    ∧ ((s.d.cluster c).fetchError t.pc = false → s.d.waits t f w = none →
      (fetch = .uncorrectable ∨ 512 ≤ t.yieldCount → torn)
      ∧ (fetch ≠ .uncorrectable → t.yieldCount < 512 → s.d.get (Obj.smpSampleEnable c) ≠ 1 → nwSide w.nw = 0 → nwAction w.nw = 0 →
        let imm := nwImm w.nw
        let stat := fun g => (f.slot (bits g 21 20)).status
        let ga := nwAluA w.nw
        let gb := nwAluB w.nw
        let ta := if w.enA then t1.alu true ga (mwDst w.mw) (t1.read f imm (mwSrcA w.mw)) (t1.read f imm (mwSrcB w.mw)) (stat ga)
                  else t1
        let tb := if w.enB then ta.alu false gb (bits gb 9 5) (t1.read f imm (bits gb 4 0)) imm (stat gb) else ta
        let x := (tb.windowUnit t1 f imm w).1
        let target := mwTarget w.mw
        let cond := condGroup t1 f (mwCsel w.mw)
        (w.lookup = false →
          let runs := fun (p : Thread → Prop) => Safety.answers (.microwordIssue c ⟨e, fetch⟩) s (fun u => u.fuses = s.fuses
            ∧ (∃ y, u.d.thread? k = some y ∧ p y) ∧ (∀ j, j ≠ k → u.d.thread? j = s.d.thread? j)
            ∧ u.d.engCycle c e = now ∧ u.d.pkt = s.d.pkt ∧ u.d.srh = s.d.srh ∧ u.d.swc = s.d.swc
            ∧ u.d.get (Obj.clMicrowords c) = wrapAdd (objWidth (Obj.clMicrowords c)) (s.d.get (Obj.clMicrowords c)) 1
            ∧ Safety.onlyObjects [Obj.clMicrowords c, Obj.clStoreEccCorrected c] s.d u.d)
          let noStop := s.d.flushStops c t.tenant = false ∧ s.d.expires f.parity = false
          (w.seq = .next → runs (fun y => y = { x with pc := (t.pc + 1) % 16384 }))
          ∧ (w.seq = .jump → runs (fun y => y = { x with pc := target }))
          ∧ (w.seq = .way2 → runs (fun y => y = { x with pc := target ||| cond % 2 }))
          ∧ (w.seq = .way4 → runs (fun y => y = { x with pc := target ||| cond % 4 }))
          ∧ (w.seq = .way16 → runs (fun y => y = { x with pc := target ||| cond % 16 }))
          ∧ (w.seq = .call → target ≠ 0x3FFF → t.callRet = none →
              runs (fun y => y = { x with pc := target, callRet := some ((t.pc + 1) % 16384) }))
          ∧ (∀ a, w.seq = .call → target = 0x3FFF → t.callRet = some a → runs (fun y => y = { x with pc := a, callRet := none }))
          ∧ (w.seq = .yield → noStop → runs (fun y => y = { x with yieldCount := 0, pc := (t.pc + 1) % 16384 }))
          ∧ (w.seq = .stop → noStop → f.decrypted = false →
              runs (fun y => y.state = .ending ∧ y.frame = t.frame ∧ y.result.disp = t.result.disp ∧ y.result.tenant = t.tenant)))
        ∧ (w.lookup = true → w.seq = .next → w.lookupSlot < f.slots.length →
          Safety.answers (.microwordIssue c ⟨e, fetch⟩) s (fun u => u.d.thread? k = some { x with pc := (t.pc + 1) % 16384 }
            ∧ ((u.d.frame t.frame).slot w.lookupSlot).pending = true
            ∧ ∃ r, u.d.complexQueue f.pg = s.d.complexQueue f.pg ++ [r] ∧ r.frame = t.frame ∧ r.pass = f.pass
                ∧ r.slot = w.lookupSlot ∧ r.key = lookupKey t1 f (nwLookup w.nw))))))
  ∧ (∀ (n : Fin 3) (cond : Bool) (s : State),
    let x := s.d.eng.small.getD (fun _ => {}) n
    let w := x.micro.getD x.pc 0
    Safety.answers (.smallStoreMicroword n cond) s (fun t =>
      (t.d.eng.small.getD (fun _ => {}) n).pc =
        (if bits w 13 10 = 15 ∨ (bits w 13 10 ≠ 0 ∧ cond = true) then (x.pc + 1) % 1024 else bits w 23 14)
      ∧ (t.d.eng.small.getD (fun _ => {}) n).micro = x.micro
      ∧ t.d.dict = s.d.dict ∧ t.d.pkt = s.d.pkt ∧ t.d.eng.threads = s.d.eng.threads))

/-- What reaches a thread: the result at the head of its cluster's channel fills its slot with its status; a verdict settles its
number's mark, and one that fails counts in AUTH_FAILS (R156, R258, R260, R279); the oldest answer to a pool operation on its
cluster's channel sets register 15 and the outcome of the thread that asked (R19, R215). Its oldest side effect goes into its cluster's channel (R197). A thread that is ENDING hands its frame and its
result to the reorder stage, with the side effects it still has, and is free, and its credit sets out; a flush of its tenant or
its cluster makes the result a DROP (R101, R198, R203, R214). When each arrives is the command's choice (log entries 28 and 45). -/
def Obligations.ThreadsAreServed : Prop :=
  ∀ (c : Fin 16) (e : Fin 64) (n : Fin 16) (s : State) (x : Thread), s.d.dataRuns = true →
    let k := threadKey c e n
    let i := x.frame
    let f := s.d.frame i
    s.d.thread? k = some x →
    (∀ r rest, takeResult (fun r => s.d.clusterHolds c r.frame) s.d.srh.results = some (r, rest) → r.frame = i →
      r.slot < f.slots.length →
      Safety.answers (.lookupResultArrival c e n) s (fun t => t.d.srh = { s.d.srh with results := rest }
        ∧ (t.d.frame i).slot r.slot = { word := r.word, status := r.status }
        ∧ (∀ m, m ≠ r.slot → (t.d.frame i).slot m = f.slot m) ∧ t.d.eng = s.d.eng ∧ t.d.dict = s.d.dict))
    ∧ (∀ v a, f.verdictDue = some v → f.sa = some a →
      Safety.answers (.verdictArrival c e n) s (fun t => t.d.frame i = { f with verdict := some v, verdictDue := none }
        ∧ t.d.saFor f.parity a = (s.d.saFor f.parity a).settle f.saNumber v ∧ t.d.eng = s.d.eng
        ∧ t.d.get Obj.cryAuthFails = (if v then s.d.get Obj.cryAuthFails
            else wrapAdd (objWidth Obj.cryAuthFails) (s.d.get Obj.cryAuthFails) 1)
        ∧ (v = true → t.d.dict = s.d.dict)))
    ∧ (∀ code h, s.d.answerTo c = some (k, code, h) → x.g.length = 16 →
      Safety.answers (.poolResultArrival c e n) s (fun t => t.d.eng.poolAnswers = s.d.eng.poolAnswers.filter (fun y => y.1 != k)
        ∧ (∃ y, t.d.thread? k = some y ∧ y.g = x.g.set 15 (if code = 0 then h else 0) ∧ y.poolPending = false
          ∧ y.poolOut = (if code = 0 then 1 else if code = 1 then 2 else 3) ∧ y.pc = x.pc)
        ∧ t.d.pkt = s.d.pkt ∧ t.d.dict = s.d.dict))
    ∧ (∀ y rest, x.sides = y :: rest →
      Safety.answers (.sideEffectAccepted c e n) s (fun t => t.d.thread? k = some { x with sides := rest }
        ∧ t.d.eng.channel.getD (fun _ => []) c = s.d.eng.channel.getD (fun _ => []) c ++ [(k, y)]
        ∧ t.d.pkt = s.d.pkt ∧ t.d.dict = s.d.dict))
    ∧ (x.state = .ending →
      let flushed := s.d.flushedTenant x.tenant || ((s.d.frostFn 3 c).flushing && f.cause != trapSTORE)
      Safety.answers (.resultAccepted c e n) s (fun t => t.fuses = s.fuses ∧ t.d.thread? k = none
        ∧ t.d.swc.results.getD (fun _ => []) f.pg = s.d.swc.results.getD (fun _ => []) f.pg ++ [i]
        ∧ (t.d.frame i).stage = .reorder ∧ (t.d.frame i).tenant = x.tenant
        ∧ (flushed = false → (t.d.frame i).result = x.result) ∧ (flushed = true → (t.d.frame i).result.disp = .drop)
        ∧ t.d.eng.channel.getD (fun _ => []) c = s.d.eng.channel.getD (fun _ => []) c ++ x.sides.map (fun y => (k, y))
        ∧ t.d.eng.returning.getD (fun _ => 0) (f.pg * 16 + c.val) = s.d.eng.returning.getD (fun _ => 0) (f.pg * 16 + c.val) + 1
        ∧ t.d.get (Obj.clFramesEnded c) = wrapAdd (objWidth (Obj.clFramesEnded c)) (s.d.get (Obj.clFramesEnded c)) 1))

/-- A loading cluster whose stores hold the image of its slot, which the loader accepts, is being tested; one whose hash fails or
whose image the loader does not accept is UNLOADED, with event 801, and holds no image; a test that passes leaves it LOADED and
counted, and ACTIVE if it was before its reload, and one that fails UNLOADED (R207, R216, R230, R231, Table 7-19). Whether a hash
or a test passes is an operand (log entry 3); that the load rejects an image the loader does not accept, with event 801, is the
model's reading (log entry 35). -/
def Obligations.ClustersLoad : Prop :=
  ∀ (c : Fin 16) (s : State), s.d.dataRuns = true →
    let image := s.d.eng.images.getD (fun _ => {}) (s.d.cluster c).slot
    (s.d.get (Obj.clLoadState c) = ldLOADING → ∀ ok : Bool,
      ((ok = true ∧ image.loadable = true) →
        Safety.answers (.reloadStoresWritten c ok) s (fun t => t.fuses = s.fuses ∧ t.d.get (Obj.clLoadState c) = ldTESTING
          ∧ (t.d.cluster c).image = image ∧ Safety.onlyObjects [Obj.clLoadState c] s.d t.d ∧ t.d.eng.threads = s.d.eng.threads))
      ∧ ((ok = false ∨ image.loadable = false) →
        Safety.answers (.reloadStoresWritten c ok) s (fun t => t.fuses = s.fuses ∧ t.d.get (Obj.clLoadState c) = ldUNLOADED
          ∧ (t.d.cluster c).image = {} ∧ Safety.reports t.d islMGT 801 (c * 256) ∧ t.d.eng.threads = s.d.eng.threads)))
    ∧ (s.d.get (Obj.clLoadState c) = ldTESTING →
      Safety.answers (.reloadSelftestDone c true) s (fun t => t.fuses = s.fuses ∧ t.d.get (Obj.clLoadState c) = ldLOADED
        ∧ t.d.get (Obj.clReloads c) = satAdd (objWidth (Obj.clReloads c)) (s.d.get (Obj.clReloads c)) 1
        ∧ ((s.d.cluster c).wasActive = true → s.d.frostState 3 c = 2 → t.d.frostState 3 c = 0)
        ∧ (t.d.cluster c).image = (s.d.cluster c).image ∧ t.d.eng.threads = s.d.eng.threads)
      ∧ Safety.answers (.reloadSelftestDone c false) s (fun t => t.fuses = s.fuses ∧ t.d.get (Obj.clLoadState c) = ldUNLOADED
        ∧ (t.d.cluster c).image = {} ∧ t.d.eng.threads = s.d.eng.threads))

/-! ### Crypto -/

/-- The oldest frame of a port group that waits for CRY, which no flush or expiry removes: one that matches no SA goes on as it came
and is counted, and so does one that Table 3-3 or the key store refuses; one whose SA is not ACTIVE or has no key, that is
malformed or whose number fails the replay test is dropped; any other waits for a pipeline, and once one takes it is handed back
decrypted with the verdict of its tag to come and its number marked (R256, R258, R259, R262). A copy that awaits encryption, the
first to have reached CRY, leaves it sealed with the SA's next number once a pipeline takes it, and the number advances until the
last, which exhausts the SA; one whose SA does not serve it is dropped (R254, R263 to R267). The protocols are those of the
standards the rules name (log entries 30 and 44). -/
def Obligations.InlineCryptoRuns : Prop :=
  (∀ (pg : Fin 4) (s : State) (i : Nat), s.d.dataRuns = true → s.d.decryptHead pg = some i → s.d.sweep i = none →
    let f := s.d.frame i
    (s.d.matchSa f = none → Safety.answers (.ingressDecrypt pg) s (fun t => t.fuses = s.fuses
      ∧ t.d.frame i = { f with stage := .dispatchWait, since := s.d.now }
      ∧ t.d.get Obj.cryNoSaFrames = wrapAdd (objWidth Obj.cryNoSaFrames) (s.d.get Obj.cryNoSaFrames) 1
      ∧ Safety.onlyObjects [Obj.cryNoSaFrames] s.d t.d ∧ t.d.cry = s.d.cry))
    ∧ (∀ a, s.d.matchSa f = some a →
      let cp := s.d.saCopy f.parity
      let c := s.d.saCfg cp a
      let x := s.d.saFor f.parity a
      let parts := if f.secEnd = 1 then espParts x c f.bytes f.secOff else macsecParts x c f.bytes f.secOff
      let may := s.d.inKeyScope f.parity f.tenant a && s.d.mayFrame islCRY f.parity 1 f.tenant a rKEYUSE
      let serves := s.d.frostState 4 a = 0 ∧ s.d.keyPresent cp a = true
      let gone := Safety.answers (.ingressDecrypt pg) s (fun t => t.d.hasFrame i = false)
      (may = false → Safety.answers (.ingressDecrypt pg) s (fun t => (t.d.frame i).stage = .dispatchWait
        ∧ (t.d.frame i).bytes = f.bytes ∧ (t.d.frame i).decrypted = f.decrypted ∧ t.d.cry = s.d.cry))
      ∧ (may = true → ¬ serves → gone)
      ∧ (may = true → serves → parts = none → gone)
      ∧ (∀ p, may = true → serves → parts = some p →
        (x.replayOk c.window p.number = false → gone)
        ∧ (x.replayOk c.window p.number = true →
          let r := if f.secEnd = 2 ∧ c.confOff then
              (p.text, decide (gcmTag (roundKeys (s.d.gcmKey cp a)) p.nonce p.aad [] = p.icv))
            else gcmDecrypt (s.d.gcmKey cp a) p.nonce p.aad p.text p.icv
          (s.d.pipeFor true i = none → Sys2Proof.Machine.exec (.ingressDecrypt pg) s = .next s)
          ∧ (s.d.pipeFor true i ≠ none →
            (plainFrame f a c p r.1 = none → gone)
            ∧ ∀ b, plainFrame f a c p r.1 = some b → Safety.answers (.ingressDecrypt pg) s (fun t => t.fuses = s.fuses
              ∧ (t.d.frame i).bytes = b ∧ (t.d.frame i).decrypted = true ∧ (t.d.frame i).verdict = none
              ∧ (t.d.frame i).verdictDue = some r.2 ∧ (t.d.frame i).sa = some a ∧ (t.d.frame i).saNumber = p.number
              ∧ (t.d.frame i).stage = .dispatchWait ∧ t.d.saFor f.parity a = x.mark1 c.window p.number
              ∧ t.d.get Obj.cryInlineDecrypts = wrapAdd (objWidth Obj.cryInlineDecrypts) (s.d.get Obj.cryInlineDecrypts) 1))))))
  ∧ (∀ (p : Fin 128) (s : State) (i : Nat), s.d.dataRuns = true → s.d.encryptHead p = some i →
    let cr := s.d.copyRec i
    let f := s.d.frame cr.frame
    (f.result.sa = none → Sys2Proof.Machine.exec (.egressEncrypt p) s =
      .next { s with d := s.d.setCopy i { cr with needsCrypto := false } })
    ∧ (∀ a, f.result.sa = some a →
      let c := s.d.saCfg (s.d.saCopy f.parity) a
      let x := s.d.saFor f.parity a
      let b := cr.out.getD []
      let out := s.d.sealCopy f.parity a b
      let last := if c.ext then 2 ^ 64 - 1 else 2 ^ 32 - 1
      let fits := s.d.inKeyScope f.parity f.tenant a = true ∧ s.d.mayFrame islCRY f.parity 1 f.tenant a rKEYUSE = true
        ∧ s.d.frostState 4 a = 0 ∧ s.d.encrypts f.parity a = true ∧ (x.isSealed = true → c.tenant = f.tenant)
        ∧ x.exhausted = false ∧ (c.ty = saESPOUT → c.encOffset + 16 ≤ b.length)
        ∧ out.length + 4 ≤ s.d.cfg islSWC f.parity (Obj.portMaxFrame p)
      (¬ fits → Safety.answers (.egressEncrypt p) s (fun t => t.fuses = s.fuses ∧ t.d.pkt.copies = s.d.pkt.copies.drop i))
      ∧ (fits → s.d.pipeFor false i = none → Sys2Proof.Machine.exec (.egressEncrypt p) s = .next s)
      ∧ (fits → s.d.pipeFor false i ≠ none → Safety.answers (.egressEncrypt p) s (fun t => t.fuses = s.fuses
          ∧ t.d.copyRec i = { cr with out := some out, needsCrypto := false }
          ∧ (t.d.saFor f.parity a).tx = (if x.tx = last then last else x.tx + 1)
          ∧ ((t.d.saFor f.parity a).exhausted = true ↔ x.tx = last) ∧ t.d.out = s.d.out ∧ t.d.tm = s.d.tm))))

/-- A job ring's descriptor becomes a job in the queue, in order, and HEAD advances; one whose SA a ring may not use completes as
DENIED, and a failed read stops the ring (R271, R405, R408). A sector frame that is well formed becomes a job, one that delivers a
key waits as a delivery while fewer than 64 do, and any other queues nothing (R273, R281). The next job, if its checks pass, starts
on the lowest idle engine with the keys of the moment, or ends at once; one that was suspended resumes; a SQUALL job with no idle
engine suspends a victim, or waits and is counted (R275 to R277). A job's end frees its engine, writes a ring's data and its
completion, and stops the ring of one whose read failed (R405, R408). A key delivery that a tenant may make stages the key it
unwraps to and its epoch; any other is counted, and no key changes (R280). Decapsulation is that of log entry 2; when a delivery is
read is the model's reading (log entry 31). -/
def Obligations.JobsAreTakenAndRun : Prop :=
  (∀ (r : Fin 16) (s : State), s.d.jobRingReady (128 + r.val) = true →
    let g := 128 + r.val
    Safety.answers (.jobDescriptorTake r none) s (fun t => t.d.get (Obj.ringEnable g) = 0
      ∧ Safety.reports t.d islMGT 866 (r.val + 7 * 2 ^ 8) ∧ t.d.cry = s.d.cry)
    ∧ (∀ b src : Bytes,
      let j := hostJob r (s.d.ring g).head (4096 + s.d.owner g) b src
      let may := (s.d.ringRight g).2 && s.d.mayNow islCRY 1 j.master j.sa rKEYUSE && (s.d.saCfg s.d.saCopyNow j.sa).hostJobs
        && !(s.d.saState j.sa).isSealed
      let on := fun (t : State) => t.fuses = s.fuses ∧ (t.d.ring g).head = ((s.d.ring g).head + 1) % s.d.get (Obj.ringEntries g)
      (may = true → Safety.answers (.jobDescriptorTake r (some ⟨b, src⟩)) s (fun t => on t ∧ t.d.cry.queue = s.d.cry.queue ++ [j]
        ∧ (t.d.ring g).taken = (s.d.ring g).taken + 1 ∧ t.d.dict = s.d.dict ∧ t.d.out = s.d.out))
      ∧ (may = false → Safety.answers (.jobDescriptorTake r (some ⟨b, src⟩)) s (fun t => on t ∧ t.d.cry.queue = s.d.cry.queue
        ∧ (t.d.ring g).done = (s.d.ring g).done + 1 ∧ Output.dma (s.d.owner g)
            (s.d.get (Obj.ringCompBase r) + 32 * (s.d.ring g).ctail) (j.completion jsDENIED 0 []) false ∈ t.d.out))))
  ∧ (∀ (s : State) (i : Nat) (rest : List Nat), s.d.dataRuns = true → (s.d.port 130).tx = i :: rest →
    let b := (s.d.copyRec i).out.getD []
    let t := (s.d.frame (s.d.copyRec i).frame).tenant
    let k := s.d.requestClass b (s.d.copyRec i).cls
    let job := s.d.sectorBad b = false ∧ byteAt b 24 / 64 ≠ 2
    let delivers := s.d.sectorBad b = false ∧ byteAt b 24 / 64 = 2 ∧ beAt b 26 2 = 1200 ∧ s.d.cry.deliveries.length < 64
    Safety.answers .sectorFrameHandoff s (fun u => u.fuses = s.fuses ∧ u.d.pkt.copies = s.d.pkt.copies.drop i
      ∧ (job → u.d.cry.queue = s.d.cry.queue ++ [sectorJob b t k (s.d.copyRec i).frame]) ∧ (¬ job → u.d.cry.queue = s.d.cry.queue)
      ∧ (delivers → u.d.cry.deliveries = s.d.cry.deliveries ++ [(b, t, k)])
      ∧ (¬ delivers → u.d.cry.deliveries = s.d.cry.deliveries) ∧ u.d.out = s.d.out))
  ∧ (∀ (s : State) (j : Job), s.d.dataRuns = true →
    let runs := (s.d.jobAllowed j).2 = true ∧ s.d.startStatus j = none
    (∀ e, s.d.idleEngine = some e →
      (s.d.nextJob = some (j, false) →
        (runs → Safety.answers (.jobStart) s (fun t => t.fuses = s.fuses ∧ t.d.cry.queue = s.d.cry.queue.erase j
          ∧ t.d.cry.running.find e = some (s.d.loadJob j) ∧ t.d.get (Obj.engineState e) = min (s.d.loadJob j).cls 2 + 1
          ∧ t.d.out = s.d.out))
        ∧ (¬ runs → Safety.answers (.jobStart) s (fun t => t.d.cry.queue = s.d.cry.queue.erase j
          ∧ t.d.cry.running = s.d.cry.running)))
      ∧ (s.d.nextJob = some (j, true) → Safety.answers (.jobStart) s (fun t => t.fuses = s.fuses
          ∧ t.d.cry.suspended = s.d.cry.suspended.erase j ∧ t.d.cry.running.find e = some (s.d.loadJob j) ∧ t.d.out = s.d.out)))
    ∧ (s.d.idleEngine = none → s.d.newJob 2 = some j → ∀ e v, s.d.victim = some (e, v) →
      (s.d.cry.suspended.length < 1024 → runs → Safety.answers (.jobStart) s (fun t =>
        t.d.cry.running.find e = some (s.d.loadJob j) ∧ t.d.cry.suspended.length = s.d.cry.suspended.length + 1
        ∧ t.d.cry.queue = s.d.cry.queue.erase j ∧ Safety.reports t.d islCRY 521 e
        ∧ t.d.get Obj.cryPreemptions = wrapAdd (objWidth Obj.cryPreemptions) (s.d.get Obj.cryPreemptions) 1))
      ∧ (1024 ≤ s.d.cry.suspended.length → j.waited = false → Safety.answers (.jobStart) s (fun t =>
        t.d.cry.running = s.d.cry.running
        ∧ t.d.get Obj.crySquallWaits = wrapAdd (objWidth Obj.crySquallWaits) (s.d.get Obj.crySquallWaits) 1))))
  ∧ (∀ (e : Fin 16) (s : State) (j : Job) (read : Bytes) (failedAt : Option Nat), s.d.dataRuns = true →
    s.d.cry.running.find e = some j →
    Safety.answers (.jobComplete e read failedAt) s (fun t => t.fuses = s.fuses ∧ t.d.cry.running.find e = none
      ∧ t.d.get (Obj.engineState e) = 0 ∧ t.d.cry.queue = s.d.cry.queue
      ∧ ∀ r, j.source = .ring r → r < 16 →
        (t.d.ring (128 + r)).done = (s.d.ring (128 + r)).done + 1
        ∧ (failedAt ≠ none → t.d.get (Obj.ringEnable (128 + r)) = 0)
        ∧ (failedAt = none → j.forced = none → s.d.dmaOk (s.d.owner (128 + r)) = true →
          let y := j.run (j.image read) j.units
          (y.1 ≠ [] → t.d.out.take (s.d.out.length + 1) = s.d.out
            ++ [.dma (s.d.owner (128 + r)) j.dst y.1 (s.d.host.relaxed.contains (s.d.owner (128 + r)))])
          ∧ Output.dma (s.d.owner (128 + r)) (s.d.get (Obj.ringCompBase r) + 32 * (s.d.ring (128 + r)).ctail)
              (j.completion (if y.2.2.isEmpty then jsOK else jsAUTHFAIL) j.units y.2.2) false ∈ t.d.out)))
  ∧ (∀ (s : State) (b : Bytes) (t k : Nat) (rest : List (Bytes × Nat × Nat)), s.d.dataRuns = true →
    s.d.cry.deliveries = (b, t, k) :: rest →
    let a := beAt b 22 2
    let fails := (s.d.mayDeliver t a).2 = false ∨ s.d.unwrapKey b t a = none ∨ s.d.noShadow 7 = true
    Safety.answers .keyDeliver s (fun u => u.fuses = s.fuses ∧ u.d.cry.deliveries = rest
      ∧ (∀ o n, u.d.activeRead Obj.domSaKeys o n = s.d.activeRead Obj.domSaKeys o n)
      ∧ (∀ x, s.d.unwrapKey b t a = some x → ¬ fails →
        u.d.shadowRead Obj.domSaKeys (128 * a) 128 = slice x 8 96 ++ zeros 32
        ∧ (u.d.saState a).pendingEpoch = some (beAt x 4 4)
        ∧ u.d.get Obj.cryKeyDeliveries = wrapAdd (objWidth Obj.cryKeyDeliveries) (s.d.get Obj.cryKeyDeliveries) 1)
      ∧ (fails → u.d.saState a = s.d.saState a ∧ u.d.get Obj.cryKeyDeliveryFails
          = wrapAdd (objWidth Obj.cryKeyDeliveryFails) (s.d.get Obj.cryKeyDeliveryFails) 1)))

/-! ### The switch core -/

/-- A result whose number is its domain's NEXT passes, unless a flush or expiry removes it: NEXT advances and its frame goes to
admission, or leaves where its disposition is DROP; one ahead of NEXT is held, and one behind it is dropped and counted; a domain
that has held one result too long skips to it, counts the numbers it skipped and reports them (R295, R296). A ready copy whose
number is its stream's NEXT enters its queue, one ahead of it is held, and one behind it is dropped and counted; a marker of that
number only advances NEXT; a stream that has held one item too long skips to it and counts the numbers it skipped (R302, R303,
Table 10-10). A result waits for the pool operations its thread has asked (R85, log entry 28). -/
def Obligations.OrderIsRestored : Prop :=
  (∀ (pg : Fin 4) (s : State) (i : Nat) (rest : List Nat), s.d.swc.results.getD (fun _ => []) pg = i :: rest →
    s.d.dataRuns = true →
    (s.d.poolAsked i = true → Sys2Proof.Machine.exec (.reorderResult pg) s = .next s)
    ∧ (s.d.poolAsked i = false →
      let f := s.d.frame i
      let x := s.d.orderDomain f.domain
      let ahead := (f.seq + 65536 - x.next) % 65536
      (ahead = 0 → x.held = [] → s.d.flushedTenant f.tenant = false → s.d.expires f.parity = false →
        (f.result.disp ≠ .drop → Safety.answers (.reorderResult pg) s (fun t => t.fuses = s.fuses
          ∧ t.d.swc.results.getD (fun _ => []) pg = rest ∧ (t.d.orderDomain f.domain).next = (x.next + 1) % 65536
          ∧ t.d.frame i = { f with stage := .admitting }
          ∧ (t.d.pgs f.pg).admitting = (s.d.pgs f.pg).admitting ++ [i] ∧ t.d.out = s.d.out
          ∧ t.d.get Obj.resultTorn = (if f.result.torn then wrapAdd (objWidth Obj.resultTorn) (s.d.get Obj.resultTorn) 1
              else s.d.get Obj.resultTorn)))
        ∧ (f.result.disp = .drop → Safety.answers (.reorderResult pg) s (fun t => t.d.hasFrame i = false
          ∧ t.d.get Obj.resultDrop = wrapAdd (objWidth Obj.resultDrop) (s.d.get Obj.resultDrop) 1)))
      ∧ (0 < ahead → ahead < 32768 → Safety.answers (.reorderResult pg) s (fun t =>
          (t.d.orderDomain f.domain).held.find f.seq = some i ∧ (t.d.orderDomain f.domain).next = x.next ∧ t.d.pkt = s.d.pkt))
      ∧ (32768 ≤ ahead → Safety.answers (.reorderResult pg) s (fun t => t.d.hasFrame i = false
          ∧ t.d.get Obj.swcReorderLateDrops =
              wrapAdd (objWidth Obj.swcReorderLateDrops) (s.d.get Obj.swcReorderLateDrops) 1))))
  ∧ (∀ (n : Fin 65536) (s : State) (k i : Nat), s.d.dataRuns = true →
    let x := s.d.orderDomain n
    x.held = [(k, i)] → x.since + us (s.d.arr islSWC Obj.swcReorderHoldUs) ≤ s.d.now →
    Safety.answers (.reorderTimeout n) s (fun t => t.fuses = s.fuses
      ∧ (t.d.orderDomain n).next = (k + 1) % 65536 ∧ (t.d.orderDomain n).held = [] ∧ Safety.reports t.d islSWC 612 n
      ∧ t.d.get Obj.swcReorderTimeouts = wrapAdd (objWidth Obj.swcReorderTimeouts) (s.d.get Obj.swcReorderTimeouts)
          ((k + 65536 - x.next) % 65536)))
  ∧ (∀ (i : Nat) (c : Copy) (s : State), s.d.dataRuns = true → s.d.pkt.copies.find i = some c → c.stage = .transit →
    let k := streamKey c.port c.pg c.cls
    let x := s.d.stream k
    let ahead := (c.seq + 2 ^ 24 - x.next) % 2 ^ 24
    (ahead = 0 → x.held = [] →
      Safety.answers (.copyReady i) s (fun t => t.fuses = s.fuses ∧ (t.d.stream k).next = (x.next + 1) % 2 ^ 24
        ∧ (t.d.stream k).held = [] ∧ t.d.queueOf c.queue = s.d.queueOf c.queue ++ [i]
        ∧ (∀ q, q ≠ c.queue → t.d.queueOf q = s.d.queueOf q)
        ∧ t.d.copyRec i = { c with stage := .queued, enqueued := s.d.now } ∧ t.d.out = s.d.out))
    ∧ (0 < ahead → ahead < 2 ^ 23 → s.d.heldItems (k / 32) < 16384 →
      Safety.answers (.copyReady i) s (fun t => (t.d.stream k).held.find c.seq = some (some i) ∧ (t.d.stream k).next = x.next
        ∧ t.d.copyRec i = { c with stage := .held } ∧ t.d.tm = s.d.tm))
    ∧ (2 ^ 23 ≤ ahead →
      Safety.answers (.copyReady i) s (fun t => t.d.pkt.copies = s.d.pkt.copies.drop i ∧ (t.d.stream k).next = x.next
        ∧ t.d.get (Obj.rsqReseqLateDrops (k / 32)) =
            wrapAdd (objWidth (Obj.rsqReseqLateDrops (k / 32))) (s.d.get (Obj.rsqReseqLateDrops (k / 32))) 1)))
  ∧ (∀ (p : Fin 132) (s : State) (k : Nat) (rest : List (Nat × Nat)), s.d.dataRuns = true →
    takeMarker p s.d.swc.markers = some ((k, (s.d.stream k).next), rest) → (s.d.stream k).next < 2 ^ 24 →
    (s.d.stream k).held = [] →
    Safety.answers (.skipMarker p) s (fun t => (t.d.stream k).next = ((s.d.stream k).next + 1) % 2 ^ 24
      ∧ t.d.swc.markers = rest ∧ t.d.pkt = s.d.pkt ∧ t.d.tm = s.d.tm ∧ t.d.dict = s.d.dict))
  ∧ (∀ (p : Fin 132) (pg : Fin 4) (cls : Fin 8) (s : State) (n : Nat) (item : Option Nat), s.d.dataRuns = true →
    let k := streamKey p pg cls
    let x := s.d.stream k
    x.held = [(n, item)] → x.hole + us (s.d.arr islSWC (Obj.rsqReseqTimeoutUs p)) ≤ s.d.now →
    Safety.answers (.reseqTimeout p pg cls) s (fun t => t.fuses = s.fuses ∧ (t.d.stream k).next = (n + 1) % 2 ^ 24
      ∧ (t.d.stream k).held = [] ∧ t.d.get (Obj.rsqHolesTimedOut p)
        = wrapAdd (objWidth (Obj.rsqHolesTimedOut p)) (s.d.get (Obj.rsqHolesTimedOut p)) ((n + 2 ^ 24 - x.next) % 2 ^ 24)
      ∧ (∀ i, item = some i → i ∈ t.d.queueOf (s.d.copyRec i).queue)))

/-- A pipeline whose turn it is takes its next frame. One that R85 has given up leaves. One forwarded to one destination that
passes the checks of Table 10-6, the pool having its cells, becomes one copy in transit, with the next number of its stream and
the chain of its cells (R297 to R301). A counter side effect is counted in its tenant's page, frames and bytes, or in UNCOUNTED
where it has none (R371); an engine's pool operation, in its turn, is executed for its program's master, after the releases whose
place in its slice comes before it, and its answer sets out to the thread that waits, behind those already on their way (R19, R215,
R290; the turns are log entry 60's reading). Which of the free cells are taken is the model's choice (log entry 7). -/
def Obligations.FramesAreAdmitted : Prop :=
  (∀ (pg : Fin 4) (s : State) (i : Nat) (rest : List Nat), (s.d.pgs pg).admitting = i :: rest → s.d.dataRuns = true →
    (s.d.admOpen pg = false → Sys2Proof.Machine.exec (.admission pg) s = .next s)
    ∧ (s.d.admOpen pg = true → (s.d.frame i).denied = true →
      Safety.answers (.admission pg) s (fun t => t.fuses = s.fuses ∧ t.d.hasFrame i = false ∧ t.d.pkt.copies = s.d.pkt.copies)))
  ∧ (∀ (pg : Fin 4) (s : State) (i : Nat) (rest cells : List Nat) (h : Nat), (s.d.pgs pg).admitting = i :: rest →
    s.d.dataRuns = true → s.d.admOpen pg = true →
    let f := s.d.frame i
    let x := (f.result.port, f.result.queue)
    let k := f.result.cls
    let n := ceilDiv (editHead f.bytes f.result.head f.result.eIn).length 128
    let a := s.d.admEntry f.port f.cls
    let e := s.d.poolReach a.2.2 pg
    f.direct = none → f.viaEngine = true → f.denied = false → s.d.expires f.parity = false → f.result.disp = .forward →
    f.result.mcast = false → f.result.meter = none → x.1 ≤ 131 → (x.1 < 128 → s.d.defined x.1 = true) →
    (x.1 = 129 → f.pass < s.d.passLimit f ∧ s.d.denied f.tenant = false) →
    s.d.copyCheck f.withReason x = none →
    s.d.egOcc x.1 k + n ≤ (s.d.admEntry x.1 k).2.1 → s.d.ingOcc f.port f.cls + n ≤ a.1 →
    0 < n → n < 256 → s.d.frostState 6 a.2.2 = 0 → n ≤ e.poolFree a.2.2 → n ≤ e.deviceFree →
    takeCells e.cellsInUse (s.d.pgs pg).slice n = h :: cells → cells.length + 1 = n →
    Safety.answers (.admission pg) s (fun t => t.fuses = s.fuses ∧ (t.d.pgs pg).admitting = rest
      ∧ (t.d.frame i).stage = .switched ∧ (t.d.frame i).landed = 0
      ∧ t.d.copyRec s.d.pkt.nextCopy = { frame := i, port := x.1, queue := queueTaken f.pg k x.1 x.2, cls := k, pg := f.pg,
                                         seq := (s.d.stream (streamKey x.1 f.pg k)).assign, chain := h, cells := n }
      ∧ (∀ j, j ≠ s.d.pkt.nextCopy → t.d.copyRec j = s.d.copyRec j)
      ∧ (t.d.stream (streamKey x.1 f.pg k)).assign = ((s.d.stream (streamKey x.1 f.pg k)).assign + 1) % 2 ^ 24
      ∧ (t.d.chain h).cells = h :: cells ∧ (t.d.chain h).refs = 1 ∧ (t.d.chain h).allocated = true ∧ t.d.out = s.d.out))
  ∧ (∀ (c : Fin 16) (s : State) (k t n b : Nat) (par : Bool), s.d.channelHead c = some (k, .count t n b par) →
    s.d.dataRuns = true →
    let page := s.d.cfg islSWC par (Obj.tenCounterPage t)
    let o := 4096 * page + 16 * n
    (4096 ≤ page ∨ 256 ≤ n → Safety.answers (.counterSideEffect c) s (fun u =>
      u.d.get Obj.uncounted = wrapAdd (objWidth Obj.uncounted) (s.d.get Obj.uncounted) 1
      ∧ Safety.onlyObjects [Obj.uncounted] s.d u.d ∧ u.d.pkt = s.d.pkt))
    ∧ (page < 4096 → n < 256 → Safety.answers (.counterSideEffect c) s (fun u =>
      beNat (u.d.memRead Obj.domCounterPages o 8) = (beNat (s.d.memRead Obj.domCounterPages o 8) + 1) % 2 ^ 64
      ∧ beNat (u.d.memRead Obj.domCounterPages (o + 8) 8) = (beNat (s.d.memRead Obj.domCounterPages (o + 8) 8) + b) % 2 ^ 64
      ∧ (∀ z, (z < o ∨ o + 16 ≤ z) → z < 2 ^ 32 → u.d.memByte Obj.domCounterPages z = s.d.memByte Obj.domCounterPages z)
      ∧ u.d.eng.channel.getD (fun _ => []) c = (s.d.eng.channel.getD (fun _ => []) c).drop 1 ∧ u.d.pkt = s.d.pkt)))
  ∧ (∀ (c : Fin 16) (s : State) (k op p arg t i : Nat) (par : Bool) (x : Thread),
    s.d.channelHead c = some (k, .pool op p arg t i par) → s.d.thread? k = some x → x.frame = i → x.poolPending = true →
    1 ≤ op → op ≤ 4 → s.d.dataRuns = true → s.d.poolOpen p (4 + c) = true →
    let ask : PoolAsk := { master := t, may := fun r => s.d.mayFrame islSWC par 3 t p r, requester := 4 + c.val,
                           holder := some k, tenant := some t }
    let d := s.d.poolReach p (4 + c)
    let cmd : Instr := match op with
      | 1 => .poolAllocChain (some c) | 2 => .poolIncref (some c) | 3 => .poolDecref (some c) | _ => .poolFree (some c)
    Safety.answers cmd s (fun u => u.fuses = s.fuses
      ∧ u.d.eng.poolAnswers = s.d.eng.poolAnswers ++ [(k, (d.poolOp ask op p arg).2.1.code, (d.poolOp ask op p arg).2.2)]
      ∧ u.d.eng.channel.getD (fun _ => []) c = (s.d.eng.channel.getD (fun _ => []) c).drop 1
      ∧ u.d.swc.chains = (d.poolOp ask op p arg).1.swc.chains))

/-- A port's scheduler that may choose, and has a copy of the port to send, puts its bytes, edited, in the port's transmission; one
with a cell in error it drops and counts, unless the copy's cells have been read before (log entry 54); the choice takes the copy from
its queue either way (R305, R306, R323, R324). A node whose
negative shaper has refilled to zero, and that has something to send, is in its parent's list again; no bucket changes before a
copy is charged (R312, R323). A round start that falls is skipped while Barometer defers it or another round runs; otherwise a
round begins with the selected queues, the first's record written to the telemetry ring where it has room and the PF issues DMA,
and dropped and counted where it has none; with no queue selected the round is over (R328 to R330, R332). That the queues are
walked as time passes is the model's choice (log entry 11). -/
def Obligations.PortsAreScheduled : Prop :=
  (∀ (p : Fin 132) (cell : EccOutcome) (s : State) (i : Nat), s.d.mayChoose p = true → (s.d.chooseCopy p).2 = some i →
    (s.d.copyRec i).port = p.val →
    let leaves := fun (t : State) => t.fuses = s.fuses
      ∧ t.d.queueOf (s.d.copyRec i).queue = (s.d.queueOf (s.d.copyRec i).queue).erase i
      ∧ (∀ q, q ≠ (s.d.copyRec i).queue → t.d.queueOf q = s.d.queueOf q) ∧ t.d.out = s.d.out
    ((s.d.copyRec i).released = true ∨ (cell ≠ .uncorrectable ∧ s.d.badCellsOf i = []) →
      Safety.answers (.schedulerChoice p cell) s (fun t => leaves t
      ∧ (t.d.port p).tx = (s.d.port p).tx ++ [i] ∧ (t.d.copyRec i).stage = .chosen
      ∧ (t.d.copyRec i).out = some (s.d.outBytes (s.d.copyRec i)) ∧ t.d.pkt.frames = s.d.pkt.frames))
    ∧ ((s.d.copyRec i).released = false → cell = .uncorrectable ∨ s.d.badCellsOf i ≠ [] →
      Safety.answers (.schedulerChoice p cell) s (fun t => leaves t
      ∧ t.d.pkt.copies.find i = none ∧ (t.d.port p).tx = (s.d.port p).tx
      ∧ t.d.get Obj.swcCellEccDrops = wrapAdd (objWidth Obj.swcCellEccDrops) (s.d.get Obj.swcCellEccDrops) 1)))
  ∧ (∀ (n : NodeId) (s : State), s.d.dataRuns = true →
    let k := nodeIdKey n
    let x := s.d.node k
    let p := x.parent
    let g := (s.d.node p).parent
    Safety.answers (.shaperEligible n) s (fun t => t.d.pkt = s.d.pkt ∧ t.d.dict = s.d.dict ∧ t.d.tm.queues = s.d.tm.queues
      ∧ (∀ m, (t.d.node m).bucket = (s.d.node m).bucket)
      ∧ (x.eligible = false → 0 ≤ refill x.bucket (s.d.now - x.last) x.rate x.burst → s.d.nodeHas k = true →
          nodeLevel p < nodeLevel k → (nodeLevel p = 0 ∨ nodeLevel g < nodeLevel p) →
          (nodeLevel g = 0 ∨ nodeLevel (s.d.node g).parent < nodeLevel g) → k ∈ (t.d.node p).list)))
  ∧ (∀ s : State,
    let n := s.d.get Obj.sampleIntervalNs
    let now := s.d.timeAt islSWC
    let tail := s.d.get Obj.telemTail
    let next := (tail + 1) % s.d.get Obj.telemEntries
    s.d.dataRuns = true → s.d.get Obj.telemEnable = 1 → s.d.tm.sampleAt / n < now / n →
    (1 ≤ s.d.level → Safety.answers .sampleRoundStart s (fun t => t.d.out = s.d.out ∧ t.d.tm = { s.d.tm with sampleAt := now }
      ∧ t.d.get Obj.sampleDeferred = wrapAdd (objWidth Obj.sampleDeferred) (s.d.get Obj.sampleDeferred) 1))
    ∧ (s.d.level = 0 → s.d.tm.roundLeft ≠ [] → Safety.answers .sampleRoundStart s (fun t => t.d.out = s.d.out
      ∧ t.d.tm = { s.d.tm with sampleAt := now } ∧ Safety.reports t.d islSWC 705 0
      ∧ t.d.get Obj.sampleOverruns = wrapAdd (objWidth Obj.sampleOverruns) (s.d.get Obj.sampleOverruns) 1))
    ∧ (s.d.level = 0 → s.d.tm.roundLeft = [] →
      let starts := fun (t : State) => t.fuses = s.fuses
        ∧ t.d.get Obj.sampleRounds = wrapAdd (objWidth Obj.sampleRounds) (s.d.get Obj.sampleRounds) 1
      (s.d.selectedQueues = [] → Safety.answers .sampleRoundStart s (fun t => starts t ∧ t.d.tm.roundLeft = []
        ∧ t.d.tm.round = (s.d.tm.round + 1) % 2 ^ 32 ∧ t.d.out = s.d.out))
      ∧ (∀ q rest, s.d.selectedQueues = q :: rest →
        (s.d.dmaOk 0 = true → next ≠ s.d.get Obj.telemHead → Safety.answers .sampleRoundStart s (fun t => starts t
          ∧ t.d.tm.roundLeft = q :: rest ∧ t.d.get Obj.telemTail = next
          ∧ t.d.out = s.d.out ++ [.dma 0 (s.d.get Obj.telemBase + 32 * tail) (s.d.sampleRecord q true) false]))
        ∧ (s.d.dmaOk 0 = true → next = s.d.get Obj.telemHead → Safety.answers .sampleRoundStart s (fun t => starts t
          ∧ t.d.tm.roundLeft = q :: rest ∧ t.d.out = s.d.out ∧ Safety.reports t.d islSWC 704 0
          ∧ t.d.get Obj.ringDrops = wrapAdd (objWidth Obj.ringDrops) (s.d.get Obj.ringDrops) 1))
        ∧ (s.d.dmaOk 0 = false → Safety.answers .sampleRoundStart s (fun t => starts t ∧ t.d.tm.roundLeft = q :: rest
          ∧ t.d.out = s.d.out ∧ t.d.get Obj.telemTail = tail)))))
end

