-- ==== Sys2Proof/Laws/Assoc.lean ====
section
/-!
SUPPORT. Laws of the sparse maps: a read after a write, a write leaves every other key alone, and every operation keeps
the canonical form.
-/
namespace Sys2Proof.Machine

variable {α : Type}

theorem Assoc.find_put_same (l : Assoc α) (j : Nat) (w : α) : (l.put j w).find j = some w := by
  induction l with
  | nil => simp [Assoc.put, Assoc.find]
  | cons e l ih =>
    obtain ⟨k, v⟩ := e
    simp only [Assoc.put]
    split
    · simp [Assoc.find]
    · split
      · simp [Assoc.find]
      · rename_i h; simp [Assoc.find, h, ih]

theorem Assoc.find_put_ne (l : Assoc α) (j : Nat) (w : α) {i : Nat} (h : i ≠ j) : (l.put j w).find i = l.find i := by
  induction l with
  | nil => simp [Assoc.put, Assoc.find, h]
  | cons e l ih =>
    obtain ⟨k, v⟩ := e
    simp only [Assoc.put]
    split
    · simp [Assoc.find, h]
    · split
      · rename_i hk; subst hk; simp [Assoc.find, h]
      · by_cases hik : i = k <;> simp [Assoc.find, hik, ih]

theorem Assoc.find_drop_same (l : Assoc α) (j : Nat) : (l.drop j).find j = none := by
  induction l with
  | nil => rfl
  | cons e l ih =>
    obtain ⟨k, v⟩ := e
    by_cases h : j = k
    · simp [Assoc.drop, h]; rw [← h]; exact ih
    · simp [Assoc.drop, Assoc.find, h, ih]

theorem Assoc.find_drop_ne (l : Assoc α) (j : Nat) {i : Nat} (h : i ≠ j) : (l.drop j).find i = l.find i := by
  induction l with
  | nil => rfl
  | cons e l ih =>
    obtain ⟨k, v⟩ := e
    by_cases hk : j = k
    · subst hk; simp [Assoc.drop, Assoc.find, h, ih]
    · by_cases hi : i = k <;> simp [Assoc.drop, Assoc.find, hk, hi, ih]

/-- Reading a key that was written gives the value written. -/
@[simp] theorem Assoc.getD_set_same [DecidableEq α] (l : Assoc α) (f : Nat → α) (k : Nat) (v : α) :
    (l.set f k v).getD f k = v := by
  unfold Assoc.set
  split
  · rename_i h; simp [Assoc.getD, Assoc.find_drop_same, h]
  · simp [Assoc.getD, Assoc.find_put_same]

/-- A write leaves every other key alone. -/
theorem Assoc.getD_set_ne [DecidableEq α] (l : Assoc α) (f : Nat → α) (k : Nat) (v : α) {i : Nat} (h : i ≠ k) :
    (l.set f k v).getD f i = l.getD f i := by
  unfold Assoc.set
  split
  · simp [Assoc.getD, Assoc.find_drop_ne _ _ h]
  · simp [Assoc.getD, Assoc.find_put_ne _ _ _ h]

/-- Every key of a map lies above a bound. -/
def Assoc.above (b : Nat) (l : Assoc α) : Prop := ∀ e ∈ l, b < e.1

theorem Assoc.sorted_cons (k : Nat) (v : α) (l : Assoc α) :
    Assoc.sorted ((k, v) :: l) = true ↔ Assoc.above k l ∧ Assoc.sorted l = true := by
  induction l generalizing k v with
  | nil => simp [Assoc.sorted, Assoc.above]
  | cons e l ih =>
    obtain ⟨j, w⟩ := e
    simp only [Assoc.sorted, Bool.and_eq_true, decide_eq_true_eq]
    constructor
    · intro ⟨h, hs⟩
      refine ⟨?_, hs⟩
      intro e he
      rcases List.mem_cons.1 he with rfl | he
      · exact h
      · exact Nat.lt_trans h (((ih j w).1 hs).1 e he)
    · intro ⟨h, hs⟩
      exact ⟨h (j, w) (List.mem_cons_self ..), hs⟩

theorem Assoc.mem_put {l : Assoc α} {j : Nat} {w : α} {e : Nat × α} (h : e ∈ l.put j w) : e = (j, w) ∨ e ∈ l := by
  induction l with
  | nil => simpa [Assoc.put] using h
  | cons x l ih =>
    obtain ⟨k, v⟩ := x
    simp only [Assoc.put] at h
    split at h
    · simpa using h
    · split at h
      · rcases List.mem_cons.1 h with rfl | h
        · exact .inl rfl
        · exact .inr (List.mem_cons_of_mem _ h)
      · rcases List.mem_cons.1 h with rfl | h
        · exact .inr (List.mem_cons_self ..)
        · exact (ih h).imp id (List.mem_cons_of_mem _)

theorem Assoc.mem_drop {l : Assoc α} {j : Nat} {e : Nat × α} (h : e ∈ l.drop j) : e ∈ l := by
  induction l with
  | nil => exact h
  | cons x l ih =>
    obtain ⟨k, v⟩ := x
    simp only [Assoc.drop] at h
    split at h
    · exact List.mem_cons_of_mem _ (ih h)
    · rcases List.mem_cons.1 h with rfl | h
      · exact List.mem_cons_self ..
      · exact List.mem_cons_of_mem _ (ih h)

/-- Putting a key keeps the keys rising. -/
theorem Assoc.sorted_put {l : Assoc α} (j : Nat) (w : α) (h : l.sorted = true) : (l.put j w).sorted = true := by
  induction l with
  | nil => rfl
  | cons x l ih =>
    obtain ⟨k, v⟩ := x
    have hx := (Assoc.sorted_cons k v l).1 h
    simp only [Assoc.put]
    split
    · rename_i hjk
      refine (Assoc.sorted_cons _ _ _).2 ⟨?_, h⟩
      intro e he
      rcases List.mem_cons.1 he with rfl | he
      · exact hjk
      · exact Nat.lt_trans hjk (hx.1 e he)
    · split
      · rename_i hjk
        refine (Assoc.sorted_cons _ _ _).2 ⟨?_, hx.2⟩
        rw [hjk]; exact hx.1
      · rename_i h1 h2
        refine (Assoc.sorted_cons _ _ _).2 ⟨?_, ih hx.2⟩
        intro e he
        rcases Assoc.mem_put he with rfl | he
        · exact Nat.lt_of_le_of_ne (Nat.le_of_not_lt h1) (Ne.symm h2)
        · exact hx.1 e he

/-- Dropping a key keeps the keys rising. -/
theorem Assoc.sorted_drop {l : Assoc α} (j : Nat) (h : l.sorted = true) : (l.drop j).sorted = true := by
  induction l with
  | nil => rfl
  | cons x l ih =>
    obtain ⟨k, v⟩ := x
    have hx := (Assoc.sorted_cons k v l).1 h
    simp only [Assoc.drop]
    split
    · exact ih hx.2
    · exact (Assoc.sorted_cons _ _ _).2 ⟨fun e he => hx.1 e (Assoc.mem_drop he), ih hx.2⟩

/-- Keeping only some entries keeps the keys rising. -/
theorem Assoc.sorted_filter {l : Assoc α} (p : Nat × α → Bool) (h : l.sorted = true) :
    Assoc.sorted (l.filter p) = true := by
  induction l with
  | nil => rfl
  | cons x l ih =>
    obtain ⟨k, v⟩ := x
    have hx := (Assoc.sorted_cons k v l).1 h
    rw [List.filter_cons]
    split
    · exact (Assoc.sorted_cons _ _ _).2 ⟨fun e he => hx.1 e (List.mem_filter.1 he).1, ih hx.2⟩
    · exact ih hx.2

/-- A write keeps the canonical form. -/
theorem Assoc.wf_set [DecidableEq α] {l : Assoc α} {f : Nat → α} (k : Nat) (v : α) (h : l.wf f = true) :
    (l.set f k v).wf f = true := by
  simp only [Assoc.wf, Bool.and_eq_true, List.all_eq_true, decide_eq_true_eq] at h ⊢
  unfold Assoc.set
  split
  · exact ⟨Assoc.sorted_drop k h.1, fun e he => h.2 e (Assoc.mem_drop he)⟩
  · rename_i hv
    refine ⟨Assoc.sorted_put k v h.1, fun e he => ?_⟩
    rcases Assoc.mem_put he with rfl | he
    · exact hv
    · exact h.2 e he

/-- Keeping only some entries keeps the canonical form. -/
theorem Assoc.wf_filter [DecidableEq α] {l : Assoc α} {f : Nat → α} (p : Nat × α → Bool) (h : l.wf f = true) :
    Assoc.wf (l.filter p) f = true := by
  simp only [Assoc.wf, Bool.and_eq_true, List.all_eq_true, decide_eq_true_eq] at h ⊢
  exact ⟨Assoc.sorted_filter p h.1, fun e he => h.2 e (List.mem_filter.1 he).1⟩

end Sys2Proof.Machine
end

