-- ==== Sys2Proof/Laws/State.lean ====
section
/-!
SUPPORT. What each update of the device leaves alone: one lemma per field per update, true by definition, so that no
proof unfolds a record update.
-/
namespace Sys2Proof.Machine

variable (d : Device)

@[simp] theorem Device.put_now (k v : Nat) : (d.put k v).now = d.now := rfl
@[simp] theorem Device.put_free (k v : Nat) : (d.put k v).free = d.free := rfl
@[simp] theorem Device.put_out (k v : Nat) : (d.put k v).out = d.out := rfl
@[simp] theorem Device.put_ptrs (k v : Nat) : (d.put k v).ptrs = d.ptrs := rfl
@[simp] theorem Device.put_front (k v : Nat) : (d.put k v).front = d.front := rfl
@[simp] theorem Device.put_svc (k v : Nat) : (d.put k v).svc = d.svc := rfl
@[simp] theorem Device.put_frost (k v : Nat) : (d.put k v).frost = d.frost := rfl
@[simp] theorem Device.put_pkt (k v : Nat) : (d.put k v).pkt = d.pkt := rfl
@[simp] theorem Device.put_ports (k v : Nat) : (d.put k v).ports = d.ports := rfl
@[simp] theorem Device.put_srh (k v : Nat) : (d.put k v).srh = d.srh := rfl
@[simp] theorem Device.put_eng (k v : Nat) : (d.put k v).eng = d.eng := rfl
@[simp] theorem Device.put_cry (k v : Nat) : (d.put k v).cry = d.cry := rfl
@[simp] theorem Device.put_swc (k v : Nat) : (d.put k v).swc = d.swc := rfl
@[simp] theorem Device.put_tm (k v : Nat) : (d.put k v).tm = d.tm := rfl
@[simp] theorem Device.put_baro (k v : Nat) : (d.put k v).baro = d.baro := rfl
@[simp] theorem Device.put_ev (k v : Nat) : (d.put k v).ev = d.ev := rfl
@[simp] theorem Device.put_sec (k v : Nat) : (d.put k v).sec = d.sec := rfl
@[simp] theorem Device.put_host (k v : Nat) : (d.put k v).host = d.host := rfl
@[simp] theorem Device.put_sys (k v : Nat) : (d.put k v).sys = d.sys := rfl

@[simp] theorem Device.bumpBy_now (k n : Nat) : (d.bumpBy k n).now = d.now := by simp only [Device.bumpBy, Device.put_now]
@[simp] theorem Device.bumpBy_free (k n : Nat) : (d.bumpBy k n).free = d.free := by simp only [Device.bumpBy, Device.put_free]
@[simp] theorem Device.bumpBy_out (k n : Nat) : (d.bumpBy k n).out = d.out := by simp only [Device.bumpBy, Device.put_out]
@[simp] theorem Device.bumpBy_ptrs (k n : Nat) : (d.bumpBy k n).ptrs = d.ptrs := by simp only [Device.bumpBy, Device.put_ptrs]
@[simp] theorem Device.bumpBy_front (k n : Nat) : (d.bumpBy k n).front = d.front := by simp only [Device.bumpBy, Device.put_front]
@[simp] theorem Device.bumpBy_svc (k n : Nat) : (d.bumpBy k n).svc = d.svc := by simp only [Device.bumpBy, Device.put_svc]
@[simp] theorem Device.bumpBy_frost (k n : Nat) : (d.bumpBy k n).frost = d.frost := by simp only [Device.bumpBy, Device.put_frost]
@[simp] theorem Device.bumpBy_pkt (k n : Nat) : (d.bumpBy k n).pkt = d.pkt := by simp only [Device.bumpBy, Device.put_pkt]
@[simp] theorem Device.bumpBy_ports (k n : Nat) : (d.bumpBy k n).ports = d.ports := by simp only [Device.bumpBy, Device.put_ports]
@[simp] theorem Device.bumpBy_srh (k n : Nat) : (d.bumpBy k n).srh = d.srh := by simp only [Device.bumpBy, Device.put_srh]
@[simp] theorem Device.bumpBy_eng (k n : Nat) : (d.bumpBy k n).eng = d.eng := by simp only [Device.bumpBy, Device.put_eng]
@[simp] theorem Device.bumpBy_cry (k n : Nat) : (d.bumpBy k n).cry = d.cry := by simp only [Device.bumpBy, Device.put_cry]
@[simp] theorem Device.bumpBy_swc (k n : Nat) : (d.bumpBy k n).swc = d.swc := by simp only [Device.bumpBy, Device.put_swc]
@[simp] theorem Device.bumpBy_tm (k n : Nat) : (d.bumpBy k n).tm = d.tm := by simp only [Device.bumpBy, Device.put_tm]
@[simp] theorem Device.bumpBy_baro (k n : Nat) : (d.bumpBy k n).baro = d.baro := by simp only [Device.bumpBy, Device.put_baro]
@[simp] theorem Device.bumpBy_ev (k n : Nat) : (d.bumpBy k n).ev = d.ev := by simp only [Device.bumpBy, Device.put_ev]
@[simp] theorem Device.bumpBy_sec (k n : Nat) : (d.bumpBy k n).sec = d.sec := by simp only [Device.bumpBy, Device.put_sec]
@[simp] theorem Device.bumpBy_host (k n : Nat) : (d.bumpBy k n).host = d.host := by simp only [Device.bumpBy, Device.put_host]
@[simp] theorem Device.bumpBy_sys (k n : Nat) : (d.bumpBy k n).sys = d.sys := by simp only [Device.bumpBy, Device.put_sys]

@[simp] theorem Device.bump_now (k : Nat) : (d.bump k).now = d.now := by simp only [Device.bump, Device.bumpBy_now]
@[simp] theorem Device.bump_free (k : Nat) : (d.bump k).free = d.free := by simp only [Device.bump, Device.bumpBy_free]
@[simp] theorem Device.bump_out (k : Nat) : (d.bump k).out = d.out := by simp only [Device.bump, Device.bumpBy_out]
@[simp] theorem Device.bump_ptrs (k : Nat) : (d.bump k).ptrs = d.ptrs := by simp only [Device.bump, Device.bumpBy_ptrs]
@[simp] theorem Device.bump_front (k : Nat) : (d.bump k).front = d.front := by simp only [Device.bump, Device.bumpBy_front]
@[simp] theorem Device.bump_svc (k : Nat) : (d.bump k).svc = d.svc := by simp only [Device.bump, Device.bumpBy_svc]
@[simp] theorem Device.bump_frost (k : Nat) : (d.bump k).frost = d.frost := by simp only [Device.bump, Device.bumpBy_frost]
@[simp] theorem Device.bump_pkt (k : Nat) : (d.bump k).pkt = d.pkt := by simp only [Device.bump, Device.bumpBy_pkt]
@[simp] theorem Device.bump_ports (k : Nat) : (d.bump k).ports = d.ports := by simp only [Device.bump, Device.bumpBy_ports]
@[simp] theorem Device.bump_srh (k : Nat) : (d.bump k).srh = d.srh := by simp only [Device.bump, Device.bumpBy_srh]
@[simp] theorem Device.bump_eng (k : Nat) : (d.bump k).eng = d.eng := by simp only [Device.bump, Device.bumpBy_eng]
@[simp] theorem Device.bump_cry (k : Nat) : (d.bump k).cry = d.cry := by simp only [Device.bump, Device.bumpBy_cry]
@[simp] theorem Device.bump_swc (k : Nat) : (d.bump k).swc = d.swc := by simp only [Device.bump, Device.bumpBy_swc]
@[simp] theorem Device.bump_tm (k : Nat) : (d.bump k).tm = d.tm := by simp only [Device.bump, Device.bumpBy_tm]
@[simp] theorem Device.bump_baro (k : Nat) : (d.bump k).baro = d.baro := by simp only [Device.bump, Device.bumpBy_baro]
@[simp] theorem Device.bump_ev (k : Nat) : (d.bump k).ev = d.ev := by simp only [Device.bump, Device.bumpBy_ev]
@[simp] theorem Device.bump_sec (k : Nat) : (d.bump k).sec = d.sec := by simp only [Device.bump, Device.bumpBy_sec]
@[simp] theorem Device.bump_host (k : Nat) : (d.bump k).host = d.host := by simp only [Device.bump, Device.bumpBy_host]
@[simp] theorem Device.bump_sys (k : Nat) : (d.bump k).sys = d.sys := by simp only [Device.bump, Device.bumpBy_sys]

/-- A Frost update changes nothing else. -/
theorem Device.setFrost_eq (c i : Nat) (x : FrostFn) : ∃ f, d.setFrost c i x = { d with frost := f } := ⟨_, rfl⟩
@[simp] theorem Device.setFrost_now (c i : Nat) (x : FrostFn) : (d.setFrost c i x).now = d.now := by
  obtain ⟨x, h⟩ := d.setFrost_eq c i x; rw [h]
@[simp] theorem Device.setFrost_free (c i : Nat) (x : FrostFn) : (d.setFrost c i x).free = d.free := by
  obtain ⟨x, h⟩ := d.setFrost_eq c i x; rw [h]
@[simp] theorem Device.setFrost_out (c i : Nat) (x : FrostFn) : (d.setFrost c i x).out = d.out := by
  obtain ⟨x, h⟩ := d.setFrost_eq c i x; rw [h]
@[simp] theorem Device.setFrost_dict (c i : Nat) (x : FrostFn) : (d.setFrost c i x).dict = d.dict := by
  obtain ⟨x, h⟩ := d.setFrost_eq c i x; rw [h]
@[simp] theorem Device.setFrost_ptrs (c i : Nat) (x : FrostFn) : (d.setFrost c i x).ptrs = d.ptrs := by
  obtain ⟨x, h⟩ := d.setFrost_eq c i x; rw [h]
@[simp] theorem Device.setFrost_front (c i : Nat) (x : FrostFn) : (d.setFrost c i x).front = d.front := by
  obtain ⟨x, h⟩ := d.setFrost_eq c i x; rw [h]
@[simp] theorem Device.setFrost_svc (c i : Nat) (x : FrostFn) : (d.setFrost c i x).svc = d.svc := by
  obtain ⟨x, h⟩ := d.setFrost_eq c i x; rw [h]
@[simp] theorem Device.setFrost_pkt (c i : Nat) (x : FrostFn) : (d.setFrost c i x).pkt = d.pkt := by
  obtain ⟨x, h⟩ := d.setFrost_eq c i x; rw [h]
@[simp] theorem Device.setFrost_ports (c i : Nat) (x : FrostFn) : (d.setFrost c i x).ports = d.ports := by
  obtain ⟨x, h⟩ := d.setFrost_eq c i x; rw [h]
@[simp] theorem Device.setFrost_srh (c i : Nat) (x : FrostFn) : (d.setFrost c i x).srh = d.srh := by
  obtain ⟨x, h⟩ := d.setFrost_eq c i x; rw [h]
@[simp] theorem Device.setFrost_eng (c i : Nat) (x : FrostFn) : (d.setFrost c i x).eng = d.eng := by
  obtain ⟨x, h⟩ := d.setFrost_eq c i x; rw [h]
@[simp] theorem Device.setFrost_cry (c i : Nat) (x : FrostFn) : (d.setFrost c i x).cry = d.cry := by
  obtain ⟨x, h⟩ := d.setFrost_eq c i x; rw [h]
@[simp] theorem Device.setFrost_swc (c i : Nat) (x : FrostFn) : (d.setFrost c i x).swc = d.swc := by
  obtain ⟨x, h⟩ := d.setFrost_eq c i x; rw [h]
@[simp] theorem Device.setFrost_tm (c i : Nat) (x : FrostFn) : (d.setFrost c i x).tm = d.tm := by
  obtain ⟨x, h⟩ := d.setFrost_eq c i x; rw [h]
@[simp] theorem Device.setFrost_baro (c i : Nat) (x : FrostFn) : (d.setFrost c i x).baro = d.baro := by
  obtain ⟨x, h⟩ := d.setFrost_eq c i x; rw [h]
@[simp] theorem Device.setFrost_ev (c i : Nat) (x : FrostFn) : (d.setFrost c i x).ev = d.ev := by
  obtain ⟨x, h⟩ := d.setFrost_eq c i x; rw [h]
@[simp] theorem Device.setFrost_sec (c i : Nat) (x : FrostFn) : (d.setFrost c i x).sec = d.sec := by
  obtain ⟨x, h⟩ := d.setFrost_eq c i x; rw [h]
@[simp] theorem Device.setFrost_host (c i : Nat) (x : FrostFn) : (d.setFrost c i x).host = d.host := by
  obtain ⟨x, h⟩ := d.setFrost_eq c i x; rw [h]
@[simp] theorem Device.setFrost_sys (c i : Nat) (x : FrostFn) : (d.setFrost c i x).sys = d.sys := by
  obtain ⟨x, h⟩ := d.setFrost_eq c i x; rw [h]

@[simp] theorem Device.emit_now (o : Output) : (d.emit o).now = d.now := rfl
@[simp] theorem Device.emit_free (o : Output) : (d.emit o).free = d.free := rfl
@[simp] theorem Device.emit_dict (o : Output) : (d.emit o).dict = d.dict := rfl
@[simp] theorem Device.emit_ptrs (o : Output) : (d.emit o).ptrs = d.ptrs := rfl
@[simp] theorem Device.emit_front (o : Output) : (d.emit o).front = d.front := rfl
@[simp] theorem Device.emit_svc (o : Output) : (d.emit o).svc = d.svc := rfl
@[simp] theorem Device.emit_frost (o : Output) : (d.emit o).frost = d.frost := rfl
@[simp] theorem Device.emit_pkt (o : Output) : (d.emit o).pkt = d.pkt := rfl
@[simp] theorem Device.emit_ports (o : Output) : (d.emit o).ports = d.ports := rfl
@[simp] theorem Device.emit_srh (o : Output) : (d.emit o).srh = d.srh := rfl
@[simp] theorem Device.emit_eng (o : Output) : (d.emit o).eng = d.eng := rfl
@[simp] theorem Device.emit_cry (o : Output) : (d.emit o).cry = d.cry := rfl
@[simp] theorem Device.emit_swc (o : Output) : (d.emit o).swc = d.swc := rfl
@[simp] theorem Device.emit_tm (o : Output) : (d.emit o).tm = d.tm := rfl
@[simp] theorem Device.emit_baro (o : Output) : (d.emit o).baro = d.baro := rfl
@[simp] theorem Device.emit_ev (o : Output) : (d.emit o).ev = d.ev := rfl
@[simp] theorem Device.emit_sec (o : Output) : (d.emit o).sec = d.sec := rfl
@[simp] theorem Device.emit_host (o : Output) : (d.emit o).host = d.host := rfl
@[simp] theorem Device.emit_sys (o : Output) : (d.emit o).sys = d.sys := rfl

@[simp] theorem Device.fireOf_now (a b c e f : Nat) : (d.fireOf a b c e f).now = d.now := rfl
@[simp] theorem Device.fireOf_free (a b c e f : Nat) : (d.fireOf a b c e f).free = d.free := rfl
@[simp] theorem Device.fireOf_out (a b c e f : Nat) : (d.fireOf a b c e f).out = d.out := rfl
@[simp] theorem Device.fireOf_dict (a b c e f : Nat) : (d.fireOf a b c e f).dict = d.dict := rfl
@[simp] theorem Device.fireOf_ptrs (a b c e f : Nat) : (d.fireOf a b c e f).ptrs = d.ptrs := rfl
@[simp] theorem Device.fireOf_front (a b c e f : Nat) : (d.fireOf a b c e f).front = d.front := rfl
@[simp] theorem Device.fireOf_svc (a b c e f : Nat) : (d.fireOf a b c e f).svc = d.svc := rfl
@[simp] theorem Device.fireOf_frost (a b c e f : Nat) : (d.fireOf a b c e f).frost = d.frost := rfl
@[simp] theorem Device.fireOf_pkt (a b c e f : Nat) : (d.fireOf a b c e f).pkt = d.pkt := rfl
@[simp] theorem Device.fireOf_ports (a b c e f : Nat) : (d.fireOf a b c e f).ports = d.ports := rfl
@[simp] theorem Device.fireOf_srh (a b c e f : Nat) : (d.fireOf a b c e f).srh = d.srh := rfl
@[simp] theorem Device.fireOf_eng (a b c e f : Nat) : (d.fireOf a b c e f).eng = d.eng := rfl
@[simp] theorem Device.fireOf_cry (a b c e f : Nat) : (d.fireOf a b c e f).cry = d.cry := rfl
@[simp] theorem Device.fireOf_swc (a b c e f : Nat) : (d.fireOf a b c e f).swc = d.swc := rfl
@[simp] theorem Device.fireOf_tm (a b c e f : Nat) : (d.fireOf a b c e f).tm = d.tm := rfl
@[simp] theorem Device.fireOf_baro (a b c e f : Nat) : (d.fireOf a b c e f).baro = d.baro := rfl
@[simp] theorem Device.fireOf_sec (a b c e f : Nat) : (d.fireOf a b c e f).sec = d.sec := rfl
@[simp] theorem Device.fireOf_host (a b c e f : Nat) : (d.fireOf a b c e f).host = d.host := rfl
@[simp] theorem Device.fireOf_sys (a b c e f : Nat) : (d.fireOf a b c e f).sys = d.sys := rfl

@[simp] theorem Device.fire_now (a b c : Nat) : (d.fire a b c).now = d.now := rfl
@[simp] theorem Device.fire_free (a b c : Nat) : (d.fire a b c).free = d.free := rfl
@[simp] theorem Device.fire_out (a b c : Nat) : (d.fire a b c).out = d.out := rfl
@[simp] theorem Device.fire_dict (a b c : Nat) : (d.fire a b c).dict = d.dict := rfl
@[simp] theorem Device.fire_ptrs (a b c : Nat) : (d.fire a b c).ptrs = d.ptrs := rfl
@[simp] theorem Device.fire_front (a b c : Nat) : (d.fire a b c).front = d.front := rfl
@[simp] theorem Device.fire_svc (a b c : Nat) : (d.fire a b c).svc = d.svc := rfl
@[simp] theorem Device.fire_frost (a b c : Nat) : (d.fire a b c).frost = d.frost := rfl
@[simp] theorem Device.fire_pkt (a b c : Nat) : (d.fire a b c).pkt = d.pkt := rfl
@[simp] theorem Device.fire_ports (a b c : Nat) : (d.fire a b c).ports = d.ports := rfl
@[simp] theorem Device.fire_srh (a b c : Nat) : (d.fire a b c).srh = d.srh := rfl
@[simp] theorem Device.fire_eng (a b c : Nat) : (d.fire a b c).eng = d.eng := rfl
@[simp] theorem Device.fire_cry (a b c : Nat) : (d.fire a b c).cry = d.cry := rfl
@[simp] theorem Device.fire_swc (a b c : Nat) : (d.fire a b c).swc = d.swc := rfl
@[simp] theorem Device.fire_tm (a b c : Nat) : (d.fire a b c).tm = d.tm := rfl
@[simp] theorem Device.fire_baro (a b c : Nat) : (d.fire a b c).baro = d.baro := rfl
@[simp] theorem Device.fire_sec (a b c : Nat) : (d.fire a b c).sec = d.sec := rfl
@[simp] theorem Device.fire_host (a b c : Nat) : (d.fire a b c).host = d.host := rfl
@[simp] theorem Device.fire_sys (a b c : Nat) : (d.fire a b c).sys = d.sys := rfl

@[simp] theorem Device.setPort_now (p : Nat) (x : PortState) : (d.setPort p x).now = d.now := rfl
@[simp] theorem Device.setPort_free (p : Nat) (x : PortState) : (d.setPort p x).free = d.free := rfl
@[simp] theorem Device.setPort_out (p : Nat) (x : PortState) : (d.setPort p x).out = d.out := rfl
@[simp] theorem Device.setPort_dict (p : Nat) (x : PortState) : (d.setPort p x).dict = d.dict := rfl
@[simp] theorem Device.setPort_ptrs (p : Nat) (x : PortState) : (d.setPort p x).ptrs = d.ptrs := rfl
@[simp] theorem Device.setPort_front (p : Nat) (x : PortState) : (d.setPort p x).front = d.front := rfl
@[simp] theorem Device.setPort_svc (p : Nat) (x : PortState) : (d.setPort p x).svc = d.svc := rfl
@[simp] theorem Device.setPort_frost (p : Nat) (x : PortState) : (d.setPort p x).frost = d.frost := rfl
@[simp] theorem Device.setPort_pkt (p : Nat) (x : PortState) : (d.setPort p x).pkt = d.pkt := rfl
@[simp] theorem Device.setPort_srh (p : Nat) (x : PortState) : (d.setPort p x).srh = d.srh := rfl
@[simp] theorem Device.setPort_eng (p : Nat) (x : PortState) : (d.setPort p x).eng = d.eng := rfl
@[simp] theorem Device.setPort_cry (p : Nat) (x : PortState) : (d.setPort p x).cry = d.cry := rfl
@[simp] theorem Device.setPort_swc (p : Nat) (x : PortState) : (d.setPort p x).swc = d.swc := rfl
@[simp] theorem Device.setPort_tm (p : Nat) (x : PortState) : (d.setPort p x).tm = d.tm := rfl
@[simp] theorem Device.setPort_baro (p : Nat) (x : PortState) : (d.setPort p x).baro = d.baro := rfl
@[simp] theorem Device.setPort_ev (p : Nat) (x : PortState) : (d.setPort p x).ev = d.ev := rfl
@[simp] theorem Device.setPort_sec (p : Nat) (x : PortState) : (d.setPort p x).sec = d.sec := rfl
@[simp] theorem Device.setPort_host (p : Nat) (x : PortState) : (d.setPort p x).host = d.host := rfl
@[simp] theorem Device.setPort_sys (p : Nat) (x : PortState) : (d.setPort p x).sys = d.sys := rfl

@[simp] theorem Device.setMailbox_now (n : Nat) (x : Mailbox) : (d.setMailbox n x).now = d.now := rfl
@[simp] theorem Device.setMailbox_free (n : Nat) (x : Mailbox) : (d.setMailbox n x).free = d.free := rfl
@[simp] theorem Device.setMailbox_out (n : Nat) (x : Mailbox) : (d.setMailbox n x).out = d.out := rfl
@[simp] theorem Device.setMailbox_dict (n : Nat) (x : Mailbox) : (d.setMailbox n x).dict = d.dict := rfl
@[simp] theorem Device.setMailbox_ptrs (n : Nat) (x : Mailbox) : (d.setMailbox n x).ptrs = d.ptrs := rfl
@[simp] theorem Device.setMailbox_front (n : Nat) (x : Mailbox) : (d.setMailbox n x).front = d.front := rfl
@[simp] theorem Device.setMailbox_frost (n : Nat) (x : Mailbox) : (d.setMailbox n x).frost = d.frost := rfl
@[simp] theorem Device.setMailbox_pkt (n : Nat) (x : Mailbox) : (d.setMailbox n x).pkt = d.pkt := rfl
@[simp] theorem Device.setMailbox_ports (n : Nat) (x : Mailbox) : (d.setMailbox n x).ports = d.ports := rfl
@[simp] theorem Device.setMailbox_srh (n : Nat) (x : Mailbox) : (d.setMailbox n x).srh = d.srh := rfl
@[simp] theorem Device.setMailbox_eng (n : Nat) (x : Mailbox) : (d.setMailbox n x).eng = d.eng := rfl
@[simp] theorem Device.setMailbox_cry (n : Nat) (x : Mailbox) : (d.setMailbox n x).cry = d.cry := rfl
@[simp] theorem Device.setMailbox_swc (n : Nat) (x : Mailbox) : (d.setMailbox n x).swc = d.swc := rfl
@[simp] theorem Device.setMailbox_tm (n : Nat) (x : Mailbox) : (d.setMailbox n x).tm = d.tm := rfl
@[simp] theorem Device.setMailbox_baro (n : Nat) (x : Mailbox) : (d.setMailbox n x).baro = d.baro := rfl
@[simp] theorem Device.setMailbox_ev (n : Nat) (x : Mailbox) : (d.setMailbox n x).ev = d.ev := rfl
@[simp] theorem Device.setMailbox_sec (n : Nat) (x : Mailbox) : (d.setMailbox n x).sec = d.sec := rfl
@[simp] theorem Device.setMailbox_host (n : Nat) (x : Mailbox) : (d.setMailbox n x).host = d.host := rfl
@[simp] theorem Device.setMailbox_sys (n : Nat) (x : Mailbox) : (d.setMailbox n x).sys = d.sys := rfl

@[simp] theorem Device.setSession_now (n : Nat) (x : Session) : (d.setSession n x).now = d.now := rfl
@[simp] theorem Device.setSession_free (n : Nat) (x : Session) : (d.setSession n x).free = d.free := rfl
@[simp] theorem Device.setSession_out (n : Nat) (x : Session) : (d.setSession n x).out = d.out := rfl
@[simp] theorem Device.setSession_dict (n : Nat) (x : Session) : (d.setSession n x).dict = d.dict := rfl
@[simp] theorem Device.setSession_ptrs (n : Nat) (x : Session) : (d.setSession n x).ptrs = d.ptrs := rfl
@[simp] theorem Device.setSession_front (n : Nat) (x : Session) : (d.setSession n x).front = d.front := rfl
@[simp] theorem Device.setSession_frost (n : Nat) (x : Session) : (d.setSession n x).frost = d.frost := rfl
@[simp] theorem Device.setSession_pkt (n : Nat) (x : Session) : (d.setSession n x).pkt = d.pkt := rfl
@[simp] theorem Device.setSession_ports (n : Nat) (x : Session) : (d.setSession n x).ports = d.ports := rfl
@[simp] theorem Device.setSession_srh (n : Nat) (x : Session) : (d.setSession n x).srh = d.srh := rfl
@[simp] theorem Device.setSession_eng (n : Nat) (x : Session) : (d.setSession n x).eng = d.eng := rfl
@[simp] theorem Device.setSession_cry (n : Nat) (x : Session) : (d.setSession n x).cry = d.cry := rfl
@[simp] theorem Device.setSession_swc (n : Nat) (x : Session) : (d.setSession n x).swc = d.swc := rfl
@[simp] theorem Device.setSession_tm (n : Nat) (x : Session) : (d.setSession n x).tm = d.tm := rfl
@[simp] theorem Device.setSession_baro (n : Nat) (x : Session) : (d.setSession n x).baro = d.baro := rfl
@[simp] theorem Device.setSession_ev (n : Nat) (x : Session) : (d.setSession n x).ev = d.ev := rfl
@[simp] theorem Device.setSession_sec (n : Nat) (x : Session) : (d.setSession n x).sec = d.sec := rfl
@[simp] theorem Device.setSession_host (n : Nat) (x : Session) : (d.setSession n x).host = d.host := rfl
@[simp] theorem Device.setSession_sys (n : Nat) (x : Session) : (d.setSession n x).sys = d.sys := rfl

@[simp] theorem Device.setRing_now (g : Nat) (x : Ring) : (d.setRing g x).now = d.now := rfl
@[simp] theorem Device.setRing_free (g : Nat) (x : Ring) : (d.setRing g x).free = d.free := rfl
@[simp] theorem Device.setRing_out (g : Nat) (x : Ring) : (d.setRing g x).out = d.out := rfl
@[simp] theorem Device.setRing_dict (g : Nat) (x : Ring) : (d.setRing g x).dict = d.dict := rfl
@[simp] theorem Device.setRing_ptrs (g : Nat) (x : Ring) : (d.setRing g x).ptrs = d.ptrs := rfl
@[simp] theorem Device.setRing_front (g : Nat) (x : Ring) : (d.setRing g x).front = d.front := rfl
@[simp] theorem Device.setRing_svc (g : Nat) (x : Ring) : (d.setRing g x).svc = d.svc := rfl
@[simp] theorem Device.setRing_frost (g : Nat) (x : Ring) : (d.setRing g x).frost = d.frost := rfl
@[simp] theorem Device.setRing_pkt (g : Nat) (x : Ring) : (d.setRing g x).pkt = d.pkt := rfl
@[simp] theorem Device.setRing_ports (g : Nat) (x : Ring) : (d.setRing g x).ports = d.ports := rfl
@[simp] theorem Device.setRing_srh (g : Nat) (x : Ring) : (d.setRing g x).srh = d.srh := rfl
@[simp] theorem Device.setRing_eng (g : Nat) (x : Ring) : (d.setRing g x).eng = d.eng := rfl
@[simp] theorem Device.setRing_cry (g : Nat) (x : Ring) : (d.setRing g x).cry = d.cry := rfl
@[simp] theorem Device.setRing_swc (g : Nat) (x : Ring) : (d.setRing g x).swc = d.swc := rfl
@[simp] theorem Device.setRing_tm (g : Nat) (x : Ring) : (d.setRing g x).tm = d.tm := rfl
@[simp] theorem Device.setRing_baro (g : Nat) (x : Ring) : (d.setRing g x).baro = d.baro := rfl
@[simp] theorem Device.setRing_ev (g : Nat) (x : Ring) : (d.setRing g x).ev = d.ev := rfl
@[simp] theorem Device.setRing_sec (g : Nat) (x : Ring) : (d.setRing g x).sec = d.sec := rfl
@[simp] theorem Device.setRing_sys (g : Nat) (x : Ring) : (d.setRing g x).sys = d.sys := rfl

@[simp] theorem Device.setFrame_now (i : Nat) (x : Frame) : (d.setFrame i x).now = d.now := rfl
@[simp] theorem Device.setFrame_free (i : Nat) (x : Frame) : (d.setFrame i x).free = d.free := rfl
@[simp] theorem Device.setFrame_out (i : Nat) (x : Frame) : (d.setFrame i x).out = d.out := rfl
@[simp] theorem Device.setFrame_dict (i : Nat) (x : Frame) : (d.setFrame i x).dict = d.dict := rfl
@[simp] theorem Device.setFrame_ptrs (i : Nat) (x : Frame) : (d.setFrame i x).ptrs = d.ptrs := rfl
@[simp] theorem Device.setFrame_front (i : Nat) (x : Frame) : (d.setFrame i x).front = d.front := rfl
@[simp] theorem Device.setFrame_svc (i : Nat) (x : Frame) : (d.setFrame i x).svc = d.svc := rfl
@[simp] theorem Device.setFrame_frost (i : Nat) (x : Frame) : (d.setFrame i x).frost = d.frost := rfl
@[simp] theorem Device.setFrame_ports (i : Nat) (x : Frame) : (d.setFrame i x).ports = d.ports := rfl
@[simp] theorem Device.setFrame_srh (i : Nat) (x : Frame) : (d.setFrame i x).srh = d.srh := rfl
@[simp] theorem Device.setFrame_eng (i : Nat) (x : Frame) : (d.setFrame i x).eng = d.eng := rfl
@[simp] theorem Device.setFrame_cry (i : Nat) (x : Frame) : (d.setFrame i x).cry = d.cry := rfl
@[simp] theorem Device.setFrame_swc (i : Nat) (x : Frame) : (d.setFrame i x).swc = d.swc := rfl
@[simp] theorem Device.setFrame_tm (i : Nat) (x : Frame) : (d.setFrame i x).tm = d.tm := rfl
@[simp] theorem Device.setFrame_baro (i : Nat) (x : Frame) : (d.setFrame i x).baro = d.baro := rfl
@[simp] theorem Device.setFrame_ev (i : Nat) (x : Frame) : (d.setFrame i x).ev = d.ev := rfl
@[simp] theorem Device.setFrame_sec (i : Nat) (x : Frame) : (d.setFrame i x).sec = d.sec := rfl
@[simp] theorem Device.setFrame_host (i : Nat) (x : Frame) : (d.setFrame i x).host = d.host := rfl
@[simp] theorem Device.setFrame_sys (i : Nat) (x : Frame) : (d.setFrame i x).sys = d.sys := rfl

@[simp] theorem Device.setCopy_now (i : Nat) (x : Copy) : (d.setCopy i x).now = d.now := rfl
@[simp] theorem Device.setCopy_free (i : Nat) (x : Copy) : (d.setCopy i x).free = d.free := rfl
@[simp] theorem Device.setCopy_out (i : Nat) (x : Copy) : (d.setCopy i x).out = d.out := rfl
@[simp] theorem Device.setCopy_dict (i : Nat) (x : Copy) : (d.setCopy i x).dict = d.dict := rfl
@[simp] theorem Device.setCopy_ptrs (i : Nat) (x : Copy) : (d.setCopy i x).ptrs = d.ptrs := rfl
@[simp] theorem Device.setCopy_front (i : Nat) (x : Copy) : (d.setCopy i x).front = d.front := rfl
@[simp] theorem Device.setCopy_svc (i : Nat) (x : Copy) : (d.setCopy i x).svc = d.svc := rfl
@[simp] theorem Device.setCopy_frost (i : Nat) (x : Copy) : (d.setCopy i x).frost = d.frost := rfl
@[simp] theorem Device.setCopy_ports (i : Nat) (x : Copy) : (d.setCopy i x).ports = d.ports := rfl
@[simp] theorem Device.setCopy_srh (i : Nat) (x : Copy) : (d.setCopy i x).srh = d.srh := rfl
@[simp] theorem Device.setCopy_eng (i : Nat) (x : Copy) : (d.setCopy i x).eng = d.eng := rfl
@[simp] theorem Device.setCopy_cry (i : Nat) (x : Copy) : (d.setCopy i x).cry = d.cry := rfl
@[simp] theorem Device.setCopy_swc (i : Nat) (x : Copy) : (d.setCopy i x).swc = d.swc := rfl
@[simp] theorem Device.setCopy_tm (i : Nat) (x : Copy) : (d.setCopy i x).tm = d.tm := rfl
@[simp] theorem Device.setCopy_baro (i : Nat) (x : Copy) : (d.setCopy i x).baro = d.baro := rfl
@[simp] theorem Device.setCopy_ev (i : Nat) (x : Copy) : (d.setCopy i x).ev = d.ev := rfl
@[simp] theorem Device.setCopy_sec (i : Nat) (x : Copy) : (d.setCopy i x).sec = d.sec := rfl
@[simp] theorem Device.setCopy_host (i : Nat) (x : Copy) : (d.setCopy i x).host = d.host := rfl
@[simp] theorem Device.setCopy_sys (i : Nat) (x : Copy) : (d.setCopy i x).sys = d.sys := rfl

@[simp] theorem Device.setPg_now (n : Nat) (x : PgState) : (d.setPg n x).now = d.now := rfl
@[simp] theorem Device.setPg_free (n : Nat) (x : PgState) : (d.setPg n x).free = d.free := rfl
@[simp] theorem Device.setPg_out (n : Nat) (x : PgState) : (d.setPg n x).out = d.out := rfl
@[simp] theorem Device.setPg_dict (n : Nat) (x : PgState) : (d.setPg n x).dict = d.dict := rfl
@[simp] theorem Device.setPg_ptrs (n : Nat) (x : PgState) : (d.setPg n x).ptrs = d.ptrs := rfl
@[simp] theorem Device.setPg_front (n : Nat) (x : PgState) : (d.setPg n x).front = d.front := rfl
@[simp] theorem Device.setPg_svc (n : Nat) (x : PgState) : (d.setPg n x).svc = d.svc := rfl
@[simp] theorem Device.setPg_frost (n : Nat) (x : PgState) : (d.setPg n x).frost = d.frost := rfl
@[simp] theorem Device.setPg_ports (n : Nat) (x : PgState) : (d.setPg n x).ports = d.ports := rfl
@[simp] theorem Device.setPg_srh (n : Nat) (x : PgState) : (d.setPg n x).srh = d.srh := rfl
@[simp] theorem Device.setPg_eng (n : Nat) (x : PgState) : (d.setPg n x).eng = d.eng := rfl
@[simp] theorem Device.setPg_cry (n : Nat) (x : PgState) : (d.setPg n x).cry = d.cry := rfl
@[simp] theorem Device.setPg_swc (n : Nat) (x : PgState) : (d.setPg n x).swc = d.swc := rfl
@[simp] theorem Device.setPg_tm (n : Nat) (x : PgState) : (d.setPg n x).tm = d.tm := rfl
@[simp] theorem Device.setPg_baro (n : Nat) (x : PgState) : (d.setPg n x).baro = d.baro := rfl
@[simp] theorem Device.setPg_ev (n : Nat) (x : PgState) : (d.setPg n x).ev = d.ev := rfl
@[simp] theorem Device.setPg_sec (n : Nat) (x : PgState) : (d.setPg n x).sec = d.sec := rfl
@[simp] theorem Device.setPg_host (n : Nat) (x : PgState) : (d.setPg n x).host = d.host := rfl
@[simp] theorem Device.setPg_sys (n : Nat) (x : PgState) : (d.setPg n x).sys = d.sys := rfl

@[simp] theorem Device.setThread_now (k : Nat) (x : Thread) : (d.setThread k x).now = d.now := rfl
@[simp] theorem Device.setThread_free (k : Nat) (x : Thread) : (d.setThread k x).free = d.free := rfl
@[simp] theorem Device.setThread_out (k : Nat) (x : Thread) : (d.setThread k x).out = d.out := rfl
@[simp] theorem Device.setThread_dict (k : Nat) (x : Thread) : (d.setThread k x).dict = d.dict := rfl
@[simp] theorem Device.setThread_ptrs (k : Nat) (x : Thread) : (d.setThread k x).ptrs = d.ptrs := rfl
@[simp] theorem Device.setThread_front (k : Nat) (x : Thread) : (d.setThread k x).front = d.front := rfl
@[simp] theorem Device.setThread_svc (k : Nat) (x : Thread) : (d.setThread k x).svc = d.svc := rfl
@[simp] theorem Device.setThread_frost (k : Nat) (x : Thread) : (d.setThread k x).frost = d.frost := rfl
@[simp] theorem Device.setThread_pkt (k : Nat) (x : Thread) : (d.setThread k x).pkt = d.pkt := rfl
@[simp] theorem Device.setThread_ports (k : Nat) (x : Thread) : (d.setThread k x).ports = d.ports := rfl
@[simp] theorem Device.setThread_srh (k : Nat) (x : Thread) : (d.setThread k x).srh = d.srh := rfl
@[simp] theorem Device.setThread_cry (k : Nat) (x : Thread) : (d.setThread k x).cry = d.cry := rfl
@[simp] theorem Device.setThread_swc (k : Nat) (x : Thread) : (d.setThread k x).swc = d.swc := rfl
@[simp] theorem Device.setThread_tm (k : Nat) (x : Thread) : (d.setThread k x).tm = d.tm := rfl
@[simp] theorem Device.setThread_baro (k : Nat) (x : Thread) : (d.setThread k x).baro = d.baro := rfl
@[simp] theorem Device.setThread_ev (k : Nat) (x : Thread) : (d.setThread k x).ev = d.ev := rfl
@[simp] theorem Device.setThread_sec (k : Nat) (x : Thread) : (d.setThread k x).sec = d.sec := rfl
@[simp] theorem Device.setThread_host (k : Nat) (x : Thread) : (d.setThread k x).host = d.host := rfl
@[simp] theorem Device.setThread_sys (k : Nat) (x : Thread) : (d.setThread k x).sys = d.sys := rfl

@[simp] theorem Device.setCluster_now (c : Nat) (x : Cluster) : (d.setCluster c x).now = d.now := rfl
@[simp] theorem Device.setCluster_free (c : Nat) (x : Cluster) : (d.setCluster c x).free = d.free := rfl
@[simp] theorem Device.setCluster_out (c : Nat) (x : Cluster) : (d.setCluster c x).out = d.out := rfl
@[simp] theorem Device.setCluster_dict (c : Nat) (x : Cluster) : (d.setCluster c x).dict = d.dict := rfl
@[simp] theorem Device.setCluster_ptrs (c : Nat) (x : Cluster) : (d.setCluster c x).ptrs = d.ptrs := rfl
@[simp] theorem Device.setCluster_front (c : Nat) (x : Cluster) : (d.setCluster c x).front = d.front := rfl
@[simp] theorem Device.setCluster_svc (c : Nat) (x : Cluster) : (d.setCluster c x).svc = d.svc := rfl
@[simp] theorem Device.setCluster_frost (c : Nat) (x : Cluster) : (d.setCluster c x).frost = d.frost := rfl
@[simp] theorem Device.setCluster_pkt (c : Nat) (x : Cluster) : (d.setCluster c x).pkt = d.pkt := rfl
@[simp] theorem Device.setCluster_ports (c : Nat) (x : Cluster) : (d.setCluster c x).ports = d.ports := rfl
@[simp] theorem Device.setCluster_srh (c : Nat) (x : Cluster) : (d.setCluster c x).srh = d.srh := rfl
@[simp] theorem Device.setCluster_cry (c : Nat) (x : Cluster) : (d.setCluster c x).cry = d.cry := rfl
@[simp] theorem Device.setCluster_swc (c : Nat) (x : Cluster) : (d.setCluster c x).swc = d.swc := rfl
@[simp] theorem Device.setCluster_tm (c : Nat) (x : Cluster) : (d.setCluster c x).tm = d.tm := rfl
@[simp] theorem Device.setCluster_baro (c : Nat) (x : Cluster) : (d.setCluster c x).baro = d.baro := rfl
@[simp] theorem Device.setCluster_ev (c : Nat) (x : Cluster) : (d.setCluster c x).ev = d.ev := rfl
@[simp] theorem Device.setCluster_sec (c : Nat) (x : Cluster) : (d.setCluster c x).sec = d.sec := rfl
@[simp] theorem Device.setCluster_host (c : Nat) (x : Cluster) : (d.setCluster c x).host = d.host := rfl
@[simp] theorem Device.setCluster_sys (c : Nat) (x : Cluster) : (d.setCluster c x).sys = d.sys := rfl

@[simp] theorem Device.setSa_now (n : Nat) (x : SaState) : (d.setSa n x).now = d.now := rfl
@[simp] theorem Device.setSa_free (n : Nat) (x : SaState) : (d.setSa n x).free = d.free := rfl
@[simp] theorem Device.setSa_out (n : Nat) (x : SaState) : (d.setSa n x).out = d.out := rfl
@[simp] theorem Device.setSa_dict (n : Nat) (x : SaState) : (d.setSa n x).dict = d.dict := rfl
@[simp] theorem Device.setSa_ptrs (n : Nat) (x : SaState) : (d.setSa n x).ptrs = d.ptrs := rfl
@[simp] theorem Device.setSa_front (n : Nat) (x : SaState) : (d.setSa n x).front = d.front := rfl
@[simp] theorem Device.setSa_svc (n : Nat) (x : SaState) : (d.setSa n x).svc = d.svc := rfl
@[simp] theorem Device.setSa_frost (n : Nat) (x : SaState) : (d.setSa n x).frost = d.frost := rfl
@[simp] theorem Device.setSa_pkt (n : Nat) (x : SaState) : (d.setSa n x).pkt = d.pkt := rfl
@[simp] theorem Device.setSa_ports (n : Nat) (x : SaState) : (d.setSa n x).ports = d.ports := rfl
@[simp] theorem Device.setSa_srh (n : Nat) (x : SaState) : (d.setSa n x).srh = d.srh := rfl
@[simp] theorem Device.setSa_eng (n : Nat) (x : SaState) : (d.setSa n x).eng = d.eng := rfl
@[simp] theorem Device.setSa_swc (n : Nat) (x : SaState) : (d.setSa n x).swc = d.swc := rfl
@[simp] theorem Device.setSa_tm (n : Nat) (x : SaState) : (d.setSa n x).tm = d.tm := rfl
@[simp] theorem Device.setSa_baro (n : Nat) (x : SaState) : (d.setSa n x).baro = d.baro := rfl
@[simp] theorem Device.setSa_ev (n : Nat) (x : SaState) : (d.setSa n x).ev = d.ev := rfl
@[simp] theorem Device.setSa_sec (n : Nat) (x : SaState) : (d.setSa n x).sec = d.sec := rfl
@[simp] theorem Device.setSa_host (n : Nat) (x : SaState) : (d.setSa n x).host = d.host := rfl
@[simp] theorem Device.setSa_sys (n : Nat) (x : SaState) : (d.setSa n x).sys = d.sys := rfl

@[simp] theorem Device.setChain_now (h : Nat) (x : Chain) : (d.setChain h x).now = d.now := rfl
@[simp] theorem Device.setChain_free (h : Nat) (x : Chain) : (d.setChain h x).free = d.free := rfl
@[simp] theorem Device.setChain_out (h : Nat) (x : Chain) : (d.setChain h x).out = d.out := rfl
@[simp] theorem Device.setChain_dict (h : Nat) (x : Chain) : (d.setChain h x).dict = d.dict := rfl
@[simp] theorem Device.setChain_ptrs (h : Nat) (x : Chain) : (d.setChain h x).ptrs = d.ptrs := rfl
@[simp] theorem Device.setChain_front (h : Nat) (x : Chain) : (d.setChain h x).front = d.front := rfl
@[simp] theorem Device.setChain_svc (h : Nat) (x : Chain) : (d.setChain h x).svc = d.svc := rfl
@[simp] theorem Device.setChain_frost (h : Nat) (x : Chain) : (d.setChain h x).frost = d.frost := rfl
@[simp] theorem Device.setChain_pkt (h : Nat) (x : Chain) : (d.setChain h x).pkt = d.pkt := rfl
@[simp] theorem Device.setChain_ports (h : Nat) (x : Chain) : (d.setChain h x).ports = d.ports := rfl
@[simp] theorem Device.setChain_srh (h : Nat) (x : Chain) : (d.setChain h x).srh = d.srh := rfl
@[simp] theorem Device.setChain_eng (h : Nat) (x : Chain) : (d.setChain h x).eng = d.eng := rfl
@[simp] theorem Device.setChain_cry (h : Nat) (x : Chain) : (d.setChain h x).cry = d.cry := rfl
@[simp] theorem Device.setChain_tm (h : Nat) (x : Chain) : (d.setChain h x).tm = d.tm := rfl
@[simp] theorem Device.setChain_baro (h : Nat) (x : Chain) : (d.setChain h x).baro = d.baro := rfl
@[simp] theorem Device.setChain_ev (h : Nat) (x : Chain) : (d.setChain h x).ev = d.ev := rfl
@[simp] theorem Device.setChain_sec (h : Nat) (x : Chain) : (d.setChain h x).sec = d.sec := rfl
@[simp] theorem Device.setChain_host (h : Nat) (x : Chain) : (d.setChain h x).host = d.host := rfl
@[simp] theorem Device.setChain_sys (h : Nat) (x : Chain) : (d.setChain h x).sys = d.sys := rfl

@[simp] theorem Device.setStream_now (k : Nat) (x : Stream) : (d.setStream k x).now = d.now := rfl
@[simp] theorem Device.setStream_free (k : Nat) (x : Stream) : (d.setStream k x).free = d.free := rfl
@[simp] theorem Device.setStream_out (k : Nat) (x : Stream) : (d.setStream k x).out = d.out := rfl
@[simp] theorem Device.setStream_dict (k : Nat) (x : Stream) : (d.setStream k x).dict = d.dict := rfl
@[simp] theorem Device.setStream_ptrs (k : Nat) (x : Stream) : (d.setStream k x).ptrs = d.ptrs := rfl
@[simp] theorem Device.setStream_front (k : Nat) (x : Stream) : (d.setStream k x).front = d.front := rfl
@[simp] theorem Device.setStream_svc (k : Nat) (x : Stream) : (d.setStream k x).svc = d.svc := rfl
@[simp] theorem Device.setStream_frost (k : Nat) (x : Stream) : (d.setStream k x).frost = d.frost := rfl
@[simp] theorem Device.setStream_pkt (k : Nat) (x : Stream) : (d.setStream k x).pkt = d.pkt := rfl
@[simp] theorem Device.setStream_ports (k : Nat) (x : Stream) : (d.setStream k x).ports = d.ports := rfl
@[simp] theorem Device.setStream_srh (k : Nat) (x : Stream) : (d.setStream k x).srh = d.srh := rfl
@[simp] theorem Device.setStream_eng (k : Nat) (x : Stream) : (d.setStream k x).eng = d.eng := rfl
@[simp] theorem Device.setStream_cry (k : Nat) (x : Stream) : (d.setStream k x).cry = d.cry := rfl
@[simp] theorem Device.setStream_tm (k : Nat) (x : Stream) : (d.setStream k x).tm = d.tm := rfl
@[simp] theorem Device.setStream_baro (k : Nat) (x : Stream) : (d.setStream k x).baro = d.baro := rfl
@[simp] theorem Device.setStream_ev (k : Nat) (x : Stream) : (d.setStream k x).ev = d.ev := rfl
@[simp] theorem Device.setStream_sec (k : Nat) (x : Stream) : (d.setStream k x).sec = d.sec := rfl
@[simp] theorem Device.setStream_host (k : Nat) (x : Stream) : (d.setStream k x).host = d.host := rfl
@[simp] theorem Device.setStream_sys (k : Nat) (x : Stream) : (d.setStream k x).sys = d.sys := rfl

@[simp] theorem Device.setQueue_now (q : Nat) (l : List Nat) : (d.setQueue q l).now = d.now := rfl
@[simp] theorem Device.setQueue_free (q : Nat) (l : List Nat) : (d.setQueue q l).free = d.free := rfl
@[simp] theorem Device.setQueue_out (q : Nat) (l : List Nat) : (d.setQueue q l).out = d.out := rfl
@[simp] theorem Device.setQueue_dict (q : Nat) (l : List Nat) : (d.setQueue q l).dict = d.dict := rfl
@[simp] theorem Device.setQueue_ptrs (q : Nat) (l : List Nat) : (d.setQueue q l).ptrs = d.ptrs := rfl
@[simp] theorem Device.setQueue_front (q : Nat) (l : List Nat) : (d.setQueue q l).front = d.front := rfl
@[simp] theorem Device.setQueue_svc (q : Nat) (l : List Nat) : (d.setQueue q l).svc = d.svc := rfl
@[simp] theorem Device.setQueue_frost (q : Nat) (l : List Nat) : (d.setQueue q l).frost = d.frost := rfl
@[simp] theorem Device.setQueue_pkt (q : Nat) (l : List Nat) : (d.setQueue q l).pkt = d.pkt := rfl
@[simp] theorem Device.setQueue_ports (q : Nat) (l : List Nat) : (d.setQueue q l).ports = d.ports := rfl
@[simp] theorem Device.setQueue_srh (q : Nat) (l : List Nat) : (d.setQueue q l).srh = d.srh := rfl
@[simp] theorem Device.setQueue_eng (q : Nat) (l : List Nat) : (d.setQueue q l).eng = d.eng := rfl
@[simp] theorem Device.setQueue_cry (q : Nat) (l : List Nat) : (d.setQueue q l).cry = d.cry := rfl
@[simp] theorem Device.setQueue_swc (q : Nat) (l : List Nat) : (d.setQueue q l).swc = d.swc := rfl
@[simp] theorem Device.setQueue_baro (q : Nat) (l : List Nat) : (d.setQueue q l).baro = d.baro := rfl
@[simp] theorem Device.setQueue_ev (q : Nat) (l : List Nat) : (d.setQueue q l).ev = d.ev := rfl
@[simp] theorem Device.setQueue_sec (q : Nat) (l : List Nat) : (d.setQueue q l).sec = d.sec := rfl
@[simp] theorem Device.setQueue_host (q : Nat) (l : List Nat) : (d.setQueue q l).host = d.host := rfl
@[simp] theorem Device.setQueue_sys (q : Nat) (l : List Nat) : (d.setQueue q l).sys = d.sys := rfl

@[simp] theorem Device.setVec_now (k : Nat) (x : MsixVec) : (d.setVec k x).now = d.now := rfl
@[simp] theorem Device.setVec_free (k : Nat) (x : MsixVec) : (d.setVec k x).free = d.free := rfl
@[simp] theorem Device.setVec_out (k : Nat) (x : MsixVec) : (d.setVec k x).out = d.out := rfl
@[simp] theorem Device.setVec_dict (k : Nat) (x : MsixVec) : (d.setVec k x).dict = d.dict := rfl
@[simp] theorem Device.setVec_ptrs (k : Nat) (x : MsixVec) : (d.setVec k x).ptrs = d.ptrs := rfl
@[simp] theorem Device.setVec_front (k : Nat) (x : MsixVec) : (d.setVec k x).front = d.front := rfl
@[simp] theorem Device.setVec_svc (k : Nat) (x : MsixVec) : (d.setVec k x).svc = d.svc := rfl
@[simp] theorem Device.setVec_frost (k : Nat) (x : MsixVec) : (d.setVec k x).frost = d.frost := rfl
@[simp] theorem Device.setVec_pkt (k : Nat) (x : MsixVec) : (d.setVec k x).pkt = d.pkt := rfl
@[simp] theorem Device.setVec_ports (k : Nat) (x : MsixVec) : (d.setVec k x).ports = d.ports := rfl
@[simp] theorem Device.setVec_srh (k : Nat) (x : MsixVec) : (d.setVec k x).srh = d.srh := rfl
@[simp] theorem Device.setVec_eng (k : Nat) (x : MsixVec) : (d.setVec k x).eng = d.eng := rfl
@[simp] theorem Device.setVec_cry (k : Nat) (x : MsixVec) : (d.setVec k x).cry = d.cry := rfl
@[simp] theorem Device.setVec_swc (k : Nat) (x : MsixVec) : (d.setVec k x).swc = d.swc := rfl
@[simp] theorem Device.setVec_tm (k : Nat) (x : MsixVec) : (d.setVec k x).tm = d.tm := rfl
@[simp] theorem Device.setVec_baro (k : Nat) (x : MsixVec) : (d.setVec k x).baro = d.baro := rfl
@[simp] theorem Device.setVec_sec (k : Nat) (x : MsixVec) : (d.setVec k x).sec = d.sec := rfl
@[simp] theorem Device.setVec_host (k : Nat) (x : MsixVec) : (d.setVec k x).host = d.host := rfl
@[simp] theorem Device.setVec_sys (k : Nat) (x : MsixVec) : (d.setVec k x).sys = d.sys := rfl

@[simp] theorem Device.spend_now (i c t n : Nat) : (d.spend i c t n).now = d.now := rfl
@[simp] theorem Device.spend_free (i c t n : Nat) : (d.spend i c t n).free = d.free := rfl
@[simp] theorem Device.spend_out (i c t n : Nat) : (d.spend i c t n).out = d.out := rfl
@[simp] theorem Device.spend_dict (i c t n : Nat) : (d.spend i c t n).dict = d.dict := rfl
@[simp] theorem Device.spend_ptrs (i c t n : Nat) : (d.spend i c t n).ptrs = d.ptrs := rfl
@[simp] theorem Device.spend_front (i c t n : Nat) : (d.spend i c t n).front = d.front := rfl
@[simp] theorem Device.spend_svc (i c t n : Nat) : (d.spend i c t n).svc = d.svc := rfl
@[simp] theorem Device.spend_frost (i c t n : Nat) : (d.spend i c t n).frost = d.frost := rfl
@[simp] theorem Device.spend_pkt (i c t n : Nat) : (d.spend i c t n).pkt = d.pkt := rfl
@[simp] theorem Device.spend_ports (i c t n : Nat) : (d.spend i c t n).ports = d.ports := rfl
@[simp] theorem Device.spend_srh (i c t n : Nat) : (d.spend i c t n).srh = d.srh := rfl
@[simp] theorem Device.spend_eng (i c t n : Nat) : (d.spend i c t n).eng = d.eng := rfl
@[simp] theorem Device.spend_cry (i c t n : Nat) : (d.spend i c t n).cry = d.cry := rfl
@[simp] theorem Device.spend_swc (i c t n : Nat) : (d.spend i c t n).swc = d.swc := rfl
@[simp] theorem Device.spend_tm (i c t n : Nat) : (d.spend i c t n).tm = d.tm := rfl
@[simp] theorem Device.spend_ev (i c t n : Nat) : (d.spend i c t n).ev = d.ev := rfl
@[simp] theorem Device.spend_sec (i c t n : Nat) : (d.spend i c t n).sec = d.sec := rfl
@[simp] theorem Device.spend_host (i c t n : Nat) : (d.spend i c t n).host = d.host := rfl
@[simp] theorem Device.spend_sys (i c t n : Nat) : (d.spend i c t n).sys = d.sys := rfl

@[simp] theorem Device.bankAdd_now (b c n : Nat) : (d.bankAdd b c n).now = d.now := rfl
@[simp] theorem Device.bankAdd_free (b c n : Nat) : (d.bankAdd b c n).free = d.free := rfl
@[simp] theorem Device.bankAdd_out (b c n : Nat) : (d.bankAdd b c n).out = d.out := rfl
@[simp] theorem Device.bankAdd_dict (b c n : Nat) : (d.bankAdd b c n).dict = d.dict := rfl
@[simp] theorem Device.bankAdd_ptrs (b c n : Nat) : (d.bankAdd b c n).ptrs = d.ptrs := rfl
@[simp] theorem Device.bankAdd_front (b c n : Nat) : (d.bankAdd b c n).front = d.front := rfl
@[simp] theorem Device.bankAdd_svc (b c n : Nat) : (d.bankAdd b c n).svc = d.svc := rfl
@[simp] theorem Device.bankAdd_frost (b c n : Nat) : (d.bankAdd b c n).frost = d.frost := rfl
@[simp] theorem Device.bankAdd_pkt (b c n : Nat) : (d.bankAdd b c n).pkt = d.pkt := rfl
@[simp] theorem Device.bankAdd_ports (b c n : Nat) : (d.bankAdd b c n).ports = d.ports := rfl
@[simp] theorem Device.bankAdd_srh (b c n : Nat) : (d.bankAdd b c n).srh = d.srh := rfl
@[simp] theorem Device.bankAdd_eng (b c n : Nat) : (d.bankAdd b c n).eng = d.eng := rfl
@[simp] theorem Device.bankAdd_cry (b c n : Nat) : (d.bankAdd b c n).cry = d.cry := rfl
@[simp] theorem Device.bankAdd_swc (b c n : Nat) : (d.bankAdd b c n).swc = d.swc := rfl
@[simp] theorem Device.bankAdd_tm (b c n : Nat) : (d.bankAdd b c n).tm = d.tm := rfl
@[simp] theorem Device.bankAdd_baro (b c n : Nat) : (d.bankAdd b c n).baro = d.baro := rfl
@[simp] theorem Device.bankAdd_sec (b c n : Nat) : (d.bankAdd b c n).sec = d.sec := rfl
@[simp] theorem Device.bankAdd_host (b c n : Nat) : (d.bankAdd b c n).host = d.host := rfl
@[simp] theorem Device.bankAdd_sys (b c n : Nat) : (d.bankAdd b c n).sys = d.sys := rfl

end Sys2Proof.Machine
end

