-- ==== Sys2Proof/Laws/Ops.lean ====
section
/-!
SUPPORT. Laws of the shared operations: what reading an object gives after a write, and everything a count, a denial, a
message or a device event can change.
-/
namespace Sys2Proof.Machine

variable (d : Device)

/-! ### Objects -/

/-- An object that was written reads as written. -/
@[simp] theorem Device.get_put_same (k v : Nat) : (d.put k v).get k = v := by
  simp [Device.get, Device.put]

/-- A write of one object leaves the others alone. -/
theorem Device.get_put_ne (k v : Nat) {j : Nat} (h : j ≠ k) : (d.put k v).get j = d.get j := by
  simp [Device.get, Device.put, Assoc.getD_set_ne _ _ _ _ h]

/-- What an object reads as depends on the dictionary alone. -/
theorem Device.get_dict {e : Device} (h : d.dict = e.dict) (k : Nat) : d.get k = e.get k := by
  simp [Device.get, h]

/-- A counter reads one more, in its width. -/
theorem Device.get_bump (k : Nat) :
    (d.bump k).get k = if saturates k then satAdd (objWidth k) (d.get k) 1 else wrapAdd (objWidth k) (d.get k) 1 := by
  simp [Device.bump, Device.bumpBy]

/-- A counter leaves the other objects alone. -/
theorem Device.get_bump_ne (k : Nat) {j : Nat} (h : j ≠ k) : (d.bump k).get j = d.get j := by
  simp [Device.bump, Device.bumpBy, Device.get_put_ne _ _ _ h]

/-- A counter leaves the other objects alone. -/
theorem Device.get_bumpBy_ne (k n : Nat) {j : Nat} (h : j ≠ k) : (d.bumpBy k n).get j = d.get j := by
  simp [Device.bumpBy, Device.get_put_ne _ _ _ h]

/-- A staged write reads back in the copy that took it. -/
@[simp] theorem Device.copyGet_copyPut_same (c : Bool) (k v : Nat) : (d.copyPut c k v).copyGet c k = v := by
  cases c <;> simp [Device.copyPut, Device.copyGet]

/-- A staged write leaves the other copy alone. -/
@[simp] theorem Device.copyGet_copyPut_other (c : Bool) (k v j : Nat) : (d.copyPut c k v).copyGet (!c) j = d.copyGet (!c) j := by
  cases c <;> simp [Device.copyPut, Device.copyGet]

/-- A staged write leaves the other objects alone. -/
theorem Device.copyGet_copyPut_ne (b c : Bool) (k v : Nat) {j : Nat} (h : j ≠ k) :
    (d.copyPut c k v).copyGet b j = d.copyGet b j := by
  cases c <;> cases b <;> simp [Device.copyPut, Device.copyGet, Assoc.getD_set_ne _ _ _ _ h]

/-- A staged write changes nothing but the storage copies. -/
theorem Device.copyPut_eq (c : Bool) (k v : Nat) : ∃ t, d.copyPut c k v = { d with dict := t } := by
  cases c <;> exact ⟨_, rfl⟩

/-- The island pointers stand over a staged write. -/
@[simp] theorem Device.ptr_copyPut (c : Bool) (k v i : Nat) : (d.copyPut c k v).ptr i = d.ptr i := by
  cases c <;> rfl

/-- A staged write is the shadow (R57). -/
@[simp] theorem Device.shadow_stage (k v : Nat) : (d.stage k v).shadow k = v := by
  simp only [Device.shadow, Device.stage, Device.shadowCopy, Device.noShadow, Device.activeCopy, Device.ptr_copyPut]
  exact Device.copyGet_copyPut_same d _ k v

/-- A staged write leaves the active values alone while its group has a shadow (R57). -/
theorem Device.active_stage (k v j : Nat) (h : d.noShadow (groupOf (k / 256)) = false) (hg : groupOf (j / 256) = groupOf (k / 256)) :
    (d.stage k v).active j = d.active j := by
  simp only [Device.active, Device.stage, Device.shadowCopy, Device.noShadow, Device.activeCopy, Device.ptr_copyPut] at h ⊢
  simp only [hg, h, Bool.false_eq_true, if_false]
  generalize (d.ptr islMGT).copy (d.ptr islMGT).parity (groupOf (k / 256)) = c
  simpa using Device.copyGet_copyPut_other d (!c) k v j

/-! ### Canonical form of the dictionary -/

/-- Writing bytes keeps the canonical form. -/
theorem putBytes_wf (b : Bytes) : ∀ (l : Assoc Byte) (k : Nat), l.wf domDefault = true → (putBytes l k b).wf domDefault = true := by
  induction b with
  | nil => intro l k h; exact h
  | cons x b ih => intro l k h; exact ih _ _ (Assoc.wf_set k x h)

/-- Bytes before those written are left alone. -/
theorem putBytes_below (b : Bytes) : ∀ (l : Assoc Byte) (k j : Nat), j < k →
    (putBytes l k b).getD domDefault j = l.getD domDefault j := by
  induction b with
  | nil => intro l k j _; rfl
  | cons x b ih =>
    intro l k j h
    rw [putBytes, ih _ _ _ (Nat.lt_succ_of_lt h), Assoc.getD_set_ne _ _ _ _ (Nat.ne_of_lt h)]

/-- Bytes past those written are left alone. -/
theorem putBytes_above (b : Bytes) : ∀ (l : Assoc Byte) (k j : Nat), k + b.length ≤ j →
    (putBytes l k b).getD domDefault j = l.getD domDefault j := by
  induction b with
  | nil => intro l k j _; rfl
  | cons x b ih =>
    intro l k j h
    simp only [List.length_cons] at h
    rw [putBytes, ih _ _ _ (by omega), Assoc.getD_set_ne _ _ _ _ (by omega)]

/-- Bytes that were written read as written. -/
theorem putBytes_at (b : Bytes) : ∀ (l : Assoc Byte) (k i : Nat) (h : i < b.length),
    (putBytes l k b).getD domDefault (k + i) = b[i] := by
  induction b with
  | nil => intro l k i h; simp at h
  | cons x b ih =>
    intro l k i h
    cases i with
    | zero =>
      have := putBytes_below b (l.set domDefault k x) (k + 1) k (Nat.lt_succ_self k)
      simpa [putBytes] using this
    | succ i =>
      have := ih (l.set domDefault k x) (k + 1) i (by simpa using h)
      rw [putBytes, show k + (i + 1) = k + 1 + i by omega, this]; simp

/-- The dictionary is in canonical form: no map lists a key twice, out of order or at its default. -/
def Dict.wf (t : Dict) : Prop :=
  t.live.wf objDefault = true ∧ t.copy0.wf objDefault = true ∧ t.copy1.wf objDefault = true
  ∧ t.mem.wf domDefault = true ∧ t.mem0.wf domDefault = true ∧ t.mem1.wf domDefault = true

/-- Setting an object keeps the canonical form. -/
theorem Device.put_wf (k v : Nat) (h : d.dict.wf) : (d.put k v).dict.wf :=
  ⟨Assoc.wf_set k v h.1, h.2⟩

/-- A staged write keeps the canonical form. -/
theorem Device.copyPut_wf (c : Bool) (k v : Nat) (h : d.dict.wf) : (d.copyPut c k v).dict.wf := by
  cases c
  · exact ⟨h.1, Assoc.wf_set k v h.2.1, h.2.2⟩
  · exact ⟨h.1, h.2.1, Assoc.wf_set k v h.2.2.1, h.2.2.2⟩

/-- Writing domain bytes keeps the canonical form. -/
theorem Device.memWrite_wf (dom off : Nat) (b : Bytes) (h : d.dict.wf) : (d.memWrite dom off b).dict.wf :=
  ⟨h.1, h.2.1, h.2.2.1, putBytes_wf b _ _ h.2.2.2.1, h.2.2.2.2⟩

/-- Writing staged domain bytes keeps the canonical form. -/
theorem Device.copyWrite_wf (c : Bool) (dom off : Nat) (b : Bytes) (h : d.dict.wf) : (d.copyWrite c dom off b).dict.wf := by
  cases c
  · exact ⟨h.1, h.2.1, h.2.2.1, h.2.2.2.1, putBytes_wf b _ _ h.2.2.2.2.1, h.2.2.2.2.2⟩
  · exact ⟨h.1, h.2.1, h.2.2.1, h.2.2.2.1, h.2.2.2.2.1, putBytes_wf b _ _ h.2.2.2.2.2⟩

/-! ### Counts in the banks -/

/-- A bank count changes nothing but the event unit's counters. -/
theorem Device.tallyAt_eq (b c n t : Nat) (a : Bool) (e : Nat) : ∃ x, d.tallyAt b c n t a e = { d with ev := x } := by
  unfold Device.tallyAt
  split
  · exact ⟨_, rfl⟩
  · generalize List.range (if b < 16 then 8 else 4) = l
    suffices h : ∀ (l : List Nat) (f : Device), (∃ x, f = { d with ev := x }) →
        ∃ x, l.foldl (fun g j => if selectCounts (d.arr b (Obj.bankSelect0 b j)) c t a then
          g.bankAdd b (if b < 16 then 8 * e + j else j) n else g) f = { d with ev := x } by
      have key : ∀ (l : List Nat) (f : Device), (∃ x, f = { d with ev := x }) →
          ∃ x, l.foldl (fun g j => if selectCounts (g.arr b (Obj.bankSelect0 b j)) c t a then
            g.bankAdd b (if b < 16 then 8 * e + j else j) n else g) f = { d with ev := x } := by
        intro l
        induction l with
        | nil => intro f hf; exact hf
        | cons j l ih =>
          intro f hf
          refine ih _ ?_
          obtain ⟨x, rfl⟩ := hf
          dsimp only
          split
          · exact ⟨_, rfl⟩
          · exact ⟨_, rfl⟩
      exact key l d ⟨_, rfl⟩
    intro l
    induction l with
    | nil => intro f hf; exact hf
    | cons j l ih =>
      intro f hf
      refine ih _ ?_
      obtain ⟨x, rfl⟩ := hf
      dsimp only
      split
      · exact ⟨_, rfl⟩
      · exact ⟨_, rfl⟩

/-- A count changes nothing but the event unit's counters. -/
theorem Device.tallyPlain_eq (b c n : Nat) : ∃ x, d.tallyPlain b c n = { d with ev := x } := Device.tallyAt_eq ..

@[simp] theorem Device.tallyPlain_now (b c n : Nat) : (d.tallyPlain b c n).now = d.now := by
  obtain ⟨x, h⟩ := d.tallyPlain_eq b c n; rw [h]
@[simp] theorem Device.tallyPlain_free (b c n : Nat) : (d.tallyPlain b c n).free = d.free := by
  obtain ⟨x, h⟩ := d.tallyPlain_eq b c n; rw [h]
@[simp] theorem Device.tallyPlain_out (b c n : Nat) : (d.tallyPlain b c n).out = d.out := by
  obtain ⟨x, h⟩ := d.tallyPlain_eq b c n; rw [h]
@[simp] theorem Device.tallyPlain_dict (b c n : Nat) : (d.tallyPlain b c n).dict = d.dict := by
  obtain ⟨x, h⟩ := d.tallyPlain_eq b c n; rw [h]
@[simp] theorem Device.tallyPlain_ptrs (b c n : Nat) : (d.tallyPlain b c n).ptrs = d.ptrs := by
  obtain ⟨x, h⟩ := d.tallyPlain_eq b c n; rw [h]
@[simp] theorem Device.tallyPlain_front (b c n : Nat) : (d.tallyPlain b c n).front = d.front := by
  obtain ⟨x, h⟩ := d.tallyPlain_eq b c n; rw [h]
@[simp] theorem Device.tallyPlain_svc (b c n : Nat) : (d.tallyPlain b c n).svc = d.svc := by
  obtain ⟨x, h⟩ := d.tallyPlain_eq b c n; rw [h]
@[simp] theorem Device.tallyPlain_frost (b c n : Nat) : (d.tallyPlain b c n).frost = d.frost := by
  obtain ⟨x, h⟩ := d.tallyPlain_eq b c n; rw [h]
@[simp] theorem Device.tallyPlain_pkt (b c n : Nat) : (d.tallyPlain b c n).pkt = d.pkt := by
  obtain ⟨x, h⟩ := d.tallyPlain_eq b c n; rw [h]
@[simp] theorem Device.tallyPlain_ports (b c n : Nat) : (d.tallyPlain b c n).ports = d.ports := by
  obtain ⟨x, h⟩ := d.tallyPlain_eq b c n; rw [h]
@[simp] theorem Device.tallyPlain_srh (b c n : Nat) : (d.tallyPlain b c n).srh = d.srh := by
  obtain ⟨x, h⟩ := d.tallyPlain_eq b c n; rw [h]
@[simp] theorem Device.tallyPlain_eng (b c n : Nat) : (d.tallyPlain b c n).eng = d.eng := by
  obtain ⟨x, h⟩ := d.tallyPlain_eq b c n; rw [h]
@[simp] theorem Device.tallyPlain_cry (b c n : Nat) : (d.tallyPlain b c n).cry = d.cry := by
  obtain ⟨x, h⟩ := d.tallyPlain_eq b c n; rw [h]
@[simp] theorem Device.tallyPlain_swc (b c n : Nat) : (d.tallyPlain b c n).swc = d.swc := by
  obtain ⟨x, h⟩ := d.tallyPlain_eq b c n; rw [h]
@[simp] theorem Device.tallyPlain_tm (b c n : Nat) : (d.tallyPlain b c n).tm = d.tm := by
  obtain ⟨x, h⟩ := d.tallyPlain_eq b c n; rw [h]
@[simp] theorem Device.tallyPlain_baro (b c n : Nat) : (d.tallyPlain b c n).baro = d.baro := by
  obtain ⟨x, h⟩ := d.tallyPlain_eq b c n; rw [h]
@[simp] theorem Device.tallyPlain_sec (b c n : Nat) : (d.tallyPlain b c n).sec = d.sec := by
  obtain ⟨x, h⟩ := d.tallyPlain_eq b c n; rw [h]
@[simp] theorem Device.tallyPlain_host (b c n : Nat) : (d.tallyPlain b c n).host = d.host := by
  obtain ⟨x, h⟩ := d.tallyPlain_eq b c n; rw [h]
@[simp] theorem Device.tallyPlain_sys (b c n : Nat) : (d.tallyPlain b c n).sys = d.sys := by
  obtain ⟨x, h⟩ := d.tallyPlain_eq b c n; rw [h]

/-- A count changes nothing but the event unit's counters. -/
theorem Device.tally_eq (b c n t : Nat) : ∃ x, d.tally b c n t = { d with ev := x } := Device.tallyAt_eq ..

@[simp] theorem Device.tally_now (b c n t : Nat) : (d.tally b c n t).now = d.now := by
  obtain ⟨x, h⟩ := d.tally_eq b c n t; rw [h]
@[simp] theorem Device.tally_free (b c n t : Nat) : (d.tally b c n t).free = d.free := by
  obtain ⟨x, h⟩ := d.tally_eq b c n t; rw [h]
@[simp] theorem Device.tally_out (b c n t : Nat) : (d.tally b c n t).out = d.out := by
  obtain ⟨x, h⟩ := d.tally_eq b c n t; rw [h]
@[simp] theorem Device.tally_dict (b c n t : Nat) : (d.tally b c n t).dict = d.dict := by
  obtain ⟨x, h⟩ := d.tally_eq b c n t; rw [h]
@[simp] theorem Device.tally_ptrs (b c n t : Nat) : (d.tally b c n t).ptrs = d.ptrs := by
  obtain ⟨x, h⟩ := d.tally_eq b c n t; rw [h]
@[simp] theorem Device.tally_front (b c n t : Nat) : (d.tally b c n t).front = d.front := by
  obtain ⟨x, h⟩ := d.tally_eq b c n t; rw [h]
@[simp] theorem Device.tally_svc (b c n t : Nat) : (d.tally b c n t).svc = d.svc := by
  obtain ⟨x, h⟩ := d.tally_eq b c n t; rw [h]
@[simp] theorem Device.tally_frost (b c n t : Nat) : (d.tally b c n t).frost = d.frost := by
  obtain ⟨x, h⟩ := d.tally_eq b c n t; rw [h]
@[simp] theorem Device.tally_pkt (b c n t : Nat) : (d.tally b c n t).pkt = d.pkt := by
  obtain ⟨x, h⟩ := d.tally_eq b c n t; rw [h]
@[simp] theorem Device.tally_ports (b c n t : Nat) : (d.tally b c n t).ports = d.ports := by
  obtain ⟨x, h⟩ := d.tally_eq b c n t; rw [h]
@[simp] theorem Device.tally_srh (b c n t : Nat) : (d.tally b c n t).srh = d.srh := by
  obtain ⟨x, h⟩ := d.tally_eq b c n t; rw [h]
@[simp] theorem Device.tally_eng (b c n t : Nat) : (d.tally b c n t).eng = d.eng := by
  obtain ⟨x, h⟩ := d.tally_eq b c n t; rw [h]
@[simp] theorem Device.tally_cry (b c n t : Nat) : (d.tally b c n t).cry = d.cry := by
  obtain ⟨x, h⟩ := d.tally_eq b c n t; rw [h]
@[simp] theorem Device.tally_swc (b c n t : Nat) : (d.tally b c n t).swc = d.swc := by
  obtain ⟨x, h⟩ := d.tally_eq b c n t; rw [h]
@[simp] theorem Device.tally_tm (b c n t : Nat) : (d.tally b c n t).tm = d.tm := by
  obtain ⟨x, h⟩ := d.tally_eq b c n t; rw [h]
@[simp] theorem Device.tally_baro (b c n t : Nat) : (d.tally b c n t).baro = d.baro := by
  obtain ⟨x, h⟩ := d.tally_eq b c n t; rw [h]
@[simp] theorem Device.tally_sec (b c n t : Nat) : (d.tally b c n t).sec = d.sec := by
  obtain ⟨x, h⟩ := d.tally_eq b c n t; rw [h]
@[simp] theorem Device.tally_host (b c n t : Nat) : (d.tally b c n t).host = d.host := by
  obtain ⟨x, h⟩ := d.tally_eq b c n t; rw [h]
@[simp] theorem Device.tally_sys (b c n t : Nat) : (d.tally b c n t).sys = d.sys := by
  obtain ⟨x, h⟩ := d.tally_eq b c n t; rw [h]

/-! ### Messages and responses -/

/-- An MSI-X message changes nothing but the vectors and what leaves the device. -/
theorem Device.sendMsix_eq (f v : Nat) : ∃ x o, d.sendMsix f v = { d with ev := { d.ev with vectors := x }, out := o } := by
  unfold Device.sendMsix
  dsimp only
  split <;> exact ⟨_, _, rfl⟩

/-- A mailbox that has its response. -/
def Mailbox.done (m : Mailbox) (b : Bytes) : Mailbox :=
  { m with state := 2, completions := (m.completions + 1) % 65536, response := b }

/-- A response to a mailbox: it holds the message in state DONE; the dictionary stands. -/
theorem Device.mailboxResponse_eq (n : Nat) (m : Bytes) :
    ∃ x o, d.mailboxResponse n m = { d.setMailbox n ((d.mailbox n).done m) with ev := { d.ev with vectors := x }, out := o } := by
  unfold Device.mailboxResponse
  dsimp only
  split
  · exact Device.sendMsix_eq (d.setMailbox n ((d.mailbox n).done m)) n _
  · exact ⟨_, _, rfl⟩

/-- A response to a mailbox's request leaves the dictionary alone. -/
theorem Device.respond_dict (w : Waiting) (x : Response) {n : Nat} (h : w.src = .mailbox n) :
    (d.respond w x).dict = d.dict := by
  unfold Device.respond
  split
  · rfl
  · rw [h]
    obtain ⟨e, o, he⟩ := d.mailboxResponse_eq n (x.message (.mailbox n) w.request)
    simp only [he, Device.setMailbox_dict]

/-- A mailbox that is not reset holds the response. -/
theorem Device.respond_mailbox (w : Waiting) (x : Response) {n : Nat} (h : w.src = .mailbox n) (hd : w.discard = false) :
    ((d.respond w x).mailbox n).state = 2 ∧ ((d.respond w x).mailbox n).response = x.message w.src w.request := by
  unfold Device.respond
  rw [if_neg (by simp [hd]), h]
  obtain ⟨e, o, he⟩ := d.mailboxResponse_eq n (x.message (.mailbox n) w.request)
  simp [he, Device.mailbox, Device.setMailbox, Mailbox.done]

end Sys2Proof.Machine
end

