-- ==== Sys2Proof/Laws/Service.lean ====
section
/-!
SUPPORT. Laws of the Kaznu service: everything a command of the service can do, and what taking a request and answering
it leave alone.
-/
namespace Sys2Proof.Machine

variable {s : State} {w : Waiting} {r : Row} {act : Act}

/-- A command whose row does not serve the request taken next changes nothing. -/
theorem serve_other (hc : s.d.chosen = some w) (hr : s.d.rowFor w.request ≠ r) : serve r act s = .next s := by
  simp [serve, hc, hr]

/-- With no request to take, a command of the service changes nothing. -/
theorem serve_idle (hc : s.d.chosen = none) : serve r act s = .next s := by simp [serve, hc]

/-- A request that passes the screen is executed, and its response, if one is due, is sent. -/
theorem serve_passes (h : Safety.passes s r w) :
    serve r act s = .next { s with d := match act s.fuses (s.d.take w) w with
      | (d, some x) => d.reply w x
      | (d, none) => d } := by
  obtain ⟨hc, hr, hm, -, hs⟩ := h
  rcases hx : act s.fuses (s.d.take w) w with ⟨e, _ | x⟩ <;> simp [serve, hc, hr, Device.perform, hm, hs, hx]

/-- A request that a check stops is answered with its code, and that is all. -/
theorem serve_code {c : Code} (hc : s.d.chosen = some w) (hr : s.d.rowFor w.request = r) (hm : s.d.mute w = false)
    (hs : (s.d.take w).screen w.ask = some (.code c)) :
    serve r act s = .next { s with d := (s.d.take w).reply w { code := c } } := by
  simp [serve, hc, hr, Device.perform, hm, hs]

/-- The command of the service answers a next state, with the fuses and the queue as they were. -/
theorem serve_next (r : Row) (act : Act) (s : State) : ∃ d, serve r act s = .next { s with d := d } := by
  unfold serve
  split
  · split
    · exact ⟨_, rfl⟩
    · exact ⟨s.d, rfl⟩
  · exact ⟨s.d, rfl⟩

/-- Taking a mailbox's request changes the service's list, the source served last and a count, and nothing else. -/
theorem Device.take_mailbox (d : Device) {n : Nat} (h : w.src = .mailbox n) :
    ∃ x, d.take w = { d with svc := { d.svc with waiting := d.svc.waiting.erase w, lastServed := n }, ev := x } := by
  obtain ⟨x, hx⟩ := Device.tallyPlain_eq
    { d with svc := { d.svc with waiting := d.svc.waiting.erase w, lastServed := n } } islMGT 0 1
  refine ⟨x, ?_⟩
  unfold Device.take
  rw [h]
  exact hx

/-- The dictionary stands over the taking of a mailbox's request. -/
theorem Device.take_dict (d : Device) {n : Nat} (h : w.src = .mailbox n) : (d.take w).dict = d.dict := by
  obtain ⟨x, hx⟩ := d.take_mailbox h; rw [hx]

/-- A response other than LOCKED leaves the dictionary alone at a mailbox. -/
theorem Device.reply_dict (d : Device) (x : Response) (hx : x.code ≠ .locked) {n : Nat} (h : w.src = .mailbox n) :
    (d.reply w x).dict = d.dict := by
  simp only [Device.reply, hx, if_false]; exact d.respond_dict w x h

/-- A mailbox holds the response to its request. -/
theorem Device.reply_answered (d : Device) (x : Response) : Safety.answered (d.reply w x) w x := by
  intro n hn hd
  unfold Device.reply
  split
  · exact Device.respond_mailbox _ w x hn hd
  · exact Device.respond_mailbox _ w x hn hd

/-- A frame handed straight to admission changes the frame store and the census alone. -/
theorem Device.admitDirect_eq (d : Device) (pipe : Nat) (f : Frame) (dest : Nat × Nat) :
    ∃ pk ft, d.admitDirect pipe f dest = { d with pkt := pk, front := ft } := ⟨_, _, rfl⟩

/-- An in-band response becomes a frame for admission: the dictionary, the ports and every unit but the frame store stand. -/
theorem Device.inbandResponse_eq (d : Device) (port cls : Nat) (head msg : Bytes) :
    ∃ fr pk ft, d.inbandResponse port cls head msg = { d with free := fr, pkt := pk, front := ft } := by
  have hq : ∃ fr, (d.inbandQueue port).1 = { d with free := fr } := by
    unfold Device.inbandQueue; dsimp only; split <;> exact ⟨_, rfl⟩
  obtain ⟨fr, hfr⟩ := hq
  unfold Device.inbandResponse
  dsimp only
  rw [hfr]
  exact ⟨_, _, _, rfl⟩

/-- What a response can change: the service, the event unit, what leaves the device, the frame store, and a session's
count of requests. -/
theorem Device.respond_eq (d : Device) (w : Waiting) (x : Response) :
    ∃ b z e o fr pk ft l, d.respond w x = { d with
        svc := { d.svc with mailboxes := b, sessions := z }
        ev := { d.ev with vectors := e }
        out := o, free := fr, pkt := pk, front := ft, dict := { d.dict with live := l } }
      ∧ ∀ k, (∀ n p a, w.src = .session n p a → k ≠ Obj.sessionRequests n) → Assoc.getD l objDefault k = d.get k := by
  unfold Device.respond
  split
  · exact ⟨_, _, _, _, _, _, _, _, rfl, fun _ _ => rfl⟩
  · dsimp only
    split
    · rename_i n _
      obtain ⟨e, o, h⟩ := d.mailboxResponse_eq n (x.message w.src w.request)
      exact ⟨_, _, _, _, _, _, _, _, h, fun _ _ => rfl⟩
    · rename_i n p a hs
      unfold Device.sessionResponse
      dsimp only
      split
      · exact ⟨_, _, _, _, _, _, _, _, rfl, fun _ _ => rfl⟩
      · refine ⟨_, _, _, _, _, _, _, _, rfl, fun k hk => ?_⟩
        exact Device.get_bump_ne (d.setSession n _) (Obj.sessionRequests n) (hk n p a hs)
    · rename_i p c hd _
      obtain ⟨fr, pk, ft, h⟩ := d.inbandResponse_eq p c hd (x.message w.src w.request)
      exact ⟨_, _, _, _, _, _, _, _, h, fun _ _ => rfl⟩

/-- What taking a request can change: the service, a count, and L of the request's session. -/
theorem Device.take_eq (d : Device) (w : Waiting) :
    ∃ z e l, d.take w = { d with
        svc := { d.svc with waiting := d.svc.waiting.erase w, lastServed := w.src.number, sessions := z }
        ev := e, dict := { d.dict with live := l } }
      ∧ ∀ k, (∀ n p a, w.src = .session n p a → k ≠ Obj.sessionLastSequence n) → Assoc.getD l objDefault k = d.get k := by
  obtain ⟨e, he⟩ := Device.tallyPlain_eq
    { d with svc := { d.svc with waiting := d.svc.waiting.erase w, lastServed := w.src.number } } islMGT 0 1
  unfold Device.take
  dsimp only
  rw [he]
  split
  · split
    · exact ⟨_, _, _, rfl, fun _ _ => rfl⟩
    · rename_i n p a hs _
      refine ⟨_, _, _, rfl, fun k hk => ?_⟩
      exact Assoc.getD_set_ne _ _ _ _ (hk n p a hs)
  · exact ⟨_, _, _, rfl, fun _ _ => rfl⟩
  · exact ⟨_, _, _, rfl, fun _ _ => rfl⟩

end Sys2Proof.Machine
end

