-- ==== Sys2Proof/Laws/Turns.lean ====
section
/-!
SUPPORT. Laws of the operations that keep a place in time: everything the lane counts of a port, the turns of a pool slice, the
releases that wait for one, the error times of an HBM stack, the TAP under TRST_N and the taking of an inject descriptor can change.
-/
namespace Sys2Proof.Machine

variable (d : Device)

/-! ### Lane bits (R336) -/

/-- Counting a port's lanes changes Barometer's counts alone. -/
theorem Device.countLanes_eq (p : Nat) :
    ∃ lit lanes, d.countLanes p = { d with baro := { d.baro with lit := lit, lanes := lanes } } := by
  unfold Device.countLanes
  split
  · exact ⟨d.baro.lit, d.baro.lanes, rfl⟩
  · exact ⟨_, _, rfl⟩

@[simp] theorem Device.countLanes_dict (p : Nat) : (d.countLanes p).dict = d.dict := by
  obtain ⟨a, b, h⟩ := d.countLanes_eq p; rw [h]
@[simp] theorem Device.countLanes_ports (p : Nat) : (d.countLanes p).ports = d.ports := by
  obtain ⟨a, b, h⟩ := d.countLanes_eq p; rw [h]
@[simp] theorem Device.countLanes_ev (p : Nat) : (d.countLanes p).ev = d.ev := by
  obtain ⟨a, b, h⟩ := d.countLanes_eq p; rw [h]
@[simp] theorem Device.countLanes_out (p : Nat) : (d.countLanes p).out = d.out := by
  obtain ⟨a, b, h⟩ := d.countLanes_eq p; rw [h]

/-- Counting the lanes of a port that is OFF changes nothing. -/
theorem Device.countLanes_off (p : Nat) (h : d.link p = lkOFF) : d.countLanes p = d := by
  simp [Device.countLanes, h]

/-- Setting LINK_STATE changes that object and Barometer's lane counts alone. -/
theorem Device.setLink_eq (p v : Nat) :
    ∃ lit lanes, d.setLink p v = ({ d with baro := { d.baro with lit := lit, lanes := lanes } } : Device).put (Obj.linkState p) v := by
  unfold Device.setLink
  split
  · exact ⟨_, d.baro.lanes, rfl⟩
  · obtain ⟨a, b, h⟩ := d.countLanes_eq p
    exact ⟨a, b, by simp only [h]⟩

/-- LINK_STATE reads as it was set. -/
@[simp] theorem Device.setLink_get (p v : Nat) : (d.setLink p v).get (Obj.linkState p) = v := by
  obtain ⟨a, b, h⟩ := d.setLink_eq p v
  simp [h]

/-- Counting many ports' lanes changes Barometer's counts alone. -/
theorem Device.countMany_eq (f : Nat → Nat) (l : List Nat) : ∀ d : Device,
    ∃ lit lanes, l.foldl (fun d i => d.countLanes (f i)) d = { d with baro := { d.baro with lit := lit, lanes := lanes } } := by
  induction l with
  | nil => exact fun d => ⟨d.baro.lit, d.baro.lanes, rfl⟩
  | cons i l ih =>
    intro d
    obtain ⟨a, b, h⟩ := d.countLanes_eq (f i)
    obtain ⟨a', b', h'⟩ := ih (d.countLanes (f i))
    exact ⟨a', b', by rw [List.foldl_cons, h', h]⟩

/-- Counting an island's lanes changes Barometer's counts alone. -/
theorem Device.countIsland_eq (isl : Nat) :
    ∃ lit lanes, d.countIsland isl = { d with baro := { d.baro with lit := lit, lanes := lanes } } := by
  unfold Device.countIsland
  split
  · exact ⟨d.baro.lit, d.baro.lanes, rfl⟩
  · exact Device.countMany_eq (fun i => (isl - 16) * 32 + i) _ d

/-! ### The turns of a pool slice (R290) -/

/-- A turn taken changes the slices' turns alone. -/
theorem Device.poolServed_eq (p r : Nat) :
    ∃ t, d.poolServed p r = { d with swc := { d.swc with poolTurns := t } } := ⟨_, rfl⟩

@[simp] theorem Device.poolServed_dict (p r : Nat) : (d.poolServed p r).dict = d.dict := rfl
@[simp] theorem Device.poolServed_ev (p r : Nat) : (d.poolServed p r).ev = d.ev := rfl
@[simp] theorem Device.poolServed_sys (p r : Nat) : (d.poolServed p r).sys = d.sys := rfl
@[simp] theorem Device.poolServed_chains (p r : Nat) : (d.poolServed p r).swc.chains = d.swc.chains := rfl
@[simp] theorem Device.poolServed_releases (p r : Nat) : (d.poolServed p r).swc.releases = d.swc.releases := rfl

/-- With no release waiting, a slice comes to a requester by its turn alone. -/
theorem Device.runReleases_none (slice bound : Nat) (h : d.swc.releases = []) : d.runReleases slice bound = d := by
  simp [Device.runReleases, h]
theorem Device.poolReach_none (p r : Nat) (h : d.swc.releases = []) : d.poolReach p r = d.poolServed p r := by
  simp [Device.poolReach, d.runReleases_none _ _ h]
theorem Device.closeSlices_none (h : d.swc.releases = []) : d.closeSlices = d := by simp [Device.closeSlices, h]
theorem Device.passSlices_none (k n : Nat) (h : d.swc.releases = []) : d.passSlices k n = d := by
  simp [Device.passSlices, h]

/-- A release whose place has passed, or that stands behind another of its requester, joins the waiting ones and does nothing
else. -/
theorem Device.decref_waits (r t h : Nat)
    (hw : ¬(d.poolOpen (d.chain h).pool r = true ∧ (!d.swc.releases.any (d.releaseFor ((d.chain h).pool % 8) r)) = true)) :
    d.decref r t h = { d with swc := { d.swc with releases := d.swc.releases ++ [(r, t, h)] } } := by
  simp only [Device.decref, if_neg hw]

/-- A release whose slice stands before its place, with none waiting, is executed at once. -/
theorem Device.decref_now (r t h : Nat) (ho : d.poolOpen (d.chain h).pool r = true) (hn : d.swc.releases = []) :
    d.decref r t h = d.decrefNow r t h := by
  simp [Device.decref, ho, hn, d.runReleases_none _ _ hn]

/-! ### HBM stacks (R439) -/

/-- Fewer than 63 other errors within the second: the stack does not fail. -/
theorem Device.stackError_few (n : Nat) (h : (d.recentErrors n).length < 63) :
    d.stackError n = { d with srh := { d.srh with hbmErrors := d.srh.hbmErrors.put n (d.now :: d.recentErrors n) } } := by
  have ht : (d.now :: d.recentErrors n).take 64 = d.now :: d.recentErrors n :=
    List.take_of_length_le (by simp; omega)
  simp only [Device.stackError, ht]
  rw [if_neg (by simp; omega)]

/-- The 64th error within the second is the stack's failure. -/
theorem Device.stackError_fails (n : Nat) (h : 63 ≤ (d.recentErrors n).length) :
    d.stackError n = Device.stackFailed
      { d with srh := { d.srh with hbmErrors := d.srh.hbmErrors.put n ((d.now :: d.recentErrors n).take 64) } } n := by
  have hl : ((d.now :: d.recentErrors n).take 64).length = 64 := by simp [List.length_take]; omega
  simp only [Device.stackError, if_pos hl]

/-! ### The TAP (R447) -/

/-- While TRST_N is high the TAP acts; where it went low, it has risen and the TAP acts, or the TAP does nothing. -/
theorem Device.onTap_low (f : Device → Device) (h : d.sys.trstN = false) :
    d.onTap f = d.takeFree.2
    ∨ d.onTap f = f { d.takeFree.2 with sys := { d.takeFree.2.sys with trstN := true } } := by
  simp only [Device.onTap, h]
  split
  · contradiction
  · split
    · exact .inr rfl
    · exact .inl rfl
@[simp] theorem Device.onTap_high (f : Device → Device) (h : d.sys.trstN = true) : d.onTap f = f d := by simp [Device.onTap, h]

/-! ### Inject descriptors (R404) -/

/-- A descriptor that names no port group is answered at once. -/
theorem Device.injectTake_nameless (g : Nat) (b : Bytes) (x : Option Bytes) (h : injectNames b = false) :
    d.injectTake g b x = d.injectAnswer g b x := by simp [Device.injectTake, h]

/-- A descriptor whose target has no room waits, and nothing else changes. -/
theorem Device.injectTake_full (g : Nat) (b : Bytes) (x : Option Bytes) (h : injectNames b = true) (hr : d.injectRoom b = false) :
    d.injectTake g b x = d.injectWait g (injectTarget b) := by simp [Device.injectTake, h, hr]

/-- A descriptor whose target has room and whose ring has the turn is answered, and the ring has been served. -/
theorem Device.injectTake_served (g : Nat) (b : Bytes) (x : Option Bytes) (h : injectNames b = true)
    (hr : d.injectRoom b = true) (hf : d.injectFirst g (injectTarget b) = true) :
    d.injectTake g b x = (d.injectAnswer g b x).injectServed g (injectTarget b) := by simp [Device.injectTake, h, hr, hf]

end Sys2Proof.Machine
end

