-- ==== Sys2Proof/Machine/Bars.lean ====
section
/-!
DEFINITION. What the host sees of the block over PCI Express (chapter 15): the identity and capabilities of its functions
(R397, R461), and what reads of BAR0 and BAR2 return (R373, R400, R402).
-/
namespace Sys2Proof.Machine

/-! ### Identity and capabilities (R397, R461) -/

/-- Vendor ID. -/
def pcieVendor : Nat := 0x1F3A

/-- Device ID of a function: the PF's, or a VF's. -/
def pcieDeviceId (fn : Nat) : Nat := if fn = 0 then 0x1280 else 0x1281

/-- Class code: an Ethernet controller. -/
def pcieClass : Nat := 0x020000

/-- The capabilities of a function (Table 15-1). -/
structure PcieCaps where
  /-- The highest rate, in the codes of LINK_RATE. -/
  maxRate : Nat
  /-- The most lanes. -/
  maxWidth : Nat
  /-- Maximum payload size in bytes. -/
  maxPayload : Nat
  /-- Maximum read request size in bytes. -/
  maxReadRequest : Nat
  /-- Tag bits. -/
  tagBits : Nat
  /-- Outstanding non-posted requests. -/
  outstanding : Nat
  /-- MSI-X vectors. -/
  msixVectors : Nat
  /-- TotalVFs. -/
  totalVfs : Nat
  /-- First VF offset. -/
  firstVf : Nat
  /-- VF stride. -/
  vfStride : Nat
  /-- Advanced Error Reporting. -/
  aer : Bool
  /-- Function level reset. -/
  flr : Bool
  /-- MSI and INTx. -/
  msi : Bool
  /-- ATS, PASID, PRI and atomic operations. -/
  ats : Bool
  pasid : Bool
  pri : Bool
  atomics : Bool
  deriving DecidableEq, Repr

/-- The capabilities that a function claims: those of Table 15-1 and no other (R397). -/
def pcieCaps (fn : Nat) : PcieCaps :=
  { maxRate := 5, maxWidth := 8, maxPayload := 512, maxReadRequest := 4096, tagBits := 10, outstanding := 768
    msixVectors := if fn = 0 then 256 else 8, totalVfs := if fn = 0 then 31 else 0
    firstVf := if fn = 0 then 1 else 0, vfStride := if fn = 0 then 1 else 0
    aer := true, flr := true, msi := false, ats := false, pasid := false, pri := false, atomics := false }

/-- The fields of a function's configuration space that the device acts on: Vendor ID, Device ID, class code, Bus Master Enable
and Enable Relaxed Ordering; `none` for a function that does not exist. -/
def Device.configOf (d : Device) (fn : Nat) : Option (Nat × Nat × Nat × Bool × Bool) :=
  if d.fnExists fn then
    some (pcieVendor, pcieDeviceId fn, pcieClass, d.host.busMaster.contains fn, d.host.relaxed.contains fn)
  else none

/-! ### BAR0 (Table 15-2) -/

/-- A ring's status register: one index in bits 15:0, another in bits 31:16; zero for a ring of another function. -/
def Device.ringStatus (d : Device) (fn g : Nat) (comp : Bool) : Nat :=
  let x := d.ring g
  if d.owner g ≠ fn then 0
  else if comp then x.ctail % 2 ^ 16 + x.chead % 2 ^ 16 * 2 ^ 16
  else x.head % 2 ^ 16 + x.tail % 2 ^ 16 * 2 ^ 16

/-- The register of BAR0 at a word's offset, outside the counter aperture; reserved offsets read zero. -/
def Device.bar0Word (d : Device) (fn off : Nat) : Nat :=
  let o := off - 0x10000
  if off < 0x4000 then d.mailboxWord fn off
  else if off = 0x11000 then d.get (Obj.erRingHead fn)
  else if off = 0x11004 then d.get (Obj.erRingTail fn)
  else if off < 0x10000 ∨ 0x500 ≤ o ∨ o % 8 ≠ 0 then 0
  else if o < 0x200 then d.ringStatus fn (o / 8) false
  else if o < 0x400 then d.ringStatus fn (64 + (o - 0x200) / 8) false
  else if o < 0x480 then d.ringStatus fn (128 + (o - 0x400) / 8) false
  else d.ringStatus fn (128 + (o - 0x480) / 8) true

/-- The page that COUNTER_PAGE_MAP puts at a slot of a function's aperture (R373). -/
def Device.pageAt (d : Device) (fn slot : Nat) : Option Nat :=
  (List.range 4096).find? (fun p => pageSlot (beNat (d.memRead Obj.domCounterPageMap (4 * p) 4)) == some (fn, slot))

/-- A word of the counter aperture: the counter page's word, little-endian, or zero where no page is enabled. -/
def Device.apertureWord (d : Device) (fn off : Nat) : Bytes :=
  match d.pageAt fn (off / 4096) with
  | some p => (d.memRead Obj.domCounterPages (4096 * p + off % 4096 / 8 * 8) 8).reverse
  | none => zeros 8

/-- What a host read of BAR0 returns, least significant byte first: an aligned 32-bit register, or in the counter aperture the
bytes of its words; zeros for any other access (R400).  A write to the aperture has no command and no effect (R373). -/
def Device.bar0Read (d : Device) (fn off size : Nat) : Bytes :=
  if 0x400000 ≤ off ∧ off < 0x800000 then
    slice ((List.range (ceilDiv (off % 8 + size) 8)).flatMap (fun i => d.apertureWord fn (off - 0x400000 + 8 * i)))
      (off % 8) size
  else if wordAccess off size then leBytes 4 (d.bar0Word fn off) else zeros size

/-! ### BAR2 (Table 15-3) -/

/-- The mask and the pending bit of an MSI-X vector; a message waits while the vector or its function is masked (R364). -/
def Device.msixBits (d : Device) (fn v : Nat) : Bool × Bool := ((d.vec (vecKey fn v)).masked, (d.vec (vecKey fn v)).waiting)

/-- What a host read of a doorbell returns: the value last accepted (R402). -/
def Device.doorbellWord (d : Device) (off : Nat) : Nat :=
  if off % 8 ≠ 0 ∨ 0x500 ≤ off then 0
  else if off < 0x200 then (d.ring (off / 8)).doorbell
  else if off < 0x400 then (d.ring (64 + (off - 0x200) / 8)).doorbell
  else if off < 0x480 then (d.ring (128 + (off - 0x400) / 8)).doorbell
  else (d.ring (128 + (off - 0x480) / 8)).compDoorbell

/-- A word of the MSI-X table: Vector Control holds the mask bit; address and data are the bus's (log entry 48). -/
def Device.msixTableWord (d : Device) (fn off : Nat) : Option Nat :=
  if off % 16 = 12 then some (b2n (d.msixBits fn (off / 16)).1) else none

/-- A word of the pending-bit array. -/
def Device.pendingWord (d : Device) (fn off : Nat) : Nat :=
  (List.range 32).foldl (fun a i =>
    a + b2n (d.msixBits fn (8 * off + i)).2 * 2 ^ i) 0

/-- What a host read of BAR2 returns as a word; `none` for a word that the bus fills. -/
def Device.bar2Word (d : Device) (fn off size : Nat) : Option Nat :=
  let n := (pcieCaps fn).msixVectors
  if !wordAccess off size then some 0
  else if off < 0x8000 then some (d.doorbellWord off)
  else if off < 0x8000 + 16 * n then d.msixTableWord fn (off - 0x8000)
  else if 0x9000 ≤ off ∧ off < 0x9000 + n / 8 then some (d.pendingWord fn (off - 0x9000))
  else some 0

end Sys2Proof.Machine
end

