-- ==== Sys2Proof/Tests/Slice0.lean ====
section
/-!
SUPPORT. Tests: an ill-formed command for each check of `Instr.wf`; worked examples of the spec, each on one step from
a small state; and, for every statement of Certificates/Slice0/Obligations.lean that has hypotheses, a state and
operands that meet them (`witness_…`, one part for each clause).
-/
open Sys2Proof Sys2Proof.Machine
namespace Sys2Proof.Tests
set_option maxRecDepth 20000
set_option Elab.async false

/-! ### Well-formed commands -/

theorem test_wf_counts : [Instr.mailboxGo 0 1 (zeros 0x4000), .mgmtDatagram 0 (2 ^ 144) [], .linkDown 0 16,
    .macReceive 0 [] ⟨0, 0⟩ 0, .macReceive 0 [0] ⟨2 ^ 32, 0⟩ 0, .macReceive 0 [0] ⟨0, 2 ^ 32⟩ 0, .macReceive 0 [0] ⟨0, 0⟩ (2 ^ 32),
    .jobDescriptorTake 0 (some ⟨[0], []⟩), .slowpathRingWrite (some [0]), .injectDescriptorTake 0 (some [0]) none,
    .rxDoorbell 0 0 ⟨2 ^ 32, 4⟩, .rxDoorbell 0 0 ⟨0, 3⟩, .injectDoorbell 0 0 ⟨2 ^ 16, 2⟩, .injectDoorbell 0 0 ⟨0, 16⟩,
    .jobDoorbell 0 0 ⟨256, 1⟩, .jobDoorbell 0 0 ⟨0, 0⟩, .completionDoorbell 0 0 ⟨2 ^ 64, 8⟩, .completionDoorbell 0 0 ⟨0, 5⟩,
    .eventHeadWrite 0 ⟨2 ^ 32, 4⟩, .eventHeadWrite 0 ⟨0, 6⟩,
    .msixModerationExpiry 0 2048, .hbmTrainingDone 16, .bootLoadingDone (2 ^ 16), .quoteDone 4095, .quoteDone 4144,
    .pcieLinkChange 256 0, .pcieLinkChange 0 256, .firstEntryToL0 256 0, .firstEntryToL0 0 256, .sensorRead [],
    .arpNeighbourSolicitation 0 false (2 ^ 32) 0, .arpNeighbourSolicitation 0 true (2 ^ 128) 0,
    .smbusIslandTemp ⟨6, false⟩].any Instr.wf = false := by
  decide +kernel

theorem test_wf_lengths : [Instr.mgmtDatagram 0 0 (List.replicate 65508 0),
    .jobComplete 0 (zeros (128 * 8192 + 2049)) none].any Instr.wf = false := by
  simp only [List.any, Instr.wf, zeros, List.length_replicate]; decide

theorem test_wf_source (b : Bytes) (h : ¬ b.length ≤ sourceMax) :
    (Instr.jobDescriptorTake 0 (some ⟨zeros 32, b⟩)).wf = false := by
  simp [Instr.wf, h]

theorem test_wf_names : [Instr.tmrScrub [⟨0, true⟩], .tmrScrub [⟨1 * 2 ^ 24 + 512, true⟩], .tmrScrub [⟨2 * 2 ^ 24 + 65536, true⟩],
    .tmrScrub [⟨3 * 2 ^ 24 + 1, true⟩], .tmrScrub [⟨4 * 2 ^ 24 + 1, true⟩], .tmrScrub [⟨5 * 2 ^ 24 + 16, true⟩],
    .tmrScrub [⟨6 * 2 ^ 24 + 128, true⟩], .tmrScrub [⟨7 * 2 ^ 24 + 25, true⟩], .tmrScrub [⟨8 * 2 ^ 24 + 256, true⟩],
    .frostDeadline ⟨1, 0⟩, .frostDeadline ⟨1, 4096⟩, .frostComplete ⟨2, 128⟩, .frostComplete ⟨3, 16⟩, .frostComplete ⟨4, 65536⟩,
    .frostComplete ⟨5, 0⟩, .frostComplete ⟨5, 32⟩, .frostComplete ⟨6, 32⟩, .frostComplete ⟨7, 0⟩, .shaperEligible (.port 132),
    .shaperEligible (.group 4096), .shaperEligible (.tenantNode 16384), .shaperEligible (.queue 65536),
    .cascadeSelftestDone [], .cascadeSelftestDone (List.replicate 4 ⟨2 ^ 64, false⟩)].any Instr.wf = false := by
  decide +kernel

theorem test_wf_holds : [Instr.mailboxGo 0 0x3FFC (zeros 4), .mgmtDatagram 0 (2 ^ 144 - 1) [], .linkDown 0 15,
    .tmrScrub [⟨7 * 2 ^ 24 + 24, true⟩], .frostComplete ⟨5, 31⟩, .shaperEligible (.queue 65535), .quoteDone 4143,
    .rxDoorbell 0 0 ⟨2 ^ 32 - 1, 4⟩, .eventHeadWrite 0 ⟨255, 1⟩, .jobDescriptorTake 0 none, .jobDescriptorTake 0 (some ⟨zeros 32, []⟩), .sensorRead (List.replicate 25 0)].all Instr.wf = true := by
  decide +kernel

/-! ### Small states -/

/-- The device after reset. -/
def base : Device := State.reset.d

/-- The machine after reset with another device. -/
def sys (d : Device) : State := { State.reset with d := d }

/-- The 16 bytes of a request header (Table 2-8). -/
def hdr (op idx sub aux len : Nat) : Bytes :=
  [1, byte op, 0xFF, 0, 0, 0, 0, 1] ++ beBytes 2 idx ++ [byte sub, byte aux] ++ beBytes 2 len ++ [0, 0]

/-- A request by the mailbox of function `fn`. -/
def req (fn : Nat) (b : Bytes) : Waiting := { src := .mailbox fn, msg := b }

/-- A WRITE of `n` bytes by function `fn`. -/
def wrBy (fn idx sub n v : Nat) : Waiting := req fn (hdr 2 idx sub 0 n ++ beBytes n v)

/-- A WRITE by the PF. -/
def wr (idx sub n v : Nat) : Waiting := wrBy 0 idx sub n v

/-- A READ by the PF. -/
def rd (idx sub : Nat) : Waiting := req 0 (hdr 1 idx sub 0 0)

/-- Set objects that are not staged. -/
def Dev.with_ (d : Device) (l : List (Nat × Nat)) : Device := l.foldl (fun d e => d.put e.1 e.2) d

/-- Set staged objects in both copies. -/
def Dev.staged (d : Device) (l : List (Nat × Nat)) : Device :=
  l.foldl (fun d e => (d.copyPut false e.1 e.2).copyPut true e.1 e.2) d

/-- Set bytes of a staged domain in both copies. -/
def Dev.bytes (d : Device) (dom off : Nat) (b : Bytes) : Device := (d.copyWrite false dom off b).copyWrite true dom off b

/-- The device in a state, with objects set. -/
def inState (st : Nat) (l : List (Nat × Nat)) : Device := Dev.with_ (base.put Obj.deviceState st) l

/-- The machine with one request in the service. -/
def asks (d : Device) (w : Waiting) : State := sys { d with svc := { d.svc with waiting := [w] } }

/-! ### Witnesses: the machine and the service -/

theorem witness_EmptyQueueTicks : State.reset.pending = [] ∧ State.reset.d.tm.roundLeft = [] ∧ State.reset.d.swc.releases = [] := by
  decide +kernel

theorem witness_FuseFormIsKept : Safety.fusesFit { State.reset with fuses := [(5, 9)] } := by
  refine ⟨by decide +kernel, fun r => ?_⟩
  simp only [fuseRow, Assoc.getD, Assoc.find]
  split <;> decide

/-- The outcome of a command is a next state. -/
def answersNext (o : Host.Outcome State Fault Refusal) : Bool :=
  match o with
  | .next _ => true
  | _ => false

theorem witness_FuseRowsAreKept : answersNext (step State.reset) = true
    ∧ answersNext (step { State.reset with pending := [.kaznuRead] }) = true ∧ answersNext (exec .kaznuRead State.reset) = true := by decide +kernel

theorem witness_FusesChangeOnlyByBurns : (∀ w, Instr.kaznuRead ≠ .fuseRowBurnDone w) ∧ Instr.kaznuRead ≠ .porNLow
    ∧ Instr.kaznuRead ≠ .warmRstN ∧ Instr.kaznuRead ≠ .warmResetEntry ∧ Instr.kaznuRead ≠ .mgtCoreRestart := by
  simp

/-- Two requests wait: a READ of the PF and one of VF 1; the PF comes next after source 48. -/
def twoWait : Device :=
  { base with svc := { base.svc with waiting := [req 1 (hdr 1 0x1000 1 0 0), rd 0x1000 1] } }

theorem witness_OneRequestAtATimeInRotation :
    twoWait.chosen = some (rd 0x1000 1) ∧ twoWait.rowFor (rd 0x1000 1).request ≠ .write
    ∧ (base.put Obj.deviceState 0).devState = stRESET
    ∧ ({ twoWait with sys := { twoWait.sys with restarting := true } } : Device).sys.restarting = true
    ∧ ({ twoWait with svc := { twoWait.svc with committing := some (rd 0x1000 1) } } : Device).svc.committing.isSome = true := by
  decide +kernel


/-- Requests that a check of each order of Table 2-10 from 1 to 7 stops, with their rows and codes. -/
def stopped : List (Waiting × Row × Code) :=
  [(req 0 [], .read, .range), (rd 0x0FFF 1, .read, .noObject), (rd 0x1000 99, .read, .noSub),
   (wr 0x1030 1 1 1, .write, .access), (wrBy 1 0x1008 1 4 1, .write, .access), (wr 0x2200 9 2 1, .portEnable, .type),
   (req 0 (hdr 1 0x1000 1 0x40 0), .read, .range)]

theorem witness_ChecksAnswerAndChangeNothing : ∀ e ∈ stopped,
    (asks (inState 3 []) e.1).d.chosen = some e.1 ∧ (inState 3 []).rowFor e.1.request = e.2.1
    ∧ (asks (inState 3 []) e.1).d.mute e.1 = false
    ∧ ((asks (inState 3 []) e.1).d.take e.1).screen e.1.ask = some (.code e.2.2) ∧ e.2.2 ≠ .locked := by
  decide +kernel

theorem witness_DenialIsRecorded : let w := wrBy 1 0x2200 9 1 1
    (asks (inState 3 []) w).d.chosen = some w ∧ (inState 3 []).rowFor w.request = .portEnable
    ∧ (asks (inState 3 []) w).d.mute w = false
    ∧ ((asks (inState 3 []) w).d.take w).screen w.ask = some (.denied 0 0x2200) ∧ Safety.byMailbox w := by
  refine ⟨by decide +kernel, by decide +kernel, by decide +kernel, by decide +kernel, 1, rfl⟩

theorem witness_AccessTablesDecide :
    (let e := fun (i : Nat) => base.copyGet false (Obj.accEntry 7 i)
     base.svc.unresolved = [] ∧ (e 0).testBit 63 = true ∧ bits (e 0) 44 32 ≤ 4096 ∧ 4096 ≤ bits (e 0) 57 45
     ∧ bits (e 0) 15 0 ≤ 15 ∧ 15 ≤ bits (e 0) 31 16 ∧ ∀ i ∈ List.range 64, ¬ ((e i).testBit 63 = true ∧ bits (e i) 44 32 ≤ 4097
       ∧ 4097 ≤ bits (e i) 57 45)) := by
  decide +kernel

theorem witness_MuteRequestsVanish : ∀ st ∈ [stBOOT, stHALT],
    let w : Waiting := { src := .session 0 0 0, msg := hdr 1 0x1000 1 0 0 }
    (asks (inState st []) w).d.chosen = some w ∧ (asks (inState st []) w).d.mute w = true
    ∧ (asks (inState st []) w).d.rowFor w.request = .read := by
  decide +kernel

theorem witness_ManagementWritesNeedThePf : ∀ w ∈ [wrBy 1 0x1008 1 1 1, wrBy 1 0x101F 2 1 1],
    let s := asks (inState 3 []) w
    let d := s.d.take w
    s.d.chosen = some w ∧ s.d.mute w = false ∧ w.ask.r.op = opWRITE ∧ 0x1008 ≤ w.ask.r.index ∧ w.ask.r.index < 0x1020
    ∧ w.src.master ≠ 4096 ∧ w.ask.r.formOk = true ∧ d.serves w.ask = true ∧ d.boxClosed w.ask = false
    ∧ d.homeStopped w.ask = false ∧ d.fieldBars w.ask = false := by
  decide +kernel

theorem witness_StagedSubindicesHaveTwoCopies :
    (let w := rd 0x2000 1
     Safety.passes (asks (inState 3 []) w) .read w ∧ (findRow w.ask.r.index w.ask.r.sub).any (·.staged) = true
     ∧ w.ask.r.sub ≠ 0 ∧ w.ask.key ≠ Obj.gpioIn)
    ∧ (let w := wr 0x2000 1 2 0x9000
       Safety.writes (asks (inState 3 []) w) .write w ∧ (findRow w.ask.r.index w.ask.r.sub).any (·.staged) = true) := by
  unfold Safety.writes Safety.passes; decide +kernel

/-- Every cluster LOADED. -/
def loaded0 : List (Nat × Nat) := (List.range 16).map (fun c => (Obj.clLoadState c, 4))

theorem witness_ReadsAnswer :
    (let w := rd 0x1030 1
     Safety.passes (asks (inState 3 []) w) .read w ∧ Safety.byMailbox w
     ∧ (findRow w.ask.r.index w.ask.r.sub).any (fun r => !r.staged) = true ∧ w.ask.r.sub ≠ 0 ∧ w.ask.key ≠ Obj.gpioIn
     ∧ ((asks (inState 3 []) w).d.take w).computed manufacturedFuses w.src.master w.ask.r.index w.ask.r.sub = none)
    ∧ (∀ off ∈ [0, 65535 * 16], let w := req 0 (hdr 3 0xE910 1 0 12 ++ beBytes 8 off ++ beBytes 4 16)
       Safety.passes (asks (inState 3 []) w) .readBlock w
       ∧ (findRow w.ask.r.index w.ask.r.sub).any (fun r => let dim := (inState 3 []).domDim r w.ask.r.index
           w.ask.offset % dim.2 == 0 && w.ask.count % dim.2 == 0 && decide (w.ask.count ≤ 4080 ∧ w.ask.offset < dim.1)) = true)
    ∧ (let w := req 0 (hdr 6 0 0 0 0)
       Safety.passes (asks (inState 3 []) w) .statusService w)
    ∧ (let w := req 0 (hdr 6 0x2000 1 1 0)
       Safety.passes (asks (inState 3 []) w) .statusDescriptor w ∧ (findRow w.ask.r.index w.ask.r.sub).isSome = true) := by
  unfold Safety.passes Safety.byMailbox
  refine ⟨⟨by decide +kernel, ⟨0, rfl⟩, by decide +kernel⟩, by decide +kernel, by decide +kernel, by decide +kernel⟩

/-- Tables 0 and 63 with keys of 80 bytes in one block. -/
def tabled : List (Nat × Nat) := [0, 63].flatMap (fun t => [(Obj.tcamWidth t, 8), (Obj.tcamDepth t, 1)])

theorem witness_ReadsAnswer_windows :
    (∀ w ∈ [rd 0x500F 10, rd 0x5000 10], Safety.passes (asks (inState 3 []) w) .read w
       ∧ (findRow w.ask.r.index w.ask.r.sub).any (fun r => r.access == .rm && (inState 3 []).stopped (homeOf w.ask.r.index r.access)
         && !(inState 3 loaded0).stopped (homeOf w.ask.r.index r.access)) = true)
    ∧ (∀ e ∈ [(0xE400, 0, 176), (0xE43F, 2047 * 176, 176), (0xE440, 0, 8), (0xE47F, 248, 8), (0xEB10, 0, 8), (0xEB28, 8184, 8),
         (0xE702, 0, 32), (0xE702, 65535 * 32, 32), (0xE901, 0, 32), (0xE913, 65535 * 32, 32), (0xEB01, 0, 16), (0xC041, 0, 4080),
         (0xC051, 0, 4080)],
       let d := Dev.staged (inState 3 []) tabled
       let w := req 0 (hdr 3 e.1 1 0 12 ++ beBytes 8 e.2.1 ++ beBytes 4 e.2.2)
       Safety.passes (asks d w) .readBlock w ∧ (findRow w.ask.r.index w.ask.r.sub).any (fun r =>
         let dim := d.domDim r w.ask.r.index
         w.ask.offset % dim.2 == 0 && w.ask.count % dim.2 == 0 && decide (w.ask.count ≤ 4080 ∧ w.ask.offset < dim.1)) = true) := by
  unfold Safety.passes; decide +kernel

/-- A WRITE_BLOCK by the PF. -/
def wb (idx off : Nat) (b : Bytes) : Waiting := req 0 (hdr 4 idx 1 0 (8 + b.length) ++ beBytes 8 off ++ b)

theorem witness_WritesLand :
    (let w := wr 0x1020 2 4 77
     Safety.writes (asks (inState 3 []) w) .write w ∧ (findRow w.ask.r.index w.ask.r.sub).any (fun r => !r.staged) = true)
    ∧ (∀ w ∈ [wb 0xE910 (65471 * 16) (zeros 16), wb 0xEB03 0 (zeros 4)],
       Safety.passes (asks (inState 3 []) w) .writeBlock w
       ∧ (findRow w.ask.r.index w.ask.r.sub).any (fun r => ((asks (inState 3 []) w).d.take w).windowBar w.ask r == none) = true)
    ∧ (findRow 0xE910 1).any (·.staged) = true ∧ (findRow 0xEB03 1).any (·.staged) = false := by
  unfold Safety.writes Safety.passes; decide +kernel

theorem witness_WritesLand_windows :
    (∀ e ∈ [(0xE400, 0, 176), (0xE43F, 2047 * 176, 176), (0xE440, 0, 8), (0xE47F, 248, 8), (0xE500, 0, 64), (0xE53F, 64, 64),
         (0xE600, 0, 64), (0xE701, 0, 128), (0xC100, 0, 64)],
       let d := Dev.staged (inState 3 []) tabled
       let w := wb e.1 e.2.1 ((if e.2.2 = 64 then [4] else [0]) ++ zeros (e.2.2 - 1))
       Safety.passes (asks d w) .writeBlock w
       ∧ (findRow w.ask.r.index w.ask.r.sub).any (fun r => ((asks d w).d.take w).windowBar w.ask r == none) = true)
    ∧ (∀ e ∈ [(0xE500, 0, false), (0xE53F, 62, true), (0xE600, 0, false), (0xE600, 10, true), (0xC100, 0, true)],
       let w := req 0 (hdr 4 e.1 1 2 72 ++ beBytes 8 (64 * e.2.1) ++ [4] ++ zeros 63)
       let d := { inState 3 [] with sys := { clock := [(islSRH, 4)] } }
       Safety.passes (asks d w) .writeBlock w ∧ bit w.ask.r.aux 1 = true
       ∧ (findRow w.ask.r.index w.ask.r.sub).any (fun r => ((asks d w).d.take w).windowBar w.ask r == none) = true
       ∧ (e.1 = 0xE500 ∨ e.1 = 0xE53F → d.emBatchLong (e.2.1 + 1) = e.2.2)
       ∧ (e.1 = 0xE600 → d.lpmBatchLong (e.2.1 + 1) = e.2.2))
    ∧ (∀ ph ∈ [bpRECEIVING, bpREJECTED], (inState 3 [(Obj.updatePhase, ph)]).get (inState 3 []).phaseObj ≠ bpDONE
       ∧ ((inState 3 [(Obj.updatePhase, ph)]).get (inState 3 []).phaseObj = bpRECEIVING ↔ ph = bpRECEIVING))
    ∧ (∀ i ∈ [0x1010, 0x101F], let w := req 0 (hdr 2 i 2 0 32 ++ zeros 32)
       Safety.writes (asks (inState 3 []) w) .write w) := by
  unfold Safety.writes Safety.passes; decide +kernel

theorem witness_CommitStartsAFront : ∀ m ∈ [1, 0xFFFF], let w := req 0 (hdr 5 0 0 0 2 ++ beBytes 2 m)
    Safety.passes (asks (inState 3 []) w) .commit w ∧ ((inState 3 []).take w).commitBusy w.ask.value = false
    ∧ w.ask.value ≠ 0 := by
  unfold Safety.passes; decide +kernel

theorem witness_SessionsOpenAndClose :
    (let w := wr 0x1010 1 1 1
     let d := (inState 3 []).setSession 0 { key := some (zeros 32) }
     Safety.writes (asks d w) .sessionOpen w ∧ d.get (Obj.sessionState 0) ≠ 1)
    ∧ (let w := wr 0x101F 1 1 0
     Safety.writes (asks (inState 3 [(Obj.sessionState 15, 1)]) w) .sessionClose w) := by
  unfold Safety.writes Safety.passes; decide +kernel

/-- The value of FROST_REQUEST (Table 3-7): a command on a function with a deadline. -/
def frostValue (cls inst cmd us : Nat) : Nat := cls * 2 ^ 56 + cmd * 2 ^ 52 + us * 2 ^ 32 + inst

/-- A write of FROST_REQUEST. -/
def frostAsk (cls inst cmd us : Nat) : Waiting := wr 0x1020 1 8 (frostValue cls inst cmd us)

/-- A device in SERVICE with tenants 5 and 4095 ACTIVE. -/
def act5 : Device := ((inState 3 []).setFrost 1 5 {}).setFrost 1 4095 {}

/-- And a frame of tenant 5 on its way to dispatch. -/
def busy5 : Device := (act5.setFrame 0 { tenant := 5, stage := .dispatchWait, bytes := zeros 60 }).setPg 0 { keyq := [0] }

theorem witness_FrostStarts :
    (let w := frostAsk 1 5 1 500
     let x := FrostAsk.ofNat w.ask.written
     let d := (asks busy5 w).d.take w
     Safety.passes (asks busy5 w) .frostSoft w ∧ d.frostGate x = none ∧ x.bad = false ∧ d.frostState x.cls x.inst = 0
     ∧ (d.frostBegin x.cls x.inst (some (base.now + us 500))).inFlight x.cls x.inst = true)
    ∧ (let w := frostAsk 1 4095 1 0
     let x := FrostAsk.ofNat w.ask.written
     let d := (asks act5 w).d.take w
     Safety.passes (asks act5 w) .frostSoft w ∧ d.frostGate x = none ∧ x.bad = false ∧ d.frostState x.cls x.inst = 0
     ∧ (d.frostBegin x.cls x.inst (some (base.now + us (d.get Obj.deadlineDefault)))).inFlight x.cls x.inst = false ∧ x.cls ≠ 3)
    ∧ (∀ d ∈ [busy5, act5], let w := frostAsk 1 5 2 0
     let x := FrostAsk.ofNat w.ask.written
     let e := (asks d w).d.take w
     Safety.passes (asks d w) .frostHard w ∧ e.frostGate x = none ∧ x.bad = false ∧ e.frostState x.cls x.inst = 0) := by
  unfold Safety.passes; decide +kernel

theorem witness_FrostMovesOn :
    (∀ e ∈ [(3, 2, Row.frostThaw), (4, 2, .frostDisable), (5, 3, .frostEnable)],
     let w := frostAsk 2 127 e.1 0
     let d := (inState 3 []).setFrost 2 127 { state := e.2.1 }
     let x := FrostAsk.ofNat w.ask.written
     Safety.passes (asks d w) e.2.2 w ∧ d.frostState x.cls x.inst = e.2.1 ∧ ((asks d w).d.take w).frostGate x = none
     ∧ x.bad = false)
    ∧ (let d := (inState 3 []).setFrost 2 0 { state := 1 }
     frostable 2 0 = true ∧ d.frostState 2 0 = 1 ∧ d.inFlight 2 0 = false)
    ∧ (∀ e ∈ [(true, 4), (false, ldDRAINING), (false, 4)],
     let d := ((inState 3 [(Obj.clLoadState 15, e.2)]).setFrost 3 15 { state := 1 }).setCluster 15 { resetPending := e.1 }
     frostable 3 15 = true ∧ d.frostState 3 15 = 1 ∧ d.inFlight 3 15 = false ∧ (d.cluster 15).resetPending = e.1
     ∧ (d.cluster 15).autoPending = false ∧ d.get (Obj.clLoadState 15) = e.2)
    ∧ (let d := busy5.setFrost 1 5 { state := 1, deadline := some 0 }
     frostable 1 5 = true ∧ d.frostState 1 5 = 1 ∧ (d.frostFn 1 5).deadline = some 0 ∧ 0 ≤ d.now ∧ d.inFlight 1 5 = true) := by
  unfold Safety.passes; decide +kernel

theorem witness_TenantZeroStaysActive :
    ∀ e ∈ [(1, Row.frostSoft), (2, .frostHard), (3, .frostThaw), (4, .frostDisable), (5, .frostEnable)],
    let w := frostAsk 1 0 e.1 0
    Safety.passes (asks (inState 3 []) w) e.2 w ∧ (FrostAsk.ofNat w.ask.written).cls = 1
    ∧ (FrostAsk.ofNat w.ask.written).inst = 0 := by
  unfold Safety.passes; decide +kernel
/-- Every cluster LOADED, and every slot with an image. -/
def loaded : List (Nat × Nat) :=
  (List.range 16).map (fun c => (Obj.clLoadState c, 4)) ++ (List.range 4).map (fun n => (Obj.slotPresent n, 1))

/-- A device in SERVICE whose quads are all in mode 1. -/
def ported (l : List (Nat × Nat)) : Device := Dev.staged (inState 3 l) ((List.range 32).map (fun q => (Obj.quadMode q, 1)))

theorem witness_PortWritesActAtOnce :
    (∀ e ∈ [(0, 1), (31, 9)], let w := wr (0x2100 + e.1) 1 1 e.2
     Safety.writes (asks (inState 3 []) w) .quadMode w)
    ∧ (let w := wr 0x227C 9 1 1
     let d := ported []
     Safety.writes (asks d w) .portEnable w ∧ d.defined 124 = true ∧ d.link 124 = lkOFF ∧ d.dataRuns = true ∧ d.frostState 2 124 ≠ 3)
    ∧ (let w := wr 0x2200 9 1 0
     let d := ported [(Obj.linkState 0, 1)]
     Safety.writes (asks d w) .portEnable w ∧ d.link 0 ≠ lkUP ∧ d.holding 0 = false ∧ d.heldCopies 0 = [])
    ∧ (∀ st ∈ [lkTRAINING, lkALIGNING], ∀ e ∈ [(1, Row.portRetrain), (2, .portReset)], let w := wr 0x2200 10 1 e.1
     let d := ported [(Obj.linkState 0, st), (Obj.portEnable 0, 1)]
     Safety.writes (asks d w) e.2 w ∧ d.link 0 ≠ lkUP ∧ d.link 0 ≠ lkOFF ∧ d.holding 0 = false ∧ d.heldCopies 0 = [])
    ∧ (∀ e ∈ [(1, lkOFF, Row.portRetrain), (2, lkOFF, .portReset), (2, lkUP, .portReset)], let w := wr 0x227C 10 1 e.1
     Safety.writes (asks (ported [(Obj.linkState 124, e.2.1), (Obj.portEnable 124, 1)]) w) e.2.2 w
     ∧ (ported [(Obj.linkState 124, e.2.1), (Obj.portEnable 124, 1)]).link 124 = e.2.1)
    ∧ (let w := wr 0x227C 10 1 1
     let d := ported [(Obj.linkState 124, 3), (Obj.portEnable 124, 1)]
     Safety.writes (asks d w) .portRetrain w ∧ d.link 124 = lkUP ∧ d.transmitting 124 = none
     ∧ d.arr (portIsl 124) (Obj.portLullWindowUs 124) ≠ 0) := by
  unfold Safety.writes Safety.passes; decide +kernel

theorem witness_PortWritesActAtOnce_hold : ∀ h ∈ [0, 1], let w := wr 0x227C 10 1 2
    let d := ported [(Obj.portEnable 124, 1), (Obj.pstHoldState 124, h)]
    Safety.writes (asks d w) .portReset w ∧ d.link 124 = lkOFF ∧ (d.holding 124 = true ↔ h = 1) ∧ d.heldCopies 124 = [] := by
  unfold Safety.writes Safety.passes; decide +kernel

theorem witness_SearchEnables :
    (∀ k ∈ [0, 63], ∀ v ∈ [0, 1], let w := wr (0x4010 + k) 1 1 1
     let d := Dev.staged (inState 2 []) [(Obj.grpEnable k, v)]
     Safety.writes (asks d w) .groupEnable w ∧ (d.shadow w.ask.key = 1 ↔ v = 1))
    ∧ (∀ e ∈ [(0, 26, true), (63, 10, false)], let w := wr (0x4400 + e.1) 1 1 1
     let d := Dev.staged (inState 2 []) [(Obj.emBucketsLog2 e.1, e.2.1)]
     Safety.writes (asks d w) .emEnable w ∧ ((asks d w).d.take w).emClearLong e.1 = e.2.2)
    ∧ (∀ c ∈ [0, 3], ∀ v ∈ [0, 1], let w := wr (0x4000 + c) 2 1 v
     Safety.writes (asks (inState 2 []) w) .fixedSelect w ∧ ((inState 2 []).get (Obj.cxFixedSelect c) = w.ask.written ↔ v = 0)) := by
  unfold Safety.writes Safety.passes; decide +kernel

theorem witness_ClusterRequestsStart :
    (let w := wr 0x500F 3 1 1
     let d := inState 3 loaded
     Safety.passes (asks d w) .reload w ∧ w.ask.written = 1 ∧ d.dataRuns = true ∧ d.frostState 3 15 = 0
     ∧ d.get (Obj.slotPresent (d.get (Obj.clImageSlot 15))) ≠ 0 ∧ d.reloadRuns = false ∧ d.onlyInService 15 = false
     ∧ d.get (Obj.clLoadState 15) = ldLOADED)
    ∧ (∀ st ∈ [2, 3], let w := wr 0x5000 4 1 1
     let d := (inState 3 loaded).setFrost 3 0 { state := st }
     Safety.passes (asks d w) .clusterReset w ∧ w.ask.written = 1 ∧ 2 ≤ d.frostState 3 0)
    ∧ (∀ st ∈ [0, 1], let w := wr 0x5000 4 1 1
     let d := ((inState 3 loaded).setFrost 3 0 { state := st }).setThread 5 {}
     Safety.passes (asks d w) .clusterReset w ∧ d.frostState 3 0 ≤ 1 ∧ d.clusterBusy 0 = true) := by
  unfold Safety.passes; decide +kernel

/-- A device whose pool 0 has all the cells, with a chain of the PF's of one cell and one of two references. -/
def pooled : Device :=
  ((Dev.staged (inState 3 []) [(Obj.poolSize 0, 1572864)]).setChain 0
    { allocated := true, pool := 0, refs := 1, owner := 4096, cells := [0] }).setChain 1
    { allocated := true, pool := 0, refs := 2, owner := 4096, cells := [1] }

/-- The value of POOL_OP: operation, pool, cells and head (Table 10-5). -/
def poolValue (op pool n head : Nat) : Nat := op * 2 ^ 61 + pool * 2 ^ 56 + n * 2 ^ 21 + head

theorem witness_MastersUseThePools :
    (∀ n ∈ [1, 255], let w := wr 0x7040 1 8 (poolValue 1 0 n 0)
     Safety.writes (asks pooled w) .poolAlloc w ∧ bits w.ask.written 28 21 = n
     ∧ pooled.poolOpen 0 26 = true
     ∧ pooled.mayNow islSWC 3 4096 0 rALLOC = true ∧ pooled.frostState 6 0 = 0 ∧ n ≤ (pooled.poolReach 0 26).poolFree 0
     ∧ n ≤ (pooled.poolReach 0 26).deviceFree ∧ (takeCells (pooled.poolReach 0 26).cellsInUse 0 n).head?.isSome = true)
    ∧ (pooled.swc.releases = [] ∧ pooled.swc.chains.find 0 = some { allocated := true, pool := 0, refs := 1, owner := 4096, cells := [0] }
      ∧ pooled.swc.chains.find 1 = some { allocated := true, pool := 0, refs := 2, owner := 4096, cells := [1] }
      ∧ 4096 ≠ masterFrames ∧ pooled.mayNow islSWC 3 4096 0 rSHARE = true ∧ pooled.mayNow islSWC 3 4096 0 rFREE = true
      ∧ pooled.mayNow islSWC 3 4096 0 rREAD = true)
    ∧ (∀ e ∈ [(2, 0, Row.poolIncref), (3, 1, .poolDecref), (3, 0, .poolDecref), (4, 0, .poolFree), (5, 0, .poolQuery)],
      let w := wr 0x7040 1 8 (poolValue e.1 0 0 e.2.1)
      Safety.writes (asks pooled w) e.2.2 w ∧ bits w.ask.written 60 56 = 0 ∧ bits w.ask.written 20 0 = e.2.1
      ∧ (asks pooled w).d.chosen = some w
      ∧ (({ pooled with swc := { pooled.swc with poolTurns := [(0, { cycle := 0, rank := 26, count := 1 })] } } : Device).poolOpen 0 26
        = false)) := by
  unfold Safety.writes Safety.passes; decide +kernel

theorem witness_CellsTakenAreFree : [0, 2].length + 3 ≤ cellCount ∧ takeCells [0, 2] 0 3 = [8, 1, 10] := by decide +kernel
theorem witness_RingsStartAtZero :
    (∀ g ∈ [0, 127, 143], ∀ v ∈ [0, 1], let w := wr (if g < 128 then 0xD100 + g else 0xD180 + (g - 128)) 2 1 v
     let d := inState 3 [(Obj.ringBase g, 4096), (Obj.ringCompBase 15, 4096)]
     Safety.writes (asks d w) .hostRing w ∧ ringNumber w.ask.r.index = g ∧ w.ask.written = v)
    ∧ (∀ v ∈ [0, 1],
      Safety.writes (asks (inState 3 [(Obj.erRingBase 31, 4096)]) (wr 0xB02F 1 1 v)) .ringEnable (wr 0xB02F 1 1 v)
      ∧ Safety.writes (asks (inState 3 [(Obj.telemBase, 4096)]) (wr 0x8001 1 1 v)) .telemEnable (wr 0x8001 1 1 v)
      ∧ Safety.writes (asks (inState 3 [(Obj.sringBase, 4096)]) (wr 0xB280 1 1 v)) .sringEnable (wr 0xB280 1 1 v)
      ∧ Safety.writes (asks (inState 3 [(Obj.exportBase, 4096)]) (wr 0x9004 1 1 v)) .exportEnable (wr 0x9004 1 1 v)
      ∧ Safety.writes (asks (inState 3 [(Obj.hostLastGaspBase, 4096)]) (wr 0xD000 9 1 v)) .lastGaspEnable (wr 0xD000 9 1 v)) := by
  unfold Safety.writes Safety.passes; decide +kernel

theorem witness_CountersAndReportsAreServed :
    (let w := wr 0xB000 5 1 1
     Safety.writes (asks (inState 3 []) w) .intAck w ∧ w.ask.written = 1)
    ∧ (∀ v ∈ [0, 65535, 7 * 65536 + 9], let w := wr 0x8000 5 4 v
      Safety.writes (asks (inState 3 []) w) .qmaxClear w)
    ∧ (let w := wr 0x1033 1 1 1
      Safety.writes (asks (inState 3 []) w) .counterMark w)
    ∧ (∀ b ∈ [0, 24], Safety.passes (asks (inState 3 []) (rd (0xB100 + b) 11)) .overflowRead (rd (0xB100 + b) 11))
    ∧ (∀ b ∈ [0, 24], let w := wr (0xB100 + b) 12 1 1
      Safety.writes (asks (inState 3 loaded) w) .snapshot w ∧ ((asks (inState 3 loaded) w).d.take w).ev.counters.sorted = true)
    ∧ (∀ e ∈ [(100000, false), (99999, true)],
      let w := req 0 (hdr 2 0x9003 1 0 20 ++ beBytes 8 0 ++ beBytes 8 e.1 ++ beBytes 4 30000)
      let d := { inState 3 [] with baro := { lastClose := 1000000, device := List.replicate 100 4000000000 } }
      Safety.passes (asks d w) .railReport w ∧ d.railBad w.ask.r.payload = e.2) := by
  unfold Safety.writes Safety.passes; decide +kernel

theorem witness_BurnsStartAndEnd :
    (∀ n ∈ [0, 3], let w := wr (0xC010 + n) 1 32 1
     let d := inState 2 [(Obj.supplyStable, 1), (Obj.lifecycle, 1)]
     Safety.passes (asks d w) .ownerKeyHash w ∧ d.burnState = true ∧ d.get Obj.supplyStable ≠ 0 ∧ d.sec.burn = none
     ∧ d.get Obj.lifecycle < 2 ∧ ownerWritten manufacturedFuses n = false ∧ ownerRows n w.ask.written ≠ [])
    ∧ (∀ n ∈ [0, 3], ∀ k ∈ [0, 1], let w := wr (0xC010 + n) 2 1 1
     let d := inState 4 [(Obj.supplyStable, k)]
     Safety.passes (asks d w) .ownerRevoke w ∧ d.burnState = true ∧ (d.get Obj.supplyStable = 0 ↔ k = 0)
     ∧ w.ask.written = 1 ∧ d.get Obj.lifecycle = 0 ∧ ownerRevoked manufacturedFuses n = false)
    ∧ (let w := wr 0xC021 1 1 2
     let d := inState 2 [(Obj.supplyStable, 1), (Obj.lifecycle, 1)]
     Safety.passes (asks d w) .lifecycleAdvance w ∧ w.ask.written = 2 ∧ d.get Obj.lifecycle = 1)
    ∧ (∀ v ∈ [1, 64], let w := wr 0xC020 1 1 v
     let d := inState 2 [(Obj.supplyStable, 1), (Obj.bundleSvn, 64)]
     Safety.passes (asks d w) .rollbackAdvance w ∧ fuseRollback manufacturedFuses < w.ask.written
     ∧ w.ask.written ≤ d.get Obj.bundleSvn
     ∧ (((List.range 64).filter (fun i => fuseRow manufacturedFuses (64 + i) == 0)).take v).length = v) := by
  unfold Safety.passes; decide +kernel

/-- A device that burns rows 40 and 41. -/
def burns41 (rest : List (Nat × Nat)) : Device :=
  { inState 2 [] with sec := { burn := some ⟨.ownerKey 1, (40, markerWord) :: rest⟩ } }

theorem witness_BurnsStartAndEnd_ends :
    (∀ rest ∈ [[], [(41, 1)]], (burns41 rest).sec.burn = some ⟨.ownerKey 1, (40, markerWord) :: rest⟩)
    ∧ BitVec.ofNat 64 markerWord ≠ 0 ∧ BitVec.ofNat 64 1 ≠ 0
    ∧ (burns41 []).sec.burnCut = false ∧ rowState (burnRow manufacturedFuses 40 markerWord) 40 ≠ 2
    ∧ rowState (burnRow manufacturedFuses 40 1) 40 = 2 := by
  decide +kernel

theorem witness_MeasurementsAndQuotes :
    (∀ i ∈ [10, 15], let w := req 0 (hdr 2 0xC030 0x11 0 33 ++ [byte i] ++ zeros 32)
     Safety.passes (asks (inState 3 []) w) .mrExtend w ∧ byteAt w.ask.r.payload 0 = i)
    ∧ (let w := req 0 (hdr 2 0xC050 1 0 40 ++ zeros 32 ++ [0xFF, 0xFF] ++ zeros 6)
     let d := inState 3 []
     Safety.passes (asks d w) .quoteRequest w ∧ d.quoteState = true ∧ beAt w.ask.r.payload 32 2 = 0xFFFF
     ∧ beAt w.ask.r.payload 34 6 = 0 ∧ (d.quote 4096).status ≠ 1
     ∧ (d.sec.quotes.filter (fun e => e.2.status == 1)).length < 4 ∧ w.src.master = 4096)
    ∧ (∀ m ∈ [4096, 4143], ∀ e ∈ [(0, 0), (1, 2), (1, 3)],
     let d := (inState 3 []).setQuote m { status := 1, request := zeros 40, gen := e.1, tries := e.2 }
     (d.quote m).status = 1 ∧ d.quoteState = true ∧ ((d.quote m).gen = d.get Obj.generation ↔ e.1 = 0) ∧ (d.quote m).tries = e.2) := by
  unfold Safety.passes; decide +kernel

theorem witness_StateRequestsMoveTheDevice :
    ∀ e ∈ [(stTEST, 2, Row.stateInit), (stSERVICE, 2, .stateInit), (stRECOVERY, 2, .stateInit), (stINIT, 3, .stateService),
      (stINIT, 4, .stateTest), (stINIT, 6, .stateHalt), (stSERVICE, 6, .stateHalt), (stTEST, 6, .stateHalt),
      (stRECOVERY, 6, .stateHalt)],
    let w := wr 0x1030 2 1 e.2.1
    Safety.passes (asks (inState e.1 []) w) e.2.2 w ∧ (inState e.1 []).dataRuns = true := by
  unfold Safety.passes; decide +kernel
theorem witness_ResetsRun :
    (let w := wr 0x1030 6 1 1
     Safety.passes (asks (inState 3 []) w) .warmReset w ∧ w.ask.written = 1)
    ∧ (let d := { inState 3 [] with sys := { warmDue := true } }
     d.sys.warmDue = true ∧ d.devState ≠ stRESET ∧ d.sys.warmRstN = true ∧ d.sys.thermtripN = true ∧ d.sec.burn = none)
    ∧ (base.devState ≠ stRESET ∧ base.sec.burn = none ∧ base.sys.lastRestart = none)
    ∧ (let d := { inState 0 [] with sys := { warmRstN := false } }
     d.sys.warmRstN = false ∧ d.devState = stRESET ∧ d.sys.porN = true ∧ d.sys.testMode = false ∧ d.sys.thermtripN = true)
    ∧ (let d := { inState 0 [] with sys := { porN := false } }
     d.sys.porN = false ∧ d.sys.warmRstN = true ∧ d.sys.thermtripN = true)
    ∧ (let d := { inState 3 [] with now := 1000000000, sys := { lastRestart := some 1 } }
     d.devState ≠ stRESET ∧ d.sys.lastRestart = some 1 ∧ d.now < 1 + 1000000000 ∧ d.sys.warmRstN = true
     ∧ d.sys.thermtripN = true ∧ d.sec.burn = none)
    ∧ (let d := { inState 3 [] with sys := { restarting := true } }
     d.sys.restarting = true ∧ d.sys.restartRequest = none)
    ∧ ({ inState 3 [] with now := 1000000000, sys := { lastRestart := some 0 } } : Device).sys.lastRestart = some 0
    ∧ (∀ ph ∈ [0, 1], let d := { inState 3 [(Obj.frontPhase, ph)] with sys := { restarting := true, restartRequest := some (rd 0x1000 1) } }
     d.sys.restarting = true ∧ d.sys.restartRequest = some (rd 0x1000 1) ∧ d.get Obj.frontPhase = ph) := by
  unfold Safety.passes; decide +kernel

theorem witness_SuppliesAndHeatAreFollowed :
    (∀ st ∈ [0, 1, 6], let d := inState st []
     d.devState = st ∧ d.sys.porN = true ∧ d.get Obj.vcoreLow ≠ 1)
    ∧ (∀ x ∈ List.replicate 25 (105000 : Int), 0 ≤ x ∧ x ≤ 105000)
    ∧ (∀ e ∈ [(0, 105001, true), (24, 105001, true), (24, -1, false)],
     let xs := (List.replicate 25 (0 : Int)).set e.1 e.2.1
     xs.length = 25 ∧ (xs.any (fun x => decide (x < 0 ∨ 105000 < x))) = true ∧ (decide (105000 < xs.getD e.1 0) = e.2.2)
     ∧ (e.2.2 = true → (∀ j : Fin 25, xs.getD j 0 ≤ xs.getD e.1 0) ∧ (∀ j : Fin 25, j.val < e.1 → xs.getD j 0 < xs.getD e.1 0)))
    ∧ (let d := { inState 3 [] with now := 1000000 }
     d.devState ≠ stRESET ∧ d.sys.lastThermal + 1000000 ≤ d.now)
    ∧ (∀ i ∈ [0, 23], base.clockStuck i = false ∧ base.clockFree i = true) := by
  decide +kernel

/-- The device 500 ms after an edge on PPS_IN, and the time of day just past a second. -/
def timed (now : Nat) : Device :=
  { inState 3 [(Obj.ppsOutEnable, 1)] with now := now, sys := { ppsInAt := some 0 } }

theorem witness_PinsAndPortsAnswer :
    ((timed 500000000).devState ≠ stRESET ∧ (timed 500000000).sys.ppsInAt = some 0 ∧ 0 + 500000000 ≤ (timed 500000000).now
      ∧ (timed 499999999).now < 0 + 500000000)
    ∧ ((timed 1000000000).get Obj.ppsOutEnable = 1 ∧ (timed 1000000000).secondCrossed = true)
    ∧ (∀ a ∈ [0, 3], (0x5C + { base.sys with smbAddr := a }.smbAddr < 128))
    ∧ (inState 0 []).devState = stRESET
    ∧ (∀ c ∈ [7, 0x0F, 0x29, 255], 7 ≤ c ∧ (c < 0x10 ∨ 0x28 < c))
    ∧ (base.sys.trstN = true ∧ ({ base with sys := { base.sys with trstN := false } } : Device).sys.trstN = false)
    ∧ (∀ i ∈ [3, 5], 3 ≤ ({ base with sys := { base.sys with jtagIr := i } } : Device).sys.jtagIr ∧ i ≤ 5)
    ∧ 16 * base.tempMax = 1000 * 400 ∧ fuseVcore base.sec.scan = some 750 ∧ 16 * base.temp 24 = 1000 * 400
    ∧ fuseLifecycle base.sec.scan ≠ 2 ∧ base.devState ≠ stRESET
    ∧ fuseLifecycle (Assoc.put (Assoc.put manufacturedFuses 128 markerWord) 129 markerWord) = 2 := by
  decide +kernel
/-! ### Witnesses: arrivals, fronts, energy, events and the host -/

/-- The device with management port 0 on, session 0 open under a key of zeros at L = 4, and what else it holds. -/
def onNet (x : Session) : Device :=
  (inState 3 [(Obj.mportMode 0, 1), (Obj.mportUdpPort 0, 5000), (Obj.mportIpv4 0, 0x0A000001), (Obj.sessionState 0, 1),
    (Obj.sessionLastSequence 0, 4)]).setSession 0 x

/-- A datagram of session 0 under a key of zeros. -/
def signed (seq : Nat) : Bytes :=
  let b := [1, 1, 0, 0] ++ beBytes 4 seq ++ beBytes 2 0x1000 ++ [1, 0, 0, 0, 0, 0]
  b ++ (hmac (zeros 32) b).take 16

theorem witness_RequestsAreQueued :
    (∀ fn ∈ [0, 31], let d := { inState 3 [] with host := { inL0 := true, numVfs := 31, vfEnable := true } }
     d.fnReached fn = true ∧ (d.mailbox fn).state ≠ 1 ∧ d.sys.restarting = false
     ∧ ((d.setMailbox fn { state := 1 }).mailbox fn).state = 1
     ∧ ({ d with sys := { restarting := true } } : Device).sys.restarting = true)
    ∧ (∀ e ∈ [(0, 4096), (4092, 4), (4096, 0)], e.1 % 4 = 0 ∧ (zeros e.2).length % 4 = 0 ∧ e.1 + (zeros e.2).length ≤ 4096)
    ∧ (let d := (((act5.setFrame 0 { tenant := 5 }).setCopy 0 { frame := 0, port := 131 }).setPort 131 { tx := [0] })
     (d.port 131).tx = [0] ∧ d.frostState 1 (d.frame 0).tenant = 0 ∧ d.netRuns = true
     ∧ d.inbandWaits 5 = false ∧ oneRequest ≤ d.bucketNow) := by
  decide +kernel

theorem witness_ManagementPortsAnswer :
    (let d := onNet { key := some (zeros 32), kept := some [1] }
     d.netRuns = true ∧ d.get (Obj.mportMode 0) ≠ 0 ∧ d.get (Obj.mportUdpPort 0) ≠ 0 ∧ d.sessionWaits 0 = false
     ∧ d.get (Obj.sessionLastSequence 0) = 4 ∧ (d.session 0).executing ≠ some 4 ∧ (d.session 0).kept = some [1]
     ∧ d.svc.authAt.find 0 = none ∧ d.get (Obj.mportIpv4 0) = 0x0A000001 ∧ d.devState ≠ stRESET
     ∧ ({ d with svc := { d.svc with waiting := [{ src := .session 0 0 0, msg := signed 5 }] } } : Device).sessionWaits 0 = true)
    ∧ (onNet {}).verified (signed 4) = none
    ∧ (∀ now ∈ [999999, 1000000], let d := { onNet {} with now := now, svc := { (onNet {}).svc with authAt := [(0, 0)] } }
     d.svc.authAt.find 0 = some 0 ∧ d.verified (signed 4) = none ∧ (d.now < 0 + 1000000 ↔ now = 999999))
    ∧ ((onNet { executing := some 4 }).session 0).executing = some 4 ∧ ((onNet {}).session 0).kept = none := by
  decide +kernel

theorem witness_ManagementPortsAnswer_next : (onNet { key := some (zeros 32) }).verified (signed 5) = some 0 ∧ beAt (signed 5) 4 4 = 4 + 1 := by
  decide +kernel

theorem witness_ManagementPortsAnswer_again : (onNet { key := some (zeros 32) }).verified (signed 4) = some 0 ∧ beAt (signed 4) 4 4 = 4 := by
  decide +kernel

/-- A device whose scrubber is at the first line of table 63, of one region, which holds one key in bucket 0. -/
def lined : Device :=
  { Dev.staged (inState 3 []) [(Obj.emEnable 63, 1), (Obj.emRegionBase 63, 0), (Obj.emBucketsLog2 63, 16)] with
    srh := { ways := [(63 * 2 ^ 28, { odd := true })] } }

theorem witness_ScrubsReportWhatTheyMeet :
    (∀ u ∈ [1 * 2 ^ 24 + 511, 5 * 2 ^ 24, 8 * 2 ^ 24 + 255], fieldExists u = true ∧ u / 2 ^ 24 ≠ 2 ∧ u / 2 ^ 24 ≠ 6)
    ∧ (inState 3 []).devState ≠ stRESET ∧ base.srh.failedStacks.testBit 3 = false ∧ base.srh.upsets = []
    ∧ ({ base with srh := { failedStacks := 8 } } : Device).srh.failedStacks.testBit 3 = true
    ∧ (∀ c ∈ [0, 3], base.goldenTile c 63 2047 = some {} ∧ ({} : TileRow) ≠ ⟨1, 0, 0, false, false⟩)
    ∧ lineRegion lined.scrubNext < 4088 ∧ lined.tableOfLine lined.scrubNext = some 63
    ∧ lined.lineEntries (lined.emCfg (lined.activeCopy 4) 63) 63 lined.scrubNext ≠ []
    ∧ 4088 ≤ lineRegion ({ base with srh := { scrubAt := 4088 * regionLines } } : Device).scrubNext
    ∧ (∀ c ∈ [0, 15], (inState 3 []).stopped c = true ∧ (inState 3 loaded0).stopped c = false)
    ∧ (∀ n ∈ [0, 3], ∀ k ∈ [62, 63], let d := { lined with now := 1000000000, srh := { hbmErrors := [(n, List.replicate k 0)] } }
     ((d.srh.hbmErrors.getD (fun _ => []) n).filter (fun t => decide (d.now ≤ t + 1000000000))).length = k)
    ∧ ((inState 1 [(Obj.bootPhase, bpLOADING)]).bootLoading = true ∧ (inState 1 [(Obj.bootPhase, bpLOADING)]).sec.hbmDone = false
     ∧ (inState 3 []).bootLoading = false) := by
  decide +kernel

theorem witness_FrontsFlipAndRelease :
    (inState 3 [(Obj.frontPhase, 1)]).get Obj.frontPhase = 1
    ∧ (let d := Dev.staged (inState 3 [(Obj.frontPhase, 5)]) [(Obj.sthEthertype, 0x9000)]
     d.get Obj.frontPhase = 5 ∧ d.dict.copy0.sorted = true ∧ d.dict.copy1.sorted = true ∧ d.dict.mem0.sorted = true
     ∧ d.dict.mem1.sorted = true) := by
  decide +kernel

/-- A front of group 0 in a phase, with MGT's parity odd. -/
def fronted (phase : Nat) (acks : List Nat) : Device :=
  { inState 3 [(Obj.frontPhase, phase)] with
    now := 1000000, front := { mask := 1, boundUs := 1000000, acks := acks }, ptrs := [(24, { parity := true, copyOdd := 1 })] }

theorem witness_FrontsCrossTheDevice :
    (20 ∈ (fronted 2 []).unheard ∧ 16 ∈ (fronted 3 []).unheard)
    ∧ (fronted 2 (List.range 25)).unheard = []
    ∧ (fronted 3 (List.range 25)).unheard = [] ∧ (fronted 3 []).now < (fronted 3 []).expiryPoint
    ∧ (∀ n ∈ [(fronted 3 []).expiryPoint - 1, (fronted 3 []).expiryPoint],
     let d := { fronted 3 (List.range 25) with now := n }
     d.unheard = [] ∧ (d.now < d.expiryPoint ↔ n ≠ (fronted 3 []).expiryPoint))
    ∧ ((fronted 2 []).unheard ≠ [] ∧ (fronted 2 []).front.stalled = false
     ∧ (fronted 2 []).get Obj.frontLastFlipTime + 1000000 ≤ (fronted 2 []).now)
    ∧ (∀ left ∈ [0, 1], let e := fronted 4 []
     let d := { e with now := e.expiryPoint, front := { e.front with finals := [(19, 1)], leaves := [(38, 1 - left), (39, 1 - left)] } }
     d.get Obj.frontPhase = 4 ∧ d.front.expiring = false ∧ d.expiryPoint ≤ d.now ∧ d.oldWaiting = [] ∧ d.oldCopies = []
     ∧ d.oldResident = left) := by
  decide +kernel

theorem witness_EnergyIsAccounted :
    (let d := { inState 3 [] with now := 19999 }
     d.accounts = true ∧ d.stopped 24 = false ∧ d.timeAt 24 / 10000 < Device.timeAt { d with now := d.now + 1 } 24 / 10000)
    ∧ (∀ b ∈ [1, 2], let d := { inState 3 [] with now := 30000, baro := { lastClose := 10000, reports := [(23, [⟨b, [(0, 5)], []⟩])] } }
     d.accounts = true ∧ d.reportsOf 23 = [⟨b, [(0, 5)], []⟩] ∧ (d.baro.lastClose < b * 10000 ↔ b = 2))
    ∧ (let d := { inState 3 [] with now := 15000 }
     d.accounts = true ∧ d.baro.lastClose + 10000 + 5000 ≤ d.now)
    ∧ (∀ bm ∈ [[], [0]], let d := { inState 3 [(Obj.exportEnable, 1), (Obj.exportBase, 4096)] with
               now := 1000000000, host := { inL0 := true, busMaster := bm } }
     d.accounts = true ∧ d.get Obj.exportEnable = 1 ∧ (d.dmaOk 0 = true ↔ bm = [0])
     ∧ d.baro.exportAt < d.now / us (d.get Obj.exportPeriodUs))
    ∧ (let d := { inState 3 [(Obj.thermalK, 8)] with now := 1000000 }
     d.wantK 20 ≠ d.clockK 20 ∧ d.clockStuck 20 = false ∧ d.clockFree 20 = true) := by
  decide +kernel

/-- A device whose link is up and whose PF is a bus master. -/
def hosted (l : List (Nat × Nat)) : Device :=
  { inState 3 l with host := { everL0 := true, inL0 := true, busMaster := [0] } }

/-- A device with an event ring, where one occurrence of source 33 or of the limited source 13 is on its way from island 24. -/
def occurring (src : Nat) (on : Nat) : Device :=
  { hosted [(Obj.erRingEnable 0, on), (Obj.erRingBase 0, 4096)] with ev := { flight := [(24, [⟨src, 0, 24, 0, 0, 0, 0⟩])] } }

theorem witness_OccurrencesReachTheEventUnit : ∀ src ∈ [33, 13],
    let o : Occurrence := ⟨src, 0, 24, 0, 0, 0, 0⟩
    let d := occurring src 1
    let x : Occurrence := { o with arrived := d.ev.arrivals + 1 }
    d.ev.flight.getD (fun _ => []) 24 = [o] ∧ d.sourceOn src = true ∧ d.triggers x = true
    ∧ (limitedSource src = true ↔ src = 13) ∧ (occurring src 0).triggers x = false
    ∧ (Dev.bytes d Obj.domEventConfig (4 * src) (zeros 4)).sourceOn src = false
    ∧ (d.slotOf (limiterKey o)).arrived ≤ d.ev.arrivals := by
  decide +kernel

theorem witness_RecordsAndMessagesGoOut :
    (∀ p ∈ [[], [(33 * 65536, { count := 4, arrived := 9 })]], let o : Occurrence := ⟨33, 0, 24, 0, 0, 0, 1⟩
     let d := { hosted [(Obj.erRingEnable 0, 1), (Obj.erRingBase 0, 4096)] with ev := { queue := [o], pending := p, arrivals := 9 } }
     d.writerFree = true ∧ d.ev.queue = [o] ∧ d.readySlot = none ∧ d.sourceOn o.source = true
     ∧ d.ringOn (d.routeOf 33) = true ∧ d.ringRoom (d.routeOf 33) = true
     ∧ ((entryCarries o (d.slotOf (limiterKey o)) []).isNone = true ↔ p = []))
    ∧ (∀ k ∈ [33 * 65536, 13 * 65536 + 15],
     let p : Pending := { count := 4, arrived := 9 }
     let d := { hosted [(Obj.erRingEnable 0, 1), (Obj.erRingBase 0, 4096)] with ev := { pending := [(k, p)] } }
     d.writerFree = true ∧ d.ev.queue = [] ∧ d.readySlot = some (k, p) ∧ (limitedSource (keySource k) = true ↔ k = 13 * 65536 + 15))
    ∧ (∀ v ∈ [0, 2047], let k := vecKey 0 v
     let d := { hosted [] with ev := { vectors := [(k, { masked := false, due := some 0 })] } }
     let e := { hosted [] with ev := { vectors := [(k, { masked := true, waiting := true })] } }
     let w := { hosted [] with ev := { vectors := [(k, { masked := false, waiting := true })], fnMasked := [0] } }
     0 ∉ d.ev.fnMasked ∧ d.dmaOk 0 = true ∧ (d.vec k).due = some 0 ∧ 0 ≤ d.now ∧ (d.vec k).masked = false
     ∧ (e.vec k).waiting = true ∧ (d.vec k).waiting = false
     ∧ 0 ∉ w.ev.fnMasked.erase 0 ∧ w.dmaOk 0 = true ∧ (w.vec k).masked = false ∧ (w.vec k).waiting = true)
    ∧ ({ base with ev := { wraps := [(24, 511)] } } : Device).ev.wraps.contains (24, 511) = true
    ∧ (let d := { hosted [(Obj.sringEnable, 1), (Obj.sringBase, 4096), (Obj.clLoadState 15, 4)] with
                  now := 1000000, ev := { samplers := [(15, { buffer := [zeros 32] })] } }
     d.drainsNow 15 = true ∧ (d.sampler 15).buffer = [zeros 32]
     ∧ (d.get Obj.sringTail + 1) % d.get Obj.sringEntries ≠ d.get Obj.sringHead) := by
  decide +kernel

theorem witness_DoorbellsPost :
    (∀ g ∈ [0, 63, 64, 127, 128, 143], ∀ v ∈ [0, 63],
     let d := hosted [(Obj.ringEnable g, 1), (Obj.ringBase g, 4096), (Obj.ringEntries g, 64)]
     d.fnReached 0 = true ∧ d.ringRuns g = true ∧ d.owner g = 0 ∧ d.fnActive 0 = true ∧ v < d.get (Obj.ringEntries g)
     ∧ v < 65536 ∧ d.mayNow islMGT (ringNeeds g).1 4096 (ringNeeds g).2.1 (ringNeeds g).2.2 = true)
    ∧ (hosted []).fnReached 0 = true ∧ (hosted []).ringRuns 0 = false ∧ (hosted []).get (Obj.erRingEntries 0) ≤ 65536 ∧ 0 < (hosted []).get (Obj.erRingEntries 0) := by
  decide +kernel

/-- A descriptor of an inject ring in PARSER or QUEUE mode, with `n` bytes (Table 15-4). -/
def injectDesc (n mode : Nat) : Bytes := leBytes 8 0x1000 ++ leBytes 2 n ++ [byte mode, 0] ++ zeros 20

theorem witness_HostRingsMoveFrames :
    (∀ g ∈ [0, 143], (hosted [(Obj.ringEnable g, 1), (Obj.ringBase g, 4096)]).ringRuns g = true)
    ∧ (∀ g ∈ [64, 127],
     let d := (hosted [(Obj.ringEnable g, 1), (Obj.ringBase g, 4096), (Obj.ringEntries g, 64)]).setRing g { tail := 1 }
     d.injectReady g = true ∧ (d.ringRight g).2 = true
     ∧ (injectStatus true (injectDesc 0 0)).isSome = true
     ∧ (∀ n ∈ [0, 127], let b := injectDesc 0 0 |>.set 11 (byte n)
       (injectStatus true b).isSome = true ∧ (injectNames b = false ↔ n = 127))
     ∧ (let e := d.setPg 0 { inject := List.replicate 64 0 }
       injectNames (injectDesc 60 0) = true ∧ e.injectRoom (injectDesc 60 0) = false)
     ∧ (let e := (d.setRing 65 { tail := 1 }).injectWait 65 0
       let e := Dev.with_ e [(Obj.ringEnable 65, 1), (Obj.ringBase 65, 4096), (Obj.ringEntries 65, 64)]
       e.injectReady 65 = true ∧ ({ e with host := { e.host with injectLast := [(0, 64)] } } : Device).injectFirst g 0 = false)
     ∧ (∀ q ∈ [0, 1], let b := injectDesc 60 q
       injectStatus true b = none ∧ d.injectRoom b = true ∧ d.injectFirst g (injectTarget b) = true
       ∧ (bit (byteAt b 10) 0 = true ↔ q = 1)))
    ∧ (∀ n ∈ [0, 1],
     let d := (((hosted [(Obj.ringEnable 0, 1), (Obj.ringBase 0, 4096), (Obj.ringEntries 0, 64)]).setRing 0 { tail := n }).setCopy 0
       { port := 128, out := some (zeros 64) }).setPort 128 { tx := [0] }
     let g := d.rxRing (d.frame (d.copyRec 0).frame)
     d.dataRuns = true ∧ (d.port 128).tx = [0] ∧ g = 0 ∧ d.ringRuns g = true ∧ d.fnActive (d.owner g) = true ∧ (d.ringRight g).2 = true
     ∧ ((d.ring g).head = (d.ring g).tail ↔ n = 0) ∧ leAt (leBytes 8 0x2000 ++ leBytes 4 64 ++ zeros 20) 8 4 = 64
     ∧ ((d.copyRec 0).out.getD []).length ≤ 64 ∧ (d.copyRec 0).out.getD [] ≠ []
     ∧ (d.copyAcct (d.copyRec 0)).toNat * 8000000 ≤ d.policerNow) := by
  decide +kernel

theorem witness_LinkAndFunctions :
    (inState 3 []).devState ≠ stRESET ∧ (inState 3 []).host.everL0 = false
    ∧ (hosted []).host.everL0 = true ∧ (hosted []).get Obj.hostLinkRate ≠ 5 % 256
    ∧ (hosted []).fnReached 0 = true
    ∧ (let d := { inState 3 [] with host := { everL0 := true, inL0 := true, numVfs := 31, vfEnable := true } }
     d.fnReached 1 = true ∧ d.fnReached 31 = true) := by
  decide +kernel
/-! ### Witnesses: start-up, ports, parsing, search and the engines -/

theorem witness_BundlesBootTheDevice :
    (let d := inState 1 [(Obj.bootPhase, bpVERIFYING)]
     d.awake = true ∧ d.get d.phaseObj = bpVERIFYING ∧ d.bundleReason manufacturedFuses (d.devState != stBOOT) d.bundle ≠ 0)
    ∧ (inState 3 [(Obj.updatePhase, bpVERIFYING)]).get (inState 3 []).phaseObj = bpVERIFYING
    ∧ (let d := { inState 3 [(Obj.updatePhase, bpLOADING)] with sec := { installs := [(3, {})] } }
     d.awake = true ∧ d.get Obj.updatePhase = bpLOADING ∧ ∀ e ∈ d.sec.installs, e.1 < 4)
    ∧ (let d := inState 1 [(Obj.bootPhase, bpLOADING)]
     d.bootLoading = true ∧ d.sec.hbmDone = false)
    ∧ (let d := { inState 1 [(Obj.bootPhase, bpLOADING)] with sec := { hbmDone := true, serdesDone := true } }
     d.bootLoading = true ∧ d.sec.hbmDone = true ∧ d.sec.serdesDone = true) := by
  decide +kernel

theorem witness_LinksRiseAndFall :
    (∀ p ∈ [0, 124],
     (ported [(Obj.linkState p, 1)]).link p = lkTRAINING ∧ ((ported []).port p).timer ≤ (ported []).now
     ∧ (ported [(Obj.linkState p, 2)]).link p = lkALIGNING ∧ (ported [(Obj.linkState p, 2)]).holding p = false
     ∧ (ported [(Obj.linkState p, 3)]).link p = lkUP ∧ (ported [(Obj.linkState p, 3)]).transmitting p = none
     ∧ (ported [(Obj.linkState p, 3)]).heldCopies p = []
     ∧ (∀ w ∈ [0, 5], (Dev.staged (ported []) [(Obj.portLullWindowUs p, w)]).arr (portIsl p) (Obj.portLullWindowUs p) = w)
     ∧ (let d := ((ported [(Obj.linkState p, 3)]).setPort p { tx := [0] }).setCopy 0 { port := p, stage := .chosen }
       d.link p = lkUP ∧ d.transmitting p = some 0))
    ∧ (let d := ({ ported [(Obj.linkState 124, 2), (Obj.pstHoldState 124, 1)] with now := 20000000 }).setPort 124 { holdWindow := 20000 }
     d.holding 124 = true ∧ d.heldCopies 124 = []) := by
  decide +kernel

/-- A hold at port 124 since time 0, whose window of 20 ms has passed whatever the offset of its port group's timestamp counter. -/
def heldLong : Device :=
  ({ ported [(Obj.linkState 124, 2), (Obj.pstHoldState 124, 1)] with now := 20000020 }).setPort 124 { holdWindow := 20000 }

theorem witness_LinksRiseAndFall_over : heldLong.windowOver 124 = true := by
  have h : heldLong.holding 124 = true := by decide +kernel
  have a : heldLong.get (Obj.pstHoldStart 124) + us (heldLong.port 124).holdWindow = 20000000 := by decide +kernel
  have n : heldLong.now = 20000020 := by decide +kernel
  rw [Device.windowOver, h, a, Bool.true_and, decide_eq_true_eq, Device.timeAt, if_neg (by decide), n]
  omega

/-- An Ethernet frame of 60 bytes and its FCS. -/
def wire60 : Bytes := zeros 60 ++ fcsBytes (zeros 60)

/-- What a good frame of port `p` meets at its MAC, whatever waits in its merge. -/
abbrev Dev.takesWire (d : Device) (p : Nat) : Prop :=
  let par := (d.ptr (portIsl p)).parity
  d.defined p = true ∧ d.forwards = true ∧ d.link p = lkUP ∧ d.frostState 2 p = 0 ∧ fcsOk wire60 = true
  ∧ wire60.length = 64 ∧ 64 ≤ d.cfg (portIsl p) par (Obj.portMaxFrame p)
  ∧ d.identify p par (dropFcs wire60) = some (0, 0, .none)
  ∧ d.inbandTest { bytes := dropFcs wire60, port := p, origin := p, pg := p / 32, parity := par } = 0

/-- Port 124 is UP, and its buffer holds one frame more than `Config.rxBuffer` says. -/
def brimming : Device :=
  ((ported [(Obj.linkState 124, 3)]).setFrame 0 { origin := 124 }).setPg 3 { merge := List.replicate (Config.rxBuffer 124 + 1) 0 }

theorem witness_MacsReceiveAndSend_buffers : (∀ p ∈ [0, 124], Dev.takesWire (ported [(Obj.linkState p, 3)]) p) ∧ Dev.takesWire brimming 124
    ∧ ¬ Config.rxBuffer 124 < (ported [(Obj.linkState 124, 3)]).portWaiting 124 ∧ Config.rxBuffer 124 < brimming.portWaiting 124 := by
  refine ⟨by decide +kernel, by decide +kernel, ?_, ?_⟩
  · exact Nat.not_lt_zero _
  · have h : ∀ (m : Nat) (q : Nat → Bool), q 0 = true → ((List.replicate m 0).filter q).length = m := by
      intro m q hq
      simp [hq]
    have e : (brimming.pgs (124 / 32)).merge = List.replicate (Config.rxBuffer 124 + 1) 0 := by
      simp [Device.pgs, Device.setPg, brimming]
    have o : (brimming.frame 0).origin = 124 := by
      simp [Device.frame, Device.setPg, Device.setFrame, brimming, Assoc.getD, Assoc.find_put_same]
    unfold Device.portWaiting
    rw [e, h _ _ (by simp [o])]
    exact Nat.lt_succ_self _

theorem witness_MacsReceiveAndSend :
    fcsOk (zeros 64) = false ∧ (∀ k ∈ [1, 2 ^ 32 - 1], k ≠ 0)
    ∧ (∀ st ∈ [stSERVICE, stTEST], let d := Dev.with_ (ported [(Obj.linkState 124, 3)]) [(Obj.deviceState, st)]
     d.defined 124 = true ∧ (d.forwards = true ↔ st = stSERVICE) ∧ d.link 124 = lkUP)
    ∧ (let d := Dev.staged (ported [(Obj.linkState 124, 3)]) [(Obj.portRole 124, 2)]
     d.identify 124 (d.ptr (portIsl 124)).parity (dropFcs wire60) = none)
    ∧ (let d := ((ported [(Obj.linkState 124, 3)]).setPort 124 { tx := [0] }).setCopy 0 { port := 124, stage := .chosen }
     d.transmitting 124 = some 0) := by
  decide +kernel

/-- The merge of port group 3 holds a frame of an EtherType, and its parser one that entered 64 cycles ago. -/
def parsing (ether : Nat) : Device :=
  let d := (inState 3 []).setFrame 0 { bytes := zeros 12 ++ beBytes 2 ether ++ zeros 46, port := 96, pg := 3 }
  let d := (d.setFrame 1 { port := 96, pg := 3, stage := .parser }).setPg 3 { merge := [0], parser := [1] }
  { d with sys := { cycles := [(19, 64)] } }

theorem witness_FramesAreParsed :
    (∀ e ∈ [(0x9999, ParseEnd.done 14), (0x0800, .trap 4 7 14 false)],
     let d := parsing e.1
     let f := d.frame 0
     d.dataRuns = true ∧ d.pipelineFree 3 = true ∧ (d.pgs 3).merge = [0] ∧ d.sweep 0 = none ∧ f.pg = 3
     ∧ (d.walk 3 0).2 = e.2 ∧ (d.walk 3 0).1.reads.contains 255 = false ∧ (d.walk 3 0).1.reads.contains 0 = true
     ∧ (d.graphNode 3 f.parity 0).2 = false ∧ e.2 ≠ .trap 0x01 0 0 false
     ∧ bit (d.cfg (islPG 3) f.parity (Obj.profTrapAction (d.cfg (islPG 3) f.parity (Obj.tenParseProfile f.tenant)))) (4 - 1) = false)
    ∧ (let d := Dev.staged (parsing 0x0800) [(Obj.profTrapAction 0, 0xFF)]
     bit (d.cfg (islPG 3) false (Obj.profTrapAction 0)) (4 - 1) = true)
    ∧ (∀ i ∈ [0, 1], let d := (parsing 0).setPg 3 { inject := [0], recircNext := i == 1 }
     (d.pgs 3).merge = [] ∧ (d.pgs 3).inject = [0] ∧ d.pipelineFree 3 = true ∧ ((d.pgs 3).recircNext = true ↔ i = 1)
     ∧ d.recircWaits 3 = false)
    ∧ ((parsing 0).pgs 3).parser = [1] ∧ (parsing 0).parserReady 3 1 = true ∧ (parsing 0).sweep 1 = none
    ∧ (∀ e ∈ [0, 1], (((parsing 0).setFrame 1 { port := 96, pg := 3, stage := .parser, secEnd := e }).frame 1).secEnd = e) := by
  unfold Device.sweep
  decide +kernel

/-- Every right of every resource, for the tenants (Table 3-6). -/
def granted : List (Nat × Nat) := (List.range 8).map (fun t =>
  (Obj.accEntry t 1, accessEntry true 0 4095 0 (targetRange t).2 (targetRange t).1))

/-- A device with one request of a kind in complex 3, of frame 0 of tenant 0, for the objects given. -/
def searching (r : LookupReq) (l : List (Nat × Nat)) : Device :=
  ((Dev.staged (inState 3 []) (granted ++ l)).setFrame 0 {}).setComplexQueue 3 [r]

/-- A device whose table of 16-byte keys holds the key of zeros, or holds nothing. -/
def emSearching (t : Nat) (hit : Bool) : Device :=
  let d := searching { kind := 1, table := t } [(Obj.emEnable t, 1), (Obj.emKeyBytes t, 16)]
  let h := (d.emCfg ((d.ptr islSRH).copy false 4) t).hash (zeros 16)
  { d with srh := { d.srh with
      ways := if hit then [(t * 2 ^ 28 + 4 * h.1, { odd := true, even := true, fingerprint := h.2.2 })] else []
      records := if hit then [(t * 2 ^ 29, { key := recKey (zeros 16), ad := 5 })] else [] } }

/-- A device whose VRF 4095 has a default route of a family, or none. -/
def lpmSearching (fam : Nat) (hit : Bool) : Device :=
  let d := Dev.bytes (searching { kind := 2, table := fam, vrf := 4095 } []) Obj.domVrfTable (32 * 4095) [0xC0]
  { d with srh := { d.srh with routesEven := if hit then [(routeKey 4095 fam 0 0, 9)] else [] } }

theorem witness_LookupsAreServed :
    (∀ k ∈ [0, 1, 2], let d := searching { kind := k } []
     d.dataRuns = true ∧ d.hasFrame 0 = true ∧ d.complexFailed 3 = false ∧ (d.takeRequest 3 k).isSome = true)
    ∧ (∀ x ∈ [(0, false), (0, true), (63, false), (63, true)],
     let d := emSearching x.1 x.2
     let e := d.emCfg ((d.ptr islSRH).copy false 4) x.1
     (d.takeRequest 3 1).any (fun y => d.mayLookup y.1 (0xE500 + x.1)) = true
     ∧ d.cfg islSRH false (Obj.emEnable x.1) = 1
     ∧ bindKey 16 (d.cfg islSRH false (Obj.emTenantBind x.1)) 0 (fitKey 16 []) = some (zeros 16)
     ∧ (d.emFind e x.1 false (zeros 16)).isSome = x.2 ∧ d.srh.entryErrors = []
     ∧ (d.emLines e x.1 false (zeros 16)).all (fun l => !d.lineLost l) = true)
    ∧ (∀ g ∈ [0, 15], let d := searching { kind := 0, table := 255 } [(Obj.sprofTable 255, 63), (Obj.tcamWidth 63, 8),
         (Obj.grpEnable (48 + g), 1), (Obj.grpTable (48 + g), 63)]
     d.mayLookup {} (0xE400 + 63) = true ∧ d.tableGroups 3 63 = [g]
     ∧ bindKey 80 (d.cfg islSRH false (Obj.sprofTenantBind 255)) 0 (fitKey 80 []) = some (zeros 80))
    ∧ (∀ x ∈ [(0, false), (0, true), (1, false), (1, true)],
     let d := lpmSearching x.1 x.2
     d.mayLookup {} 0xE600 = true ∧ ({ kind := 2, table := x.1, vrf := 4095 } : LookupReq).vrfOk = true
     ∧ vrfEnabled (d.vrfEntry false 4095) x.1 = true ∧ d.lpmLost false = false ∧ d.srh.routeErrors = []
     ∧ (longestRoute (d.routes false) 4095 x.1 0 (famBits x.1)).isSome = x.2) := by
  decide +kernel

theorem witness_TableWorkCompletes :
    (∀ i ∈ [0, 63], i ∈ ({ base with srh := { fills := [i] } } : Device).srh.fills
     ∧ i ∈ ({ base with srh := { clears := [i] } } : Device).srh.clears)
    ∧ base.awake = true ∧ base.noShadow 3 = false ∧ base.noShadow 4 = false
    ∧ ({ base with srh := { emBatch := some (63, 1) } } : Device).srh.emBatch = some (63, 1)
    ∧ ({ base with srh := { lpmBatch := some 1 } } : Device).srh.lpmBatch = some 1
    ∧ ({ base with srh := { selftest := true } } : Device).srh.selftest = true := by
  decide +kernel

/-- An image of one microword address. -/
def image1 : Image := { entries := List.replicate 64 5 }

/-- A device with cluster 15 in service and a frame at the head of port group 3's dispatch input. -/
def dispatching : Device :=
  let d := ((inState 3 loaded).setCluster 15 { image := image1 }).setFrame 0
    { bytes := zeros 60, pg := 3, walked := true, stage := .dispatchWait }
  d.setPg 3 { keyq := [0], lastCluster := 14 }

theorem witness_FramesAreDispatched :
    (∀ en ∈ [7, 0x3FFF],
     let d := dispatching.setCluster 15 { image := { entries := List.replicate 64 en } }
     let f := d.frame 0
     let c := d.pickCluster 3 (d.pgs 3).lastCluster (d.considered 3 f)
     (d.pgs 3).keyq = [0] ∧ d.dataRuns = true ∧ f.stage ≠ .decrypt ∧ d.sweep 0 = none ∧ f.walked = true
     ∧ f.reason = 0 ∧ d.considered 3 f ≠ [] ∧ c = 15 ∧ d.credits 3 c ≠ 0 ∧ d.roomToLand 0 = true
     ∧ (d.cluster c).image.entries.getD f.profile 0x3FFF = en)
    ∧ (Safety.creditsKept (dispatching.setCluster 15 { image := image1 })
     ∧ Safety.creditsKept { dispatching with eng := { dispatching.eng with
         threads := [(threadKey 15 48 0, {}), (threadKey 15 48 2, { state := .ending })], spent := [(63, 3)], returning := [(63, 1)] } })
    ∧ (let d := Dev.staged dispatching [(Obj.dispClusterMask 0, 2 ^ 15)]
     let d := { d with eng := { d.eng with spent := [(63, 256)] } }
     d.credits 3 15 = 0 ∧ d.considered 3 (d.frame 0) = [15] ∧ d.pickCluster 3 14 [15] = 15)
    ∧ (let d := Dev.with_ (Dev.staged dispatching [(Obj.dispClusterMask 0, 2 ^ 15)]) [(Obj.clLoadState 15, 0)]
     d.considered 3 (d.frame 0) = [])
    ∧ (∀ e ∈ [(false, 0), (true, 3)], let f : Frame := { bytes := zeros 60, pg := 3, walked := e.1, reason := e.2 }
     let d := dispatching.setFrame 0 f
     (d.frame 0).pg = 3 ∧ d.roomToLand 0 = true ∧ ((d.frame 0).walked = false ∨ (d.frame 0).reason ≠ 0))
    ∧ (∀ i ∈ [0, 63], ∀ n ∈ [0, 255], let d := { base with eng := { returning := [(i, n + 1)], spent := [(i, n + 1)] } }
     d.eng.returning.getD (fun _ => 0) i = n + 1 ∧ d.eng.spent.getD (fun _ => 0) i ≤ 256)
    ∧ dispatching.dataRuns = true := by
  have kept : ∀ d : Device, d.eng.threads.sorted = true → (∀ pg ∈ List.range 4, ∀ c ∈ List.range 16, Safety.creditsFit d pg c) →
      Safety.creditsKept d :=
    fun d h k => ⟨h, fun pg c hp hc => k pg (List.mem_range.mpr hp) c (List.mem_range.mpr hc)⟩
  unfold Device.sweep
  unfold Safety.creditsFit at kept
  refine ⟨by decide +kernel, ⟨kept _ (by decide +kernel) (by decide +kernel), kept _ (by decide +kernel) (by decide +kernel)⟩,
    by decide +kernel⟩
/-! ### Witnesses: threads, crypto, the switch core and the ports' schedulers -/

/-- A cluster 15 whose microwords have a SEQ, a TARGET and one nanoword, and one thread. -/
def runningAt (seq target nano : Nat) (x : Thread) : Device :=
  ((inState 3 []).setCluster 15 { image := { micro := List.replicate 6 (target * 2 ^ 22 + seq * 2 ^ 15), nano := [nano] } }).setThread
    (threadKey 15 63 15) x

/-- Its thread at 5, where no unit acts. -/
def running (seq : Nat) (x : Thread) : Device := runningAt seq 9 0 x

/-- What a microword meets that the one thread of engine 63 of cluster 15 issues. -/
abbrev Dev.issues (d : Device) (t : Thread) : Prop :=
  let w := (d.cluster 15).image.fetch t.pc
  d.dataRuns = true ∧ d.thread? (threadKey 15 63 15) = some t
  ∧ (∀ m : Fin 16, m ≠ 15 → d.thread? (threadKey 15 63 m) = none) ∧ t.state = .ready ∧ t.nextIssue ≤ d.engCycle 15 63 + 1
  ∧ (d.cluster 15).fetchError t.pc = false ∧ d.waits t (d.frame 0) w = none

theorem witness_MicrowordsRun :
    (∀ e ∈ [(0, 9, Seq.next), (1, 9, .jump), (2, 8, .way2), (3, 8, .way4), (4, 0, .way16), (5, 9, .yield), (6, 9, .call), (7, 9, .stop)],
     let t : Thread := { pc := 5, yieldCount := 511 }
     let d := runningAt e.1 e.2.1 0 t
     let w := (d.cluster 15).image.fetch 5
     Dev.issues d t ∧ w.seq = e.2.2 ∧ mwTarget w.mw = e.2.1 ∧ d.get (Obj.smpSampleEnable 15) ≠ 1 ∧ nwSide w.nw = 0
     ∧ nwAction w.nw = 0 ∧ w.lookup = false ∧ d.flushStops 15 0 = false ∧ d.expires (d.frame 0).parity = false
     ∧ (d.frame 0).decrypted = false ∧ t.callRet = none)
    ∧ (let t : Thread := { pc := 5, callRet := some 16383 }
     let d := runningAt 6 0x3FFF 0 t
     Dev.issues d t ∧ ((d.cluster 15).image.fetch 5).seq = .call ∧ mwTarget ((d.cluster 15).image.fetch 5).mw = 0x3FFF)
    ∧ (∀ sl ∈ [0, 3], let t : Thread := { pc := 5 }
     let d := runningAt 0 0 (2 ^ 143 + sl * 2 ^ 139) t
     let w := (d.cluster 15).image.fetch 5
     Dev.issues d t ∧ w.lookup = true ∧ w.seq = .next ∧ w.lookupSlot = sl ∧ w.lookupSlot < (d.frame 0).slots.length
     ∧ nwSide w.nw = 0 ∧ nwAction w.nw = 0)
    ∧ (let t : Thread := { pc := 5, yieldCount := 512 }
     Dev.issues (running 0 t) t ∧ 512 ≤ t.yieldCount)
    ∧ (let d := (running 0 {}).setCluster 15 { image := { micro := [0], nano := [0] }, storeErrors := [0] }
     (d.cluster 15).fetchError 0 = true) := by
  decide +kernel

/-- A thread of port group 3 that hands its result on while its credit is spent. -/
theorem witness_FramesAreDispatched_back :
    (let d := (running 0 { state := .ending }).setFrame 0 { pg := 3 }
     d.dataRuns = true ∧ (d.thread? (threadKey 15 63 15)).any (fun x => x.state == .ending && (d.frame x.frame).pg == 63 / 16) = true) := by
  decide +kernel

theorem witness_ThreadsAreServed :
    (running 0 {}).dataRuns = true ∧ (running 0 {}).thread? (threadKey 15 63 15) = some {}
    ∧ (∀ n ∈ [0, 3], let d := { running 0 {} with srh := { results := [⟨5, 1, n, 7, 8⟩, ⟨0, 1, n, 7, 8⟩] } }
     takeResult (fun r => d.clusterHolds 15 r.frame) d.srh.results = some (⟨0, 1, n, 7, 8⟩, [⟨5, 1, n, 7, 8⟩])
     ∧ n < (d.frame 0).slots.length)
    ∧ (∀ v ∈ [false, true], let d := (running 0 {}).setFrame 0 { verdictDue := some v, sa := some 65535, saNumber := 9 }
     (d.frame 0).verdictDue = some v ∧ (d.frame 0).sa = some 65535)
    ∧ (let d := { running 0 {} with eng := { (running 0 {}).eng with
         poolAnswers := [(threadKey 14 0 0, 0, 7), (threadKey 15 63 15, 1, 0), (threadKey 15 0 0, 0, 9)] } }
     d.answerTo 15 = some (threadKey 15 63 15, 1, 0) ∧ ({} : Thread).g.length = 16)
    ∧ ((running 0 { sides := [.count 0 0 64 false] }).thread? (threadKey 15 63 15)).any (fun x => x.sides.length == 1) = true
    ∧ (∀ fl ∈ [false, true], let d := (running 0 { state := .ending }).setFrost 3 15 { state := if fl then 1 else 0, flushing := fl }
     (d.thread? (threadKey 15 63 15)).any (fun x => x.state == .ending) = true
     ∧ (d.flushedTenant 0 || ((d.frostFn 3 15).flushing && (d.frame 0).cause != trapSTORE)) = fl) := by
  decide +kernel

theorem witness_ClustersLoad :
    (inState 3 []).dataRuns = true
    ∧ (∀ x ∈ [([0], true), ([2 ^ 80], false)],
     let d := { inState 3 [(Obj.clLoadState 15, ldLOADING)] with eng := { images := [(0, { nano := x.1 })] } }
     d.get (Obj.clLoadState 15) = ldLOADING ∧ (d.eng.images.getD (fun _ => {}) (d.cluster 15).slot).loadable = x.2)
    ∧ (let d := ((inState 3 [(Obj.clLoadState 15, ldTESTING)]).setCluster 15 { wasActive := true }).setFrost 3 15 { state := 2 }
     d.get (Obj.clLoadState 15) = ldTESTING ∧ (d.cluster 15).wasActive = true ∧ d.frostState 3 15 = 2) := by
  decide +kernel

/-- A device with an SA's record and key in both copies. -/
def withSa (s : Nat) (rec_ : Bytes) : Device :=
  Dev.bytes (Dev.bytes (Dev.staged (inState 3 []) granted) Obj.domSaTable (32 * s) rec_) Obj.domSaKeys (128 * s) [1]

/-- A MACSEC_IN record that gives integrity alone, of SCI 1 and a window of 32. -/
def macsecIn : Bytes := beBytes 8 (3 * 2 ^ 60 + 2 ^ 57 + 2 ^ 38) ++ zeros 16 ++ beBytes 8 1

/-- Port group 3 holds a frame that ended at a SecTAG with PN 5 and asks for a pipeline, of which `held` are taken. -/
def decrypting (d : Device) (held : Nat) : Device :=
  let d := (d.setFrame 0 { bytes := zeros 12 ++ [0x88, 0xE5, 0, 0] ++ beBytes 4 5 ++ zeros 64, pg := 3, secEnd := 2, secOff := 14,
                           stage := .decrypt }).setPg 3 { keyq := [0] }
  { d with cry := { d.cry with inbound := [0], pipes := (List.range held).map (fun i => (i, 9)) } }

/-- The copy of a frame under SA 7 that waits at port 124 for its encryption. -/
def encrypting (d : Device) (sa : Option Nat) (held : Nat) : Device :=
  let d := ((d.setFrame 0 { result := { sa := sa } }).setCopy 0 { port := 124, out := some (zeros 60), needsCrypto := true }).setPort 124
    { tx := [0] }
  { d with cry := { d.cry with outbound := [0], pipes := (List.range held).map (fun i => (i, 9)) } }

theorem witness_InlineCryptoRuns_ingress :
    (∀ held ∈ [0, 192], let d := decrypting (withSa 65535 macsecIn) held
     d.dataRuns = true ∧ d.decryptHead 3 = some 0 ∧ d.sweep 0 = none
     ∧ d.matchSa (d.frame 0) = some 65535 ∧ d.inKeyScope false 0 65535 = true
     ∧ d.mayFrame islCRY false 1 0 65535 rKEYUSE = true ∧ d.frostState 4 65535 = 0
     ∧ d.keyPresent (d.saCopy false) 65535 = true
     ∧ (macsecParts (d.saFor false 65535) (d.saCfg (d.saCopy false) 65535) (d.frame 0).bytes 14).any (fun p => p.number == 5
         && (d.saFor false 65535).replayOk 32 p.number
         && (plainFrame (d.frame 0) 65535 (d.saCfg (d.saCopy false) 65535) p p.text).isSome) = true
     ∧ (d.pipeFor true 0 = none ↔ held = 192))
    ∧ (let d := decrypting (inState 3 []) 0
     d.matchSa (d.frame 0) = none ∧ d.decryptHead 3 = some 0 ∧ d.sweep 0 = none)
    ∧ (let d := decrypting (Dev.bytes (Dev.bytes (inState 3 []) Obj.domSaTable (32 * 7) macsecIn) Obj.domSaKeys (128 * 7) [1]) 0
     d.matchSa (d.frame 0) = some 7 ∧ (d.inKeyScope false 0 7 && d.mayFrame islCRY false 1 0 7 rKEYUSE) = false)
    ∧ (let d := (decrypting (withSa 7 macsecIn) 0).setFrost 4 7 { state := 2 }
     d.matchSa (d.frame 0) = some 7 ∧ d.frostState 4 7 ≠ 0)
    ∧ (let d := decrypting (withSa 7 macsecIn) 0
     let f : Frame := { d.frame 0 with bytes := (d.frame 0).bytes.take 20 }
     (d.setFrame 0 f).matchSa f = some 7 ∧ (macsecParts {} (d.saCfg (d.saCopy false) 7) f.bytes 14).isNone = true)
    ∧ (let d := decrypting (withSa 7 macsecIn) 0
     let x : SaState := { (d.saState 7) with accepted := [5], rxHigh := 5 }
     let e : Device := { d with cry := { d.cry with sas := [(7, x)] } }
     e.matchSa (e.frame 0) = some 7 ∧ (e.saCfg (e.saCopy false) 7).window = 32 ∧ (e.saFor false 7).replayOk 32 5 = false) := by
  unfold Device.sweep
  decide +kernel

/-- A MACSEC_OUT record that gives integrity alone. -/
def macsecOut : Bytes := beBytes 8 (4 * 2 ^ 60 + 2 ^ 57) ++ zeros 24

theorem witness_InlineCryptoRuns_egress :
    (∀ x ∈ [(none, 0, false), (some 7, 0, false), (some 7, 0, true), (some 7, 192, false)],
     let d := encrypting (withSa 7 macsecOut) x.1 x.2.1
     let d : Device := if x.2.2 then { d with cry := { d.cry with sas := [(7, { tx := 2 ^ 32 - 1 })] } } else d
     d.dataRuns = true ∧ d.encryptHead 124 = some 0 ∧ (d.frame 0).result.sa = x.1
     ∧ d.frostState 4 7 = 0 ∧ d.encrypts false 7 = true ∧ d.inKeyScope false 0 7 = true
     ∧ d.mayFrame islCRY false 1 0 7 rKEYUSE = true ∧ (d.saFor false 7).isSealed = false ∧ (d.saFor false 7).exhausted = false
     ∧ (d.saCfg (d.saCopy false) 7).ty ≠ saESPOUT
     ∧ (d.sealCopy false 7 (zeros 60)).length + 4 ≤ d.cfg islSWC false (Obj.portMaxFrame 124)
     ∧ (d.pipeFor false 0 = none ↔ x.2.1 = 192) ∧ ((d.saFor false 7).tx = 2 ^ 32 - 1 ↔ x.2.2 = true))
    ∧ (encrypting (withSa 7 macsecIn) (some 7) 0).encrypts false 7 = false := by
  decide +kernel

/-- An XTS record with HOST_JOBS and a MAX_CLASS of 2. -/
def xtsSa : Bytes := beBytes 8 (5 * 2 ^ 60 + 2 * 2 ^ 29 + 2 ^ 20) ++ zeros 24

/-- A job descriptor of one unit of 512 bytes with SA 9 and CLASS 2. -/
def jobDesc : Bytes := zeros 24 ++ leBytes 4 512 ++ leBytes 4 (9 + 2 * 2 ^ 18)

/-- And one of 16 bytes. -/
def jobDesc16 : Bytes := zeros 24 ++ leBytes 4 16 ++ leBytes 4 (9 + 2 * 2 ^ 18)

/-- A device that serves jobs of SA 9: job ring 15 runs, with one descriptor. -/
def jobbing : Device :=
  let d := Dev.with_ (withSa 9 xtsSa) [(Obj.ringEnable 143, 1), (Obj.ringBase 143, 4096), (Obj.ringEntries 143, 16)]
  ({ d with host := { everL0 := true, inL0 := true, busMaster := [0] } }).setRing 143 { tail := 1 }

/-- A sector frame of SA 9 with an operation and a length (Table 9-9). -/
def sectorFrame (op n : Nat) : Bytes :=
  zeros 12 ++ beBytes 2 (jobbing.sthType false) ++ zeros 6 ++ beBytes 2 0x88B5 ++ beBytes 2 9 ++ [byte (64 * op), 0] ++ beBytes 2 n
  ++ zeros (26 + n)

/-- Every engine runs a SKYLARK job of one unit, the queue holds a SQUALL job of SA 9, and `n` jobs are suspended. -/
def preempting (n : Nat) : Device :=
  { jobbing with cry := { queue := [hostJob 15 0 4096 jobDesc []], suspended := List.replicate n {},
                          running := (List.range 16).map (fun e => (e, { length := 512 })) } }

theorem witness_JobsAreTakenAndRun :
    (let j := hostJob 15 0 4096 jobDesc []
     jobbing.jobRingReady 143 = true ∧ (jobbing.ringRight 143).2 = true ∧ jobbing.owner 143 = 0 ∧ j.sa = 9
     ∧ jobbing.mayNow islCRY 1 j.master j.sa rKEYUSE = true ∧ (jobbing.saCfg jobbing.saCopyNow j.sa).hostJobs = true
     ∧ (jobbing.saState j.sa).isSealed = false
     ∧ (jobbing.saCfg jobbing.saCopyNow (hostJob 15 0 4096 (zeros 32) []).sa).hostJobs = false)
    ∧ (∀ x ∈ [(0, 16, true, false), (2, 1200, false, true), (2, 16, false, false)],
     let b := sectorFrame x.1 x.2.1
     let d := (jobbing.setCopy 0 { port := 130, out := some b }).setPort 130 { tx := [0] }
     d.dataRuns = true ∧ (d.port 130).tx = [0] ∧ (d.copyRec 0).out = some b ∧ d.sectorBad b = false
     ∧ (byteAt b 24 / 64 ≠ 2 ↔ x.2.2.1 = true)
     ∧ ((byteAt b 24 / 64 = 2 ∧ beAt b 26 2 = 1200 ∧ d.cry.deliveries.length < 64) ↔ x.2.2.2 = true)) := by
  decide +kernel

theorem witness_JobsAreTakenAndRun_ends :
    (∀ len ∈ [1, 512], let j := { hostJob 15 0 4096 jobDesc [] with length := len }
     let d := { jobbing with cry := { queue := [j] } }
     d.dataRuns = true ∧ d.idleEngine = some 0 ∧ d.nextJob = some (j, false) ∧ (d.jobAllowed j).2 = true
     ∧ (d.startStatus j).isNone = (len == 512))
    ∧ (let j := { hostJob 15 0 4096 jobDesc [] with serial := some 0 }
     let d := { jobbing with cry := { suspended := [j] } }
     d.idleEngine = some 0 ∧ d.nextJob = some (j, true))
    ∧ (∀ n ∈ [1023, 1024], let j := hostJob 15 0 4096 jobDesc []
     let d := preempting n
     d.idleEngine = none ∧ d.newJob 2 = some j ∧ d.victim = some (0, { length := 512 }) ∧ d.cry.suspended.length = n
     ∧ (d.jobAllowed j).2 = true ∧ d.startStatus j = none ∧ j.waited = false)
    ∧ (let j := { hostJob 15 0 4096 jobDesc16 [] with keys := zeros 128, loaded := xtsSa }
     let d := { jobbing with cry := { running := [(15, j)] } }
     d.cry.running.find 15 = some j ∧ j.source = .ring 15 ∧ j.forced = none ∧ d.dmaOk (d.owner 143) = true
     ∧ (j.run (j.image (zeros 16)) j.units).1 ≠ [])
    ∧ (∀ r ∈ [0x3FFF, 0], let d := { Dev.staged jobbing [(Obj.tenRights 0, r)] with cry := { deliveries := [(sectorFrame 2 1200, 0, 0)] } }
     d.cry.deliveries = [(sectorFrame 2 1200, 0, 0)] ∧ ((d.mayDeliver 0 (beAt (sectorFrame 2 1200) 22 2)).2 = true ↔ r = 0x3FFF)
     ∧ d.noShadow 7 = false) := by
  decide +kernel

theorem witness_OrderIsRestored :
    (∀ n ∈ [0, 65535], let d := { (inState 3 []).setFrame 0 { seq := n, domain := 65535, pg := 3 } with
       swc := { results := [(3, [0])], domains := [(65535, { next := n })] } }
     let f := d.frame 0
     let x := d.orderDomain f.domain
     d.dataRuns = true ∧ d.swc.results.getD (fun _ => []) 3 = [0] ∧ d.poolAsked 0 = false ∧ f.seq = x.next ∧ x.next < 65536
     ∧ x.held = [] ∧ d.flushedTenant f.tenant = false ∧ d.expires f.parity = false)
    ∧ (∀ n ∈ [1, 32767, 32768, 65535], let d := { (inState 3 []).setFrame 0 { seq := n, domain := 65535, pg := 3 } with
       swc := { results := [(3, [0])] } }
     ((d.frame 0).seq + 65536 - (d.orderDomain 65535).next) % 65536 = n ∧ d.poolAsked 0 = false
     ∧ ({ d with eng := { channel := [(15, [(0, .pool 1 0 1 0 0 false)])] } } : Device).poolAsked 0 = true)
    ∧ (∀ r ∈ [Disp.drop, .forward], let d := (inState 3 []).setFrame 0 { result := { disp := r } }
     (d.frame 0).result.disp = r)
    ∧ (let d := { inState 3 [] with now := 1000000000, swc := { domains := [(65535, { held := [(7, 0)] })] } }
     (d.orderDomain 65535).held = [(7, 0)]
     ∧ (d.orderDomain 65535).since + us (d.arr islSWC Obj.swcReorderHoldUs) ≤ d.now)
    ∧ (∀ n ∈ [0, 2 ^ 24 - 1], let c : Copy := { port := 131, pg := 3, cls := 7, seq := n }
     let d := ((inState 3 []).setCopy 1 c).setStream (streamKey 131 3 7) { next := n }
     d.dataRuns = true ∧ d.pkt.copies.find 1 = some c ∧ c.stage = .transit ∧ c.seq = (d.stream (streamKey c.port c.pg c.cls)).next ∧ n < 2 ^ 24
     ∧ (d.stream (streamKey c.port c.pg c.cls)).held = [])
    ∧ (∀ n ∈ [1, 2 ^ 23 - 1, 2 ^ 23, 2 ^ 24 - 1], let c : Copy := { port := 131, pg := 3, cls := 7, seq := n }
     let d := (inState 3 []).setCopy 1 c
     d.pkt.copies.find 1 = some c ∧ (c.seq + 2 ^ 24 - (d.stream (streamKey 131 3 7)).next) % 2 ^ 24 = n ∧ d.heldItems 131 < 16384)
    ∧ (∀ n ∈ [0, 2 ^ 24 - 1], let k := streamKey 131 3 7
     let d := { (inState 3 []).setStream k { next := n } with swc := { markers := [(k, n)], streams := [(k, { next := n })] } }
     takeMarker 131 d.swc.markers = some ((k, (d.stream k).next), []) ∧ (d.stream k).next < 2 ^ 24 ∧ (d.stream k).held = [])
    ∧ (∀ item ∈ [none, some 0], let k := streamKey 131 3 7
     let d := { (inState 3 []).setStream k { held := [(9, item)] } with now := 1000000000 }
     (d.stream k).held = [(9, item)] ∧ (d.stream k).hole + us (d.arr islSWC (Obj.rsqReseqTimeoutUs 131)) ≤ d.now) := by
  decide +kernel

/-- A frame of 60 bytes that an engine forwards to the slow path, with all the cells in pool 0. -/
def admitting (p : Nat) : Device :=
  ((Dev.staged (inState 3 []) ([(Obj.poolSize 0, 1572864), (Obj.profPassLimit 0, 2)] ++ granted)).setFrame 0
    { bytes := zeros 60, pg := 3, viaEngine := true, result := { port := p } }).setPg 3 { admitting := [0] }

/-- A thread of cluster 15 whose side effect heads its channel. -/
def sideways (y : SideEffect) : Device :=
  let d := Dev.staged (inState 3 []) ([(Obj.tenCounterPage 0, 4095)] ++ granted)
  { d with eng := { threads := [(threadKey 15 0 0, { poolPending := true })], channel := [(15, [(threadKey 15 0 0, y)])] } }

theorem witness_FramesAreAdmitted :
    (∀ p ∈ [128, 129], let d := admitting p
     let f := d.frame 0
     let x := (f.result.port, f.result.queue)
     let k := f.result.cls
     let n := ceilDiv (editHead f.bytes f.result.head f.result.eIn).length 128
     let a := d.admEntry f.port f.cls
     (d.pgs 3).admitting = [0] ∧ d.dataRuns = true ∧ d.admOpen 3 = true ∧ f.direct = none ∧ f.viaEngine = true ∧ f.denied = false
     ∧ d.expires f.parity = false
     ∧ f.result.disp = .forward ∧ f.result.mcast = false ∧ f.result.meter = none ∧ x.1 ≤ 131 ∧ ¬ x.1 < 128
     ∧ f.pass < d.passLimit f ∧ d.denied f.tenant = false
     ∧ d.copyCheck f.withReason x = none ∧ d.egOcc x.1 k + n ≤ (d.admEntry x.1 k).2.1 ∧ d.ingOcc f.port f.cls + n ≤ a.1
     ∧ 0 < n ∧ n < 256 ∧ d.frostState 6 a.2.2 = 0 ∧ n ≤ (d.poolReach a.2.2 3).poolFree a.2.2
     ∧ n ≤ (d.poolReach a.2.2 3).deviceFree ∧ takeCells (d.poolReach a.2.2 3).cellsInUse (d.pgs 3).slice n = [0] ∧ n = 1)
    ∧ (let d := admitting 128
     ({ d with swc := { d.swc with admTurn := { cycle := 0, rank := 3, count := 4 } } } : Device).admOpen 3 = false
     ∧ ((d.setFrame 0 { denied := true }).frame 0).denied = true)
    ∧ (∀ x ∈ [(0, 4095), (255, 4095), (256, 4095), (0, 4096)],
     let d := Dev.staged (sideways (.count 0 x.1 64 false)) [(Obj.tenCounterPage 0, x.2)]
     d.channelHead 15 = some (threadKey 15 0 0, .count 0 x.1 64 false) ∧ d.dataRuns = true
     ∧ d.cfg islSWC false (Obj.tenCounterPage 0) = x.2)
    ∧ (∀ op ∈ [1, 4], let d := sideways (.pool op 31 1 0 0 false)
     d.channelHead 15 = some (threadKey 15 0 0, .pool op 31 1 0 0 false) ∧ d.poolOpen 31 (4 + 15) = true
     ∧ (d.thread? (threadKey 15 0 0)).any (fun x => x.frame == 0 && x.poolPending) = true) := by
  decide +kernel

/-- A copy queued to the slow path. -/
def queued : Device :=
  (((inState 3 []).setFrame 0 { bytes := zeros 60, accounted := 64 }).setCopy 0 { port := 128, queue := 65472 }).enqueue 0

/-- The PF's telemetry ring, and queue 65535 selected. -/
def sampling (l : List (Nat × Nat)) : Device :=
  (({ hosted ([(Obj.telemEnable, 1), (Obj.telemBase, 4096)] ++ l) with now := 1000020 }).put Obj.tmSojournAlarmNs 0).memWrite
    Obj.domSampleSelect 8184 [0x80]

theorem witness_PortsAreScheduled :
    (queued.mayChoose 128 = true ∧ (queued.chooseCopy 128).2 = some 0 ∧ (queued.copyRec 0).port = 128 ∧ queued.badCellsOf 0 = []
      ∧ (queued.copyRec 0).released = false)
    ∧ (∀ k ∈ [NodeId.port 131, .group 4095, .tenantNode 16383, .queue 65535],
     let d := { (inState 3 []).setNode (nodeIdKey k) { bucket := some (-8000), rate := 8, burst := 1 } with now := 1000 }
     let x := d.node (nodeIdKey k)
     x.eligible = false ∧ 0 ≤ refill x.bucket (d.now - x.last) x.rate x.burst)
    ∧ (let d := { (((queued.setNode 128 {}).setNode (queueNode 65472)
         { (queued.node (queueNode 65472)) with bucket := some (-8000), rate := 8 }) : Device) with now := 1000 }
     let x := d.node (queueNode 65472)
     x.parent = 128 ∧ x.eligible = false ∧ 0 ≤ refill x.bucket (d.now - x.last) x.rate x.burst
     ∧ d.nodeHas (queueNode 65472) = true ∧ nodeLevel x.parent = 0 ∧ nodeLevel (d.node x.parent).parent = 0)
    ∧ (let d := { ((((queued.setQueue 0 [0]).setNode (queueNode 0) { parent := tenantNode 0, bucket := some (-8000), rate := 8 }).setNode
         (tenantNode 0) { parent := groupNode 0 }).setNode (groupNode 0) {}) with now := 1000 }
     let x := d.node (queueNode 0)
     x.eligible = false ∧ 0 ≤ refill x.bucket (d.now - x.last) x.rate x.burst ∧ d.nodeHas (queueNode 0) = true
     ∧ nodeLevel x.parent = 2 ∧ nodeLevel (d.node x.parent).parent = 1
     ∧ nodeLevel (d.node (d.node x.parent).parent).parent = 0)
    ∧ (∀ x ∈ [([], true), ([(Obj.telemEntries, 64), (Obj.telemTail, 63)], false)],
     let d := sampling x.1
     d.dataRuns = true ∧ d.get Obj.telemEnable = 1 ∧ d.dmaOk 0 = true ∧ d.level = 0 ∧ d.tm.roundLeft = []
     ∧ d.selectedQueues.length = 1
     ∧ (decide ((d.get Obj.telemTail + 1) % d.get Obj.telemEntries ≠ d.get Obj.telemHead)) = x.2)
    ∧ ({ sampling [] with host := {} } : Device).dmaOk 0 = false
    ∧ ((sampling []).memWrite Obj.domSampleSelect 8184 [0]).selectedQueues = []
    ∧ 1 ≤ (sampling [(Obj.baroLevel, 1)]).level := by
  decide +kernel

/-- A round start falls on `sampling` whatever the offset of SWC's copy of the timestamp counter. -/
theorem witness_PortsAreScheduled_falls :
    (sampling []).tm.sampleAt / (sampling []).get Obj.sampleIntervalNs
      < (sampling []).timeAt islSWC / (sampling []).get Obj.sampleIntervalNs := by
  have e : (sampling []).get Obj.sampleIntervalNs = 1000000 := by decide +kernel
  have a : (sampling []).tm.sampleAt = 0 := by decide +kernel
  have n : (sampling []).now = 1000020 := by decide +kernel
  rw [e, a, Device.timeAt, if_neg (by decide), n]
  omega

/-! ### Worked examples of the spec -/

/-- Chapter 0: the packet buffer holds 1,572,864 cells. -/
theorem test_cells : 192 * 2 ^ 20 / 128 = cellCount ∧ cellCount = 0x180000 := by decide

/-- Chapter 2, "reading the device code": GO of the PF's READ of 0x0000.02, and the response. -/
theorem test_device_code :
    (let m : Mailbox := { request := [1, 1, 0xFF, 0, 0, 0, 0, 0x2A, 0, 0, 2, 0, 0, 0, 0, 0] ++ zeros 4080 }
     let d : Device := { inState 1 [] with host := { inL0 := true } }
     match step { sys (d.setMailbox 0 m) with pending := [.mailboxGo 0 0 [1, 0, 0, 0]] } with
     | .next s =>
       (s.d.mailbox 0).state == 1 && (match exec .kaznuRead s with
         | .next t => (t.d.mailbox 0).state == 2 && (t.d.mailbox 0).response
             == [1, 0x81, 0xFF, 0, 0, 0, 0, 0x2A, 0, 0, 2, 0, 0, 2, 0, 0, 0x12, 0x80]
         | _ => false)
     | _ => false) = true := by decide +kernel

/-- Chapter 3, "a VF confined to one tenant": entry 1 of target 0. -/
theorem test_access_entry : accessEntry true 1 4101 4101 0xA2C3 0xA2C3 = 0x8600B005A2C3A2C3 := by decide

/-- Chapter 5, "VXLAN in IPv6 arriving with STH": the frame with tenant 0x2C3 and class 3, for an IPv6 payload length. -/
def vxlan (v6 : Nat) : Bytes :=
  zeros 12 ++ sthHeader 0x88B5 0x2C3 3 ++ [0x86, 0xDD] ++ [0x60, 0, 0, 0] ++ beBytes 2 v6 ++ [17, 64] ++ zeros 32
  ++ [0xC1, 0xA2, 0x12, 0xB5, 0, 170, 0, 0] ++ [8, 0, 0, 0, 0, 0x5A, 0x3C, 0] ++ zeros 12 ++ [8, 0]
  ++ [0x45, 0, 0, 140, 0x24, 0xE3, 0, 0, 64, 6, 0x3A, 0x7C, 10, 1, 2, 3, 10, 4, 5, 6]
  ++ [0x9C, 0x40, 0x01, 0xBB] ++ zeros 8 ++ [0x50] ++ zeros 7 ++ zeros 100

/-- Its parse on the default graph with the limits of parse profile 3 but for those named. -/
def vxlanParse (v6 headers tunnel : Nat) : Walk × ParseEnd :=
  parseFrame (fun n => (PNode.ofBytes (defaultNode n), false)) ⟨256, headers, tunnel⟩ (vxlan v6) 0

/-- Tables 5-15 and 5-16: payload at 132, the key area, summary word 0, and every locator. -/
theorem test_parse_example :
    (let r := vxlanParse 170 16 2
     let ws := summaryWords 17 0x2C3 3 1 false 236 false 0 r.1 132
     (vxlan 170).length == 232 && r.2 == .done 132 && r.1.visits == 8 && ws.getD 0 0 == 0x112C364076208000
     && ws.getD 1 0 == 132 * 2 ^ 54 + 16 && ws.getD 2 0 == 0x02000A16103E024E && ws.getD 3 0 == 0x085C12701646200E
     && slice r.1.key 16 2 == [0x86, 0xDD] && slice r.1.key 58 6 == [17, 64, 0xC1, 0xA2, 0x12, 0xB5]
     && slice r.1.key 80 4 == [10, 1, 2, 3] && slice r.1.key 112 6 == [6, 0x40, 0x9C, 0x40, 0x01, 0xBB]
     && slice r.1.key 120 4 == [0, 0x5A, 0x3C, 0]) = true := by decide +kernel

/-- The three changes after Table 5-16. -/
theorem test_parse_limits :
    (vxlanParse 170 16 0).2 = .trap 1 32 78 false ∧ (vxlanParse 170 6 2).2 = .trap 1 35 92 false
    ∧ (vxlanParse 178 16 2).2 = .trap 2 8 22 false := by decide +kernel

/-- Table 7-22: the checksum after the TTL falls by one, and the flags of 0x0226. -/
theorem test_microcode_example :
    aluValue 0x10 0 0 0x3A7C 0x0100 0 = 0x3B7C ∧ aluValue 0x0A 24 7 0x40063A7C 0 0 = 0x40
    ∧ aluFlags 0x0C 0x40 1 (aluValue 0x0C 0 0 0x40 1 0) = 0 := by decide +kernel

/-- R209: a sum that wraps carries, and the two signed corners overflow. -/
theorem test_alu_flags :
    aluFlags 1 (2 ^ 64 - 1) 1 (aluValue 1 0 0 (2 ^ 64 - 1) 1 0) = 3
    ∧ aluFlags 2 (2 ^ 63) 1 (aluValue 2 0 0 (2 ^ 63) 1 0) = 8 ∧ aluFlags 2 0 1 (aluValue 2 0 0 0 1 0) = 6 := by decide +kernel

/-- Table 8-6: the flip of a COMMIT of mask 0x3018 at generation 0x14, COPY_MAP 0. -/
theorem test_commit_flip :
    (match exec .frontFlip (sys (let d := inState 3 [(Obj.frontPhase, 1), (Obj.generation, 0x14)]
        { d with front := { mask := 0x3018, boundUs := 2000 } })) with
     | .next s => s.d.get Obj.generation == 0x15 && s.d.readMgmt [] 0x1005 4 == some 0x30180000 && s.d.get Obj.frontPhase == 2
     | _ => false) = true := by decide +kernel

/-- "A sealed read preempted by SQUALL": the completion of a job whose unit 3 fails. -/
theorem test_job_completion :
    ({ cookie := 0x5A, unit := 4096, length := 20480, decrypt := true, sealing := true, preemptions := 1 } : Job).completion
      jsAUTHFAIL 5 [3] = [1, 3, 1, 0x5A, 0, 0x30, 0, 0, 5, 0, 1, 0, 0, 0, 0, 0, 8] ++ zeros 15 := by decide +kernel

/-- Table 11-3: the meter's colours for frames 1 to 5, 120 ns apart. -/
theorem test_meter_example :
    (let c : MeterCfg := { mode := 2, redDrop := true, profile := 1, rate1 := 1000000, burst1 := 3000, rate2 := 2000000, burst2 := 6000 }
     let f := fun (n : Nat) => (List.range n).foldl (fun (a : MeterState × List Nat) i =>
       let r := meterColour c (meterRefill c a.1 (120 * i)) 0 (1500 * 8000000)
       (r.1, a.2 ++ [r.2])) ({}, [])
     (f 5).2 == [0, 0, 1, 1, 2] && (f 2).1.t2 == 3030 * 8000000 && (f 4).1.t1 == 45 * 8000000
     && (f 4).1.t2 == 90 * 8000000 && (f 101).2.getD 50 9 == 1 && (f 101).2.getD 100 9 == 0) = true := by decide +kernel

/-- Table 13-4: the two records of event 579. -/
theorem test_event_record :
    recordBytes ⟨579, 3, 20, 1000000000, 0x0D02, 0, 1⟩ 1 { phase := false, seq := 0x117 }
      = [0x00, 0xCA, 0x9A, 0x3B, 0, 0, 0, 0, 0x43, 2, 0, 0x14, 1, 0, 0, 0, 2, 0x0D, 0, 0, 0, 0, 0, 0, 0x17, 1, 0, 0, 0, 0, 0, 0]
    ∧ recordBytes ⟨579, 3, 20, 1001000000, 0x0D02, 0, 1⟩ 500 { phase := true, seq := 0x118 }
      = [0x40, 0x0C, 0xAA, 0x3B, 0, 0, 0, 0, 0x43, 2, 3, 0x14, 0xF4, 1, 0, 0, 2, 0x0D, 0, 0, 0, 0, 0, 0, 0x18, 1, 0, 0, 0, 0, 0, 0] := by
  decide +kernel

/-- "A trapped frame on a receive ring": the descriptor, and the ring of RX_RING_MAP 0x0802 for tenant 0x2C3. -/
theorem test_rx_descriptor :
    (let f : Frame := { reason := 2, parity := false, port := 17, pass := 1, cls := 3, tenant := 0x2C3, trapNode := 8, trapOff := 22 }
     rxDescriptor 10000000000 f 3 232 true
       = [0, 0xE4, 0x0B, 0x54, 2, 0, 0, 0, 0xE8, 0, 2, 1, 0x11, 0x19, 0xC3, 2, 8, 0, 0x16, 0] ++ zeros 12
     ∧ (Dev.bytes base Obj.domRxRingMap 8 (beBytes 4 0x0802)).rxRing f = 11) := by decide +kernel

/-- "A torn anti-rollback burn": rows 64 to 67 VALID and 68 INVALID count five. -/
theorem test_torn_rollback :
    (let m := fuseWord markerData
     let f : Assoc Nat := [(64, m), (65, m), (66, m), (67, m), (68, 3)]
     fuseRollback f = 5 ∧ tornRows f = [68] ∧ rowState f 68 = 2 ∧ bits (fuseRowStates f) 137 136 = 2) := by decide +kernel

/-- CRC-32 of "123456789" and CRC-32C (the check values of the two polynomials). -/
theorem test_crc : crc32 (ascii "123456789") = 0xCBF43926 ∧ crc32c 0xFFFFFFFF (ascii "123456789") = 0x1CF96D7C := by decide +kernel

/-- FIPS 180-4: SHA-256 of "abc". -/
theorem test_sha256 :
    beNat (sha256 (ascii "abc")) = 0xBA7816BF8F01CFEA414140DE5DAE2223B00361A396177A9CB410FF61F20015AD := by decide +kernel

/-- FIPS 202: 32 bytes of SHAKE256 of nothing. -/
theorem test_shake256 : beNat (shake256 [] 32) = 0x46B9DD2B0BA88D13233B3FEB743EEB243FCD52EA62B81B82B50C27646ED5762F := by
  decide +kernel

/-- FIPS 197, appendix B: one AES-128 block. -/
theorem test_aes :
    beNat (aesEnc (roundKeys (beBytes 16 0x2B7E151628AED2A6ABF7158809CF4F3C)) (beBytes 16 0x3243F6A8885A308D313198A2E0370734))
      = 0x3925841D02DC09FBDC118597196A0B32 := by decide +kernel

end Sys2Proof.Tests
end

section
/-! ### Access tables (R83, R89) -/
namespace Sys2Proof.Machine

/-- Entry value `v` is VALID and its ranges hold master `m` and resource `x` (R89, Table 3-6). -/
abbrev accEntryMatches (v m x : Nat) : Prop :=
  v.testBit 63 = true ∧ bits v 44 32 ≤ m ∧ m ≤ bits v 57 45 ∧ bits v 15 0 ≤ x ∧ x ≤ bits v 31 16

/-- The number of the first entry of a target's table, in a storage copy, that matches master `m` and resource `x`. -/
def Device.accFirstMatch (d : Device) (c : Bool) (tg m x : Nat) : Option Nat :=
  (List.range 64).find? fun i => decide (accEntryMatches (d.copyGet c (Obj.accEntry tg i)) m x)

variable {d : Device} {c : Bool} {tg m x : Nat}

/-- A matching entry with none below it is the first. -/
theorem Device.accFirstMatch_eq_some {i : Nat} (hi : i < 64) (hit : accEntryMatches (d.copyGet c (Obj.accEntry tg i)) m x)
    (hlow : ∀ j, j < i → ¬ accEntryMatches (d.copyGet c (Obj.accEntry tg j)) m x) : d.accFirstMatch c tg m x = some i :=
  List.find?_range_eq_some.2 ⟨decide_eq_true hit, List.mem_range.2 hi, fun j hj => by rw [decide_eq_false (hlow j hj)]; rfl⟩

/-- With no matching entry there is no first one. -/
theorem Device.accFirstMatch_eq_none (hno : ∀ i, i < 64 → ¬ accEntryMatches (d.copyGet c (Obj.accEntry tg i)) m x) :
    d.accFirstMatch c tg m x = none :=
  List.find?_eq_none.2 fun i hi => mt of_decide_eq_true (hno i (List.mem_range.1 hi))

/-- While every entry and mask has its majority (R66), the rights are the class mask of the first matching entry, and none
where no entry matches (R89). -/
theorem Device.rightsMask_eq_firstMatch (hu : d.svc.unresolved = []) (c : Bool) (tg m x : Nat) :
    d.rightsMask c tg m x = (d.accFirstMatch c tg m x).elim 0
      fun i => d.copyGet c (Obj.accClassMask tg (bits (d.copyGet c (Obj.accEntry tg i)) 62 58)) := by
  unfold Device.rightsMask
  simp only [List.find?_map, hu]
  have hfirst : (List.range 64).find? ((fun e : Nat × Nat =>
        bit e.2 63 && decide (bits e.2 44 32 ≤ m) && decide (m ≤ bits e.2 57 45)
        && decide (bits e.2 15 0 ≤ x) && decide (x ≤ bits e.2 31 16)) ∘ fun i => (i, d.copyGet c (Obj.accEntry tg i)))
      = d.accFirstMatch c tg m x := by
    unfold Device.accFirstMatch
    congr 1
    funext i
    simp [accEntryMatches, bit, Bool.and_assoc]
  rw [hfirst]
  cases d.accFirstMatch c tg m x <;> simp

/-- A master without fixed rights holds now what the table gives it at the island's current parity (R83). -/
theorem Device.mayNow_of_notFixed (hm : ¬ (4144 ≤ m ∧ m ≤ 4164)) (isl tg x right : Nat) :
    d.mayNow isl tg m x right = d.mayFrame isl (d.ptr isl).parity tg m x right := by
  have hf : fixedMaster m = false := by simpa [fixedMaster] using hm
  simp [Device.mayNow, Device.mayFrame, hf]

/-- The rights mask decides both for a frame and, for a master without fixed rights, at the current entries. -/
theorem Device.may_of_rightsMask {isl v : Nat} {par : Bool}
    (hv : d.rightsMask ((d.ptr isl).copy par 13) tg m x = v) (right : Nat) :
    d.mayFrame isl par tg m x right = v.testBit right
    ∧ (par = (d.ptr isl).parity → ¬ (4144 ≤ m ∧ m ≤ 4164) → d.mayNow isl tg m x right = v.testBit right) := by
  have hframe : d.mayFrame isl par tg m x right = v.testBit right := by rw [Device.mayFrame, hv]
  refine ⟨hframe, ?_⟩
  rintro rfl hm
  rw [Device.mayNow_of_notFixed hm, hframe]

end Sys2Proof.Machine

namespace Sys2Proof.Machine

/-- Settles O10: the rights mask is that of the first matching entry, or 0. -/
theorem accessTablesDecide : Obligations.AccessTablesDecide := by
  intro d isl par tg m x right hu
  refine ⟨fun i hi hit hlow => Device.may_of_rightsMask ?_ right, fun hno => Device.may_of_rightsMask ?_ right⟩
  · rw [d.rightsMask_eq_firstMatch hu, Device.accFirstMatch_eq_some hi hit hlow, Option.elim_some]
  · rw [d.rightsMask_eq_firstMatch hu, Device.accFirstMatch_eq_none hno, Option.elim_none]

end Sys2Proof.Machine
end

section
/-! ### Frost commands that name no function (R87, R99) -/
namespace Sys2Proof.Machine

variable {d : Device} {w : Waiting}

/-- Tenant 0 reads ACTIVE (R87). -/
@[simp] theorem Device.frostState_tenantZero : d.frostState 1 0 = 0 := by simp [Device.frostState]

/-- Tenant 0 is no function that Frost takes (R99). -/
theorem frostable_tenantZero : frostable 1 0 = false := rfl

/-! What the service does beside its act leaves Frost alone. -/

@[simp] theorem Device.take_frost : (d.take w).frost = d.frost := by
  obtain ⟨_, _, _, h, -⟩ := d.take_eq w; rw [h]
@[simp] theorem Device.respond_frost (x : Response) : (d.respond w x).frost = d.frost := by
  obtain ⟨_, _, _, _, _, _, _, _, h, -⟩ := d.respond_eq w x; rw [h]
@[simp] theorem Device.noteLocked_frost (a : Ask) : (d.noteLocked a).frost = d.frost := by simp [Device.noteLocked]
@[simp] theorem Device.reply_frost (x : Response) : (d.reply w x).frost = d.frost := by
  unfold Device.reply; split <;> simp

/-- A Frost command that names no function of Table 3-8 is answered RANGE before anything else is looked at (R67, R99). -/
theorem actFrost_unfrostable (go : Device → FrostAsk → Device × Code) (f : Assoc Nat) (d : Device)
    (h : frostable (FrostAsk.ofNat w.ask.written).cls (FrostAsk.ofNat w.ask.written).inst = false) :
    actFrost go f d w = (d, some { code := .range }) := by
  simp [actFrost, answering, coded, Device.frostAsk, h]

/-- Each Frost row is served by a Frost act. -/
theorem exec_frostRow {r : Row} (hr : r ∈ [Row.frostSoft, .frostHard, .frostThaw, .frostDisable, .frostEnable]) :
    ∃ go, ∀ s, exec (Safety.rowCommand r) s = serve r (actFrost go) s := by
  simp only [List.mem_cons, List.not_mem_nil, or_false] at hr
  obtain rfl | rfl | rfl | rfl | rfl := hr <;> exact ⟨_, fun _ => rfl⟩

/-- A request whose act gives a response and leaves the device as it took it is served with it, and no function's Frost
changes. -/
theorem serves_of_act_only_answers {c : Instr} {r : Row} {act : Act} {s : State} {x : Response}
    (hc : exec c s = serve r act s) (hp : Safety.passes s r w)
    (hact : act s.fuses (s.d.take w) w = (s.d.take w, some x)) :
    Safety.serves c s w x (fun e => e.frost = s.d.frost) := by
  refine ⟨{ s with d := (s.d.take w).reply w x }, ?_, rfl, Device.reply_answered _ x, rfl, by simp⟩
  rw [hc, serve_passes hp, hact]

end Sys2Proof.Machine

namespace Sys2Proof.Machine

/-- Settles O21: tenant 0 is not frostable, so that every Frost act answers RANGE on the device as it was taken. -/
theorem tenantZeroStaysActive : Obligations.TenantZeroStaysActive := by
  refine ⟨fun d => d.frostState_tenantZero, fun r s w hr hp hcls hinst => ?_⟩
  obtain ⟨go, hgo⟩ := exec_frostRow hr
  have hzero : frostable (FrostAsk.ofNat w.ask.written).cls (FrostAsk.ofNat w.ask.written).inst = false := by
    rw [hcls, hinst, frostable_tenantZero]
  exact serves_of_act_only_answers (hgo s) hp (actFrost_unfrostable go s.fuses _ hzero)

end Sys2Proof.Machine
end
